-- ==== Sys2Proof/Word.lean ====
section
/-! DEFINITION. Word.lean: bytes, instants and the sparse table type every store of the model is kept in. -/

namespace Sys2Proof

/-- One byte, as the dictionary, the records and the memories hold it. -/
abbrev Byte := BitVec 8

/-- An instant on Meridian, counted in units of 1/65,536 ns from the PTP epoch (R10, R263). -/
abbrev Tick := Nat

/-- A sparse table: key and value pairs in strictly rising key order. What an unlisted key reads as is named
where the table is read. -/
abbrev Tab (α : Type) := List (Nat × α)

end Sys2Proof
end

