-- ==== Sys2Proof/Syntax.lean ====
section
/-! DEFINITION. Syntax.lean: the commands of the OVL4808, one constructor per row of spec/opcode_table.json, and the operands they carry. -/

namespace Sys2Proof

/-- Who writes or reads an object (R378): the CAN FD SDO server channel, a USDO client address, an Exfer
session, or a received RPDO (R387). -/
inductive Client where
  | sdo
  | usdo (node : Nat)
  | exfer (session : Nat)
  | rpdo (n : Nat)
  deriving DecidableEq, Repr

/-- An object's index and sub-index (R374). -/
structure Obj where
  idx : Nat
  sub : Nat
  deriving DecidableEq, Repr

/-- A host write: the object, the offset where the access names one (R487), and the value's bytes in the order
of R374. -/
structure HostWrite where
  obj  : Obj
  off  : Option Nat
  data : List Byte
  deriving DecidableEq, Repr

/-- SDO download messages (R387, R400). -/
inductive SdoDown where
  | expedited (o : Obj) (data : List Byte)
  | initiate (o : Obj) (size : Nat)
  | segment (toggle last : Bool) (data : List Byte)
  | badSpecifier
  deriving DecidableEq, Repr

/-- SDO upload messages (R387, R400). -/
inductive SdoUp where
  | initiate (o : Obj)
  | segment (toggle : Bool)
  deriving DecidableEq, Repr

/-- SDO block transfer messages (R387, R400): the transfer's start, one block of numbered segments with its last
mark, and the end with its CRC. -/
inductive SdoBlock where
  | initDown (o : Obj) (size : Nat)
  | block (firstSeq : Nat) (segments : List (List Byte)) (last : Bool)
  | endDown (crc : Nat)
  | initUp (o : Obj) (blockSize : Nat)
  | ackUp (acked blockSize : Nat)
  deriving DecidableEq, Repr

/-- USDO requests of CiA 1301 (R387): expedited and segmented, unicast. -/
inductive UsdoReq where
  | write (o : Obj) (off : Option Nat) (data : List Byte)
  | read (o : Obj) (off : Option Nat) (len : Nat)
  | writeStart (o : Obj) (size : Nat)
  | segment (toggle last : Bool) (data : List Byte)
  deriving DecidableEq, Repr

/-- How a long operation's physical work ended (R399): what the flash, the memories, the sampler or the partner
gave. -/
structure OpOutcome where
  /-- 0 on success, otherwise the kind's failure: for kind 1 the detail code of Table 19-7. -/
  fail   : Nat
  /-- The failing address of a memory test, or 0. -/
  addr   : Nat
  /-- The eye scan's cells, in the order of Table 13-5. -/
  cells  : List Nat
  deriving DecidableEq, Repr

/-- The fields of an Exfer datagram that every message carries (R390, Table 19-4), and the address it came from. -/
structure ExferHdr where
  /-- Port P0-P7 it arrived on. -/
  port    : Nat
  vlan    : Nat
  dst     : Nat
  /-- False where the datagram is malformed, too long or of an unknown version. -/
  good    : Bool
  auth    : Bool
  keySlot : Nat
  session : Nat
  seq     : Nat
  relay   : Nat
  /-- Bytes 0 to the end of the body, over which the tag is computed (R392). -/
  raw     : List Byte
  tag     : List Byte
  deriving DecidableEq, Repr

/-- One sample row data header of ST 2110-20 and the samples it carries, in pgroup order Cb, Y', Cr, Y'. -/
structure SampleRow where
  row    : Nat
  /-- Offset and length in luma samples; `whole` is false where the byte length is no whole number of pgroups. -/
  off    : Nat
  len    : Nat
  whole  : Bool
  cont   : Bool
  data   : List Nat
  deriving DecidableEq, Repr

/-- One ancillary packet (RFC 8331): data identifiers and user data. -/
structure AncPacket where
  did  : Nat
  sdid : Nat
  data : List Byte
  deriving DecidableEq, Repr

/-- What an RTP packet carries (Table 10-3). -/
inductive RxBody where
  | video (rows : List SampleRow)
  | audio (frames : List (List Nat))
  | anc (fOk : Bool) (pkts : List AncPacket)
  deriving DecidableEq, Repr

/-- A received frame, as the MAC and the checks of R210 see it. -/
structure RxPacket where
  port     : Nat
  /-- Destination MAC address to FCS, bytes. -/
  frameLen : Nat
  /-- Ethernet II, untagged or one tag, IPv4, unfragmented, UDP. -/
  shapeOk  : Bool
  ipSumOk  : Bool
  udpSumOk : Bool
  vlan     : Nat
  src      : Nat
  dst      : Nat
  udpDst   : Nat
  pt       : Nat
  ssrc     : Nat
  /-- RTP sequence number extended to 32 bits where the payload carries the extension (R215). -/
  seq      : Nat
  ts       : Nat
  body     : RxBody
  /-- PCS ingress instant (R272). -/
  pcs      : Tick
  deriving DecidableEq, Repr

/-- A PTP event or general message (R269, R273). `corr` is in units of 2^-16 ns. -/
structure PtpMsg where
  port    : Nat
  domain  : Nat
  source  : Nat
  seq     : Nat
  twoStep : Bool
  /-- originTimestamp, or the timestamp the message carries. -/
  stamp   : Tick
  corr    : Int
  /-- PCS ingress instant. -/
  pcs     : Tick
  deriving DecidableEq, Repr

/-- An Announce message (R267, Table 12-5). -/
structure AnnounceMsg where
  port      : Nat
  domain    : Nat
  source    : Nat
  gmId      : Nat
  prio1     : Nat
  clockClass : Nat
  accuracy  : Nat
  variance  : Nat
  prio2     : Nat
  steps     : Nat
  timeSource : Nat
  utcOffset : Int
  deriving DecidableEq, Repr

/-- A device-link frame as received (R291, R292). -/
structure LinkFrameIn where
  /-- 0 lower, 1 upper, 2 mirror (Table 13-7). -/
  link     : Nat
  /-- Code violation or disparity error seen inside the frame. -/
  codeErr  : Bool
  /-- /T/ stands at the position that the length gives. -/
  endOk    : Bool
  /-- The 4-byte header, the payload and the 2 bytes of CRC-16. -/
  bytes    : List Byte
  deriving DecidableEq, Repr

/-- What one lane of a link shows of the training sets it receives (R290, Table 13-2). -/
structure TrainingLane where
  lane     : Nat
  /-- Byte 1 is D10.2: the lane is inverted. -/
  inverted : Bool
  logical  : Nat
  kind     : Nat
  count    : Nat
  state    : Nat
  position : Nat
  /-- How many consecutive valid sets stand behind this report. -/
  run      : Nat
  deriving DecidableEq, Repr

/-- The commands of the block. Operands of protocol messages are what the wire carries; timed commands name what
falls due, and happen at the Meridian instant the state holds. -/
inductive Instr where
  -- commit sessions (R379-R384)
  | commitSessionOpen (c : Client) (ident : Nat)
  | commitSessionAbandon (c : Client)
  | stagedWrite (c : Client) (w : HostWrite)
  | implicitCommit (c : Client) (w : HostWrite)
  | commitExecute (c : Client)
  | commitWithdraw (c : Client) (ident : Nat)
  | commitTarget
  | sessionTimeout (c : Client)
  | frameObjectWrite (c : Client) (w : HostWrite)
  | objectWrite (c : Client) (w : HostWrite)
  -- long operations (R398, R399)
  | firmwareInstallStart (c : Client)
  | memoryTestStart (c : Client)
  | eyeScanStart (c : Client)
  | cascadeJoinStart (c : Client)
  | pairResyncStart (c : Client)
  | dictionarySaveStart (c : Client)
  | operationSuspend (c : Client) (k : Nat)
  | operationResume (c : Client) (k : Nat)
  | operationCancel (c : Client) (k : Nat)
  | operationComplete (k : Nat) (o : OpOutcome)
  -- command objects
  | storeParameters (c : Client) (value : Nat)
  | restoreDefaults (c : Client) (value : Nat)
  | atlasCommit (c : Client)
  | freezeExit (c : Client)
  | hostCheckStart (c : Client)
  | hostCheckComplete
  | triggerArm (c : Client)
  | triggerDisarm (c : Client)
  | triggerFire
  | tioModeWrite (c : Client) (pin mode : Nat)
  | tioEdge (pin : Nat)
  | framePulse (pin : Nat)
  | tioCapture (pin : Nat) (rising : Bool) (pulseNs : Nat)
  | tioCaptureRead (c : Client) (pin : Nat)
  | gateListArm (c : Client) (port count : Nat)
  | gateListTakeover (port : Nat)
  | meridianWrite (c : Client) (data : List Byte)
  | powerStateRequest (c : Client) (value : Nat)
  | powerTransitionComplete
  | acknowledgeSerial (c : Client) (serial : Nat)
  | laneRetrain (c : Client) (lane value : Nat)
  -- CAN FD (R386-R389, R400, R425)
  | nmtStart (node : Nat)
  | nmtStop (node : Nat)
  | nmtEnterPreOperational (node : Nat)
  | nmtResetNode (node : Nat)
  | nmtResetCommunication (node : Nat)
  | sdoDownload (r : SdoDown)
  | sdoUpload (r : SdoUp)
  | sdoBlockTransfer (r : SdoBlock)
  | usdoRequest (node : Nat) (r : UsdoReq)
  | sdoTimeout (c : Client)
  | rpdoReceive (n : Nat) (data : List Byte)
  | tpdoSend (n : Nat)
  | canHeartbeatSend
  | nodeIdConflict (cobId : Nat)
  | emcySend
  -- Exfer (R390-R397, R427)
  | exferSessionOpen (d : ExferHdr) (nonce : List Byte)
  | exferSessionClose (d : ExferHdr)
  | exferSessionIdleTimeout (session : Nat)
  | exferRead (d : ExferHdr) (o : Obj) (off len : Nat)
  | exferWrite (d : ExferHdr) (o : Obj) (off : Nat) (data : List Byte)
  | exferBlockOpen (d : ExferHdr) (o : Obj) (fromModule : Bool) (off total : Nat)
  | exferBlockData (d : ExferHdr) (transfer off : Nat) (data : List Byte)
  | exferBlockAck (d : ExferHdr) (transfer next : Nat)
  | exferBlockEnd (d : ExferHdr) (transfer crc : Nat)
  | exferBlockResend (session : Nat)
  | exferBlockStall (session : Nat)
  | exferSubscribe (d : ExferHdr) (minSeverity first : Nat)
  | exferCommit (d : ExferHdr) (record : List Byte)
  | exferRelay (d : ExferHdr) (response : Option (List Byte))
  | pairHeartbeatNotify (serial : Nat) (record raw tag : List Byte)
  | notifySend (session : Nat)
  -- network ingress (R208-R230)
  | packetReceive (p : RxPacket)
  | lineClose (f slot line : Nat)
  | ancillaryClose (f slot : Nat)
  | audioSampleClose (f index : Nat)
  | flowPathSilent (f : Nat) (pathB : Bool)
  | arpRequest (port target senderIp senderMac : Nat)
  | arpRefresh (port : Nat) (answers : List (Nat × Nat))
  -- coding path
  | preAnalysisBand (f slot band : Nat)
  | compositionBand (c slot band : Nat)
  | pictureDecision (c : Nat)
  | rowDecision (c slot row : Nat)
  | rowCoding (c slot row : Nat)
  | replacementAu (c slot : Nat)
  | auAssembly (c slot : Nat)
  | modelUpdate (c slot : Nat)
  | packetisation (c slot : Nat)
  | deadlineRescue (c slot : Nat)
  -- Orchard and the collector
  | completionRecordWrite (producer : Nat)
  | collectorRound
  | taskCreationDelayed (kind c slot row : Nat)
  -- egress
  | packetDeparture (port : Nat)
  -- pair (R159-R180)
  | sendGate (c slot : Nat)
  | pairHeartbeatSend
  | pairHeartbeat (record : List Byte)
  | bandRecord (record : List Byte)
  | decisionRecord (record : List Byte)
  | auRecord (record : List Byte)
  | resyncRequest (record : List Byte)
  | resyncRecord (record : List Byte)
  | deferredDecisionTimeout (c : Nat)
  | yield (record : List Byte)
  | roleListenExpiry
  | activeLost
  | promotionComplete
  | mirrorLinkLost
  -- cascade (R181-R207)
  | cascadeHeartbeatSend
  | cascadeHeartbeat (message : List Byte)
  | memberLost (position : Nat)
  | masterLost
  | frameReport (message : List Byte)
  | reportClose (slot : Nat)
  | canvasDecision (message : List Byte)
  | rowRecord (message : List Byte)
  | rowAcknowledgement (message : List Byte)
  | auReport (message : List Byte)
  | bandSegment (message : List Byte)
  | bandRetryRequest (message : List Byte)
  | bandClose (slot row : Nat)
  | mergeClose (slot : Nat)
  | relayedCommit (message : List Byte)
  | commitVote (message : List Byte)
  | lossNotice (message : List Byte)
  -- device links and lanes (R284-R297, R258)
  | linkFrame (x : LinkFrameIn)
  | compensationSequence (link : Nat) (lanesSeen : List Nat) (occupancy : List Int) (skew : Nat)
  | cdrLock (link : Nat) (lanes : List Nat)
  | equaliserAdaptation (link : Nat) (openings : List (List Nat))
  | trainingSet (link : Nat) (sets : List TrainingLane)
  | linkStateTimeout (link : Nat)
  | deviceLinkDown (link cause : Nat)
  | lanePllLockLoss (group : Nat)
  | portLinkDown (port : Nat)
  | portLinkUp (port : Nat)
  -- PTP (R266-R274)
  | sync (m : PtpMsg)
  | followUp (m : PtpMsg)
  | delayResp (m : PtpMsg)
  | delayReq (m : PtpMsg)
  | announce (m : AnnounceMsg)
  | syncSend (port : Nat)
  | announceSend (port : Nat)
  | delayReqSend (port : Nat)
  | referenceLost
  -- media and system PLLs (R256-R262, R275-R278)
  | outerLoopUpdate (audio : Bool) (phaseNs : Int)
  | mediaPllLockLoss (audio : Bool) (slip : Bool) (phaseNs : Int)
  | pllMeasureWindow (audio : Bool) (cycles : Nat)
  | pllRelock (audio : Bool)
  | systemPllLoss
  -- serial audio (R298-R313)
  | audioFrame (port : Nat) (edge : Tick) (words : List Nat)
  | audioIndexClose (port index : Nat)
  | audioPortStart (port : Nat)
  | portClockLost (port : Nat)
  | holdLimit (port : Nat)
  | rateWindow (port : Nat)
  -- Atlas (R314-R326)
  | atlasApply
  | atlasLine (line : Nat)
  -- memory and movers (R345-R364)
  | dramUncorrectable (cause addr coords syndromes port : Nat) (task : Option Nat)
  | freezeHoldExpiry
  | scrubPass
  | sramUncorrectable (partition addr : Nat)
  | descriptorComplete (channel : Nat) (errorAt : Option Nat)
  -- power and reset (R430-R454, R483)
  | vinStartGate
  | vinOff
  | resetNAssert (lowNs : Nat)
  | resetNRelease (straps : Nat)
  | watchdogReset (cause : Nat)
  | domainPowerFail (domain : Nat)
  | pd0PowerFail
  | domainRelease
  | startStage
  | holdRelease
  | eventWrite
  | announceReceiptTimeout (port : Nat)
  | vinBelowLimit
  | stackTemperatureChange (celsius : Int)
  deriving DecidableEq, Repr

end Sys2Proof
end

