-- ==== Sys2Proof/Config.lean ====
section
/-! DEFINITION. Config.lean: what one unit fixes at manufacture, what the spec leaves open, and what the standards the
spec points to (not the spec itself) compute. None of these has a body: every statement holds whatever they are. -/

namespace Sys2Proof.Config

/-- A fresh value for every use; applied to the counter `free` of the state (log 3). -/
opaque freeNat : Nat → Nat

/-- Serial number 0x1018:04, set at manufacture (R5). -/
opaque serial : Nat
/-- Port MAC addresses 0x2106, set at manufacture (R230). -/
opaque mac : Nat → Nat
/-- Patch level of 0x100A:00 (R5). -/
opaque patchLevel : Nat
/-- The unit's own PTP clock identity (Table 12-5 names it, no rule gives it). -/
opaque clockId : Nat
/-- Internal ingress and egress latencies of a port, in units of 1/65,536 ns (R272). -/
opaque internalLatency : Bool → Nat → Int

/-- HMAC-SHA-256, its first 16 bytes (R392): key, then message. -/
opaque hmac : List Byte → List Byte → List Byte
/-- The patch level of the release that an installed firmware image holds (R5). -/
opaque imagePatch : List Byte → Nat

/-- Whether a staged firmware image is well formed, and whether its ECDSA P-384 signature verifies (R399). -/
opaque imageForm : List Byte → Bool
opaque imageSigned : List Byte → Bool

/-- What the coding of one CTU may draw on (R52): channel configuration in force, picture facts, position, the QPs of
its row, the source samples of the CTU's row band, the reconstructed samples of the active references, the search results
(R76), the decisions of the collocated picture, of the rows above and of the CTUs before it in the row, the samples of the row
above before in-loop filtering, and the CABAC state that the row starts from (R48). -/
structure CtuIn where
  chan     : Nat
  setup    : List Int
  poc      : Int
  /-- No inter alternative: an intra picture, an intra column, or no active reference. -/
  intra    : Bool
  row      : Nat
  col      : Nat
  qp       : Nat
  qps      : List Nat
  source   : List Nat
  refs     : List (List Nat)
  /-- For each search block of the CTU, for each reference: the nine shapes' vectors in quarter samples, their integer vectors,
  and those rounded to a multiple of 4 samples; empty where no position is valid. -/
  vectors  : List (List (Int × Int))
  /-- Empty where temporal motion vector prediction is off (R44, R189). -/
  colModes : List (List Int)
  before   : List (List Int)
  /-- The mode decision of this CTU (R78-R83), or what R107 and R108 fix of a guard CTU. -/
  modes    : List (List Int)
  upModes  : List (List Int)
  up       : List Nat
  start    : List Byte
  clamped  : Bool
  /-- Regions of a canvas whose frame is absent (R187). -/
  absent   : List Nat
  deriving DecidableEq, Repr

/-- Bits by which coding a CTU normally grows the substream, after emulation prevention (R116): the codec's own
syntax and CABAC (H.266, H.265), with the modes of the mode decision. -/
opaque ctuBits : CtuIn → Nat
/-- Bins of a CTU, and the bins a row may hold: its equal share of the bin limit of its codec (R129). -/
opaque ctuBins : CtuIn → Nat
opaque binShare : List Int → Nat
/-- Bits of CABAC termination, flush and alignment of a row; the model keeps them within the row overhead (R109). -/
opaque flushBits : CtuIn → Nat
/-- Bits of a guard CTU (R107); the model keeps them within the bound of Table 5-1. -/
opaque guardBits : CtuIn → Nat
/-- The CABAC context state after a CTU (R48, R193). -/
opaque contextState : CtuIn → List Byte
/-- Substream bytes: the row's facts, its first CTU column, how many CTUs were coded normally, byte position. -/
opaque substreamByte : CtuIn → Nat → Nat → Nat → Byte

/-! Of one coding alternative of a block: the CTU, the decisions made in it so far, the alternative. -/

/-- A predicted sample, or a sample that an in-loop filter alternative gives: component, column and row. -/
opaque predicted : CtuIn → List (List Int) → List Int → Nat → Nat × Nat → Nat
/-- Transform coefficients of a component in 1/512 of a quantiser step, in groups of a coefficient group in scan order (R82):
component, the 4 × 4 luma blocks that skip the transform as a mask, the joint Cb-Cr mode. -/
opaque coefficients : CtuIn → List (List Int) → List Int → Nat → Nat × Nat → List (List Int)
/-- A sample of the residual that levels give: component, mask, joint mode, levels, column and row. -/
opaque residual : CtuIn → List (List Int) → List Int → Nat → Nat × Nat → List (List Int) → Nat × Nat → Int
/-- The bins of its syntax with the levels of the three components: for a context-coded bin the probability of its value in
64ths, from the context states at the start of the CTU; none for a bypass bin (R78). -/
opaque bins : CtuIn → List (List Int) → List Int → Nat × Nat → List (List (List Int)) → List (Option Nat)
/-- How many 4 × 4 luma transform blocks it has (R82). -/
opaque luma4 : CtuIn → List (List Int) → List Int → Nat
/-- Samples that an inter alternative reads: reference index, first and last column, first and last line (R44, R198). -/
opaque blockReads : CtuIn → List (List Int) → List Int → List (Nat × Int × Int × Int × Int)
/-- The last column that an intra alternative reads for its prediction (R44). -/
opaque intraReads : CtuIn → List (List Int) → List Int → Nat
/-- Whether an intra mode is a most probable mode of a block (R81). -/
opaque isMpm : CtuIn → List (List Int) → List Int → Bool
/-- The merge list of a block: for each candidate, in each list it uses, the reference index and the vector (R107). -/
opaque mergeList : CtuIn → List (List Int) → List Int → List (List (Nat × Int × Int))
/-- Control-point vectors that a block inherits from an affine-coded neighbour, given by its decision (R77). -/
opaque affineInherited : CtuIn → List (List Int) → List Int → List Int → Option (Int × Int × Int × Int)

/-- A sample of the codec's 8-tap luma interpolation (R76): codec, the 8 × 8 integer samples from 3 before to 4 after in each
direction, and the fractions in quarter samples. -/
opaque interpolate : Nat → List Nat → Nat → Nat → Nat
/-- The DC value of the samples above a block and left of it, by the codec's DC mode (R108): codec, depth, both. -/
opaque dcValue : Nat → Nat → List Nat → List Nat → Nat
/-- A sample of a CTU row after in-loop filtering: channel set-up, whether the slice filters, decisions and unfiltered samples
of the row and of its neighbours above and below, sample position. -/
opaque filtered : List Int → Bool → List (List Int) → List Nat → List Nat → List Nat → Nat → Nat

/-! Syntax structures, by the codec's standard: each from the values of its syntax elements, by name, which the model gives. -/

/-- Bytes of a NAL unit's payload: codec, nal_unit_type, elements. -/
opaque nalBytes : Nat → Nat → List (String × Int) → List Byte
/-- The slice header up to the entry-point syntax, as bits (R133): codec, elements. -/
opaque sliceHeaderBits : Nat → List (String × Int) → List Bool
/-- An SEI payload: codec, payloadType, elements. -/
opaque seiPayload : Nat → Nat → List (String × Int) → List Byte
/-- Hours, minutes, seconds and frames of an ATC packet (SMPTE ST 12-2), and of an instant in ns by SMPTE ST 2059-1: the UTC
offset and the local offset in seconds, the rate code (R136). -/
opaque atcClock : List Byte → Nat × Nat × Nat × Nat
opaque st2059Clock : Nat → Int → Int → Nat → Nat × Nat × Nat × Nat
/-- ATSC A/53 cc_data of a caption packet (SMPTE ST 334-1), and the AFD of an AFD packet (R139). -/
opaque ccData : List Byte → List Byte
opaque afdData : List Byte → List Byte
/-- The bytes of one component that the decoded picture hash covers, in the codec's order (R137): bit depth, samples. -/
opaque hashBytes : Nat → List Nat → List Byte
/-- Bits of the subpicture or tile syntax of a canvas's SPS and PPS (R129): codec, elements. -/
opaque canvasSyntaxBits : Nat → List (String × Int) → Nat

/-- The PTP servo's frequency estimate and phase correction, in ppb, from the offsets seen, newest first; the model keeps
both within their limits (R269). -/
opaque servoFreq : List Int → Int
opaque servoPhase : List Int → Int
/-- The outer loop's change of a divider word, from the word and the phase error in ns; the model keeps it within
0.1 ppm (R262). -/
opaque outerStep : Nat → Int → Int

/-- The section of a PAT (0) or PMT (1) beyond the fields of R238, by the transport stream standard: what it names. -/
opaque psiSection : Nat → List Nat → List Byte
/-- A pair of samples packed by ST 302M (R239): word length, the two samples, their index. -/
opaque aesPair : Nat → Nat → Nat → Nat → List Byte

end Sys2Proof.Config
end

