-- ==== Sys2Proof/Machine/Bits.lean ====
section
/-! DEFINITION. Bits.lean: byte orders, bit fields, sign, sparse tables, and the two CRCs of R365. -/

namespace Sys2Proof.Machine

/-! ### Byte orders (R374, R390) -/

/-- A big-endian number. -/
def beNat (bs : List Byte) : Nat :=
  bs.foldl (fun a b => a * 256 + b.toNat) 0

/-- A little-endian number. -/
def leNat (bs : List Byte) : Nat :=
  bs.foldr (fun b a => b.toNat + a * 256) 0

/-- The low `n` bytes of a number, least significant first. -/
def leBytes : Nat → Nat → List Byte
  | 0, _ => []
  | n + 1, v => BitVec.ofNat 8 v :: leBytes n (v / 256)

/-- The low `n` bytes of a number, most significant first. -/
def beBytes (n v : Nat) : List Byte :=
  (leBytes n v).reverse

/-- Two's complement of an integer in `n` bytes. -/
def wrapInt (n : Nat) (v : Int) : Nat :=
  (v % (2 ^ (8 * n) : Int)).toNat

/-- A number of `w` bits read as signed. -/
def signed (w : Nat) (v : Nat) : Int :=
  if v % 2 ^ w < 2 ^ (w - 1) then (v % 2 ^ w : Nat) else (v % 2 ^ w : Nat) - (2 ^ w : Int)

/-- Bytes `off` to `off + len − 1` of a list. -/
def slice (bs : List Byte) (off len : Nat) : List Byte :=
  (bs.drop off).take len

/-- The big-endian field at bytes `off` to `off + len − 1`. -/
def field (bs : List Byte) (off len : Nat) : Nat :=
  beNat (slice bs off len)

/-- Zeros. -/
def zeros (n : Nat) : List Byte :=
  List.replicate n 0

/-- A list brought to length `n`: cut, or padded with zeros. -/
def fit (n : Nat) (bs : List Byte) : List Byte :=
  bs.take n ++ zeros (n - bs.length)

/-- Bits `hi` down to `lo` of a number. -/
def bits (v hi lo : Nat) : Nat :=
  (v / 2 ^ lo) % 2 ^ (hi + 1 - lo)

/-- Bit `i` of a number. -/
def bit (v i : Nat) : Bool :=
  v.testBit i

/-- A number with bit `i` set or cleared. -/
def setBit (v i : Nat) (b : Bool) : Nat :=
  if v.testBit i == b then v else if b then v + 2 ^ i else v - 2 ^ i

/-- How many of the bits 0 to `n − 1` are set. -/
def popCount (n v : Nat) : Nat :=
  ((List.range n).filter (v.testBit ·)).length

/-- 1 for true. -/
def b2n (b : Bool) : Nat := if b then 1 else 0

/-- Quotient rounded up. -/
def cdiv (a b : Nat) : Nat := (a + b - 1) / b

/-- A number held between two bounds. -/
def clampI (lo hi v : Int) : Int := max lo (min hi v)

/-- The difference `a − b` of two counters of `w` bits, as a signed distance. -/
def serialDiff (w a b : Nat) : Int :=
  signed w ((a + 2 ^ w - b % 2 ^ w) % 2 ^ w)

/-! ### Sparse tables -/

/-- What a key reads as: its entry, or `d`. -/
def Tab.get {α : Type} (d : α) : Tab α → Nat → α
  | [], _ => d
  | (k, v) :: t, n => if n = k then v else Tab.get d t n

/-- The entry of a key, if listed. -/
def Tab.find? {α : Type} : Tab α → Nat → Option α
  | [], _ => none
  | (k, v) :: t, n => if n = k then some v else Tab.find? t n

/-- Without a key. -/
def Tab.erase {α : Type} : Tab α → Nat → Tab α
  | [], _ => []
  | (k, v) :: t, n =>
    if n < k then (k, v) :: t
    else if n = k then t
    else (k, v) :: Tab.erase t n

/-- With an entry put in its place in the order. -/
def Tab.put {α : Type} : Tab α → Nat → α → Tab α
  | [], n, a => [(n, a)]
  | (k, v) :: t, n, a =>
    if n < k then (n, a) :: (k, v) :: t
    else if n = k then (n, a) :: t
    else (k, v) :: Tab.put t n a

/-- A write in canonical form: an entry equal to what an unlisted key reads as is not listed. -/
def Tab.set {α : Type} [DecidableEq α] (d : α) (t : Tab α) (n : Nat) (a : α) : Tab α :=
  if a = d then Tab.erase t n else Tab.put t n a

/-- Keys rise strictly from `lo` on. -/
def Tab.sortedFrom {α : Type} : Nat → Tab α → Bool
  | _, [] => true
  | lo, (k, _) :: t => decide (lo ≤ k) && Tab.sortedFrom (k + 1) t

/-- The canonical form: keys strictly rising, and no entry equal to what an unlisted key reads as (`d`). -/
def Tab.wf {α : Type} [DecidableEq α] (d : Nat → α) (t : Tab α) : Bool :=
  Tab.sortedFrom 0 t && t.all fun p => p.2 != d p.1

/-- An update of one entry through a function, from `d` where unlisted. -/
def Tab.upd {α : Type} (d : α) (t : Tab α) (n : Nat) (f : α → α) : Tab α :=
  Tab.put t n (f (Tab.get d t n))

/-! ### Check values (R365) -/

/-- One bit of the reflected CRC-32C register. -/
def crc32cBit (c : Nat) : Nat :=
  if c % 2 = 1 then (c / 2) ^^^ 0x82F63B78 else c / 2

/-- One byte into the CRC-32C register. -/
def crc32cByte (c : Nat) (b : Byte) : Nat :=
  let c0 := c ^^^ b.toNat
  crc32cBit (crc32cBit (crc32cBit (crc32cBit (crc32cBit (crc32cBit (crc32cBit (crc32cBit c0)))))))

/-- The CRC-32C of a list of bytes: initial value and final XOR 0xFFFFFFFF (R365). -/
def crc32c (bs : List Byte) : Nat :=
  bs.foldl crc32cByte 0xFFFFFFFF ^^^ 0xFFFFFFFF

/-- One bit of the CRC-16 register, polynomial 0x1021, not reflected. -/
def crc16Bit (c : Nat) : Nat :=
  if 0x8000 ≤ c then ((c * 2) % 0x10000) ^^^ 0x1021 else c * 2

/-- One byte into the CRC-16 register. -/
def crc16Byte (c : Nat) (b : Byte) : Nat :=
  let c0 := c ^^^ (b.toNat * 256)
  crc16Bit (crc16Bit (crc16Bit (crc16Bit (crc16Bit (crc16Bit (crc16Bit (crc16Bit c0)))))))

/-- The CRC-16 of a list of bytes: initial value 0xFFFF, no final XOR (R365). -/
def crc16 (bs : List Byte) : Nat :=
  bs.foldl crc16Byte 0xFFFF

/-- The 12-byte fold block of Table 18-2 (R366): kind, channel, region or position, index, slot. -/
def foldBlock (kind chan region index slot : Nat) : List Byte :=
  [BitVec.ofNat 8 kind, BitVec.ofNat 8 chan, BitVec.ofNat 8 region, 0] ++ beBytes 4 index ++ beBytes 4 slot

/-- A folded check value (R366). -/
def foldedCrc (kind chan region index slot : Nat) (data : List Byte) : Nat :=
  crc32c (foldBlock kind chan region index slot ++ data)

end Sys2Proof.Machine
end

