-- ==== Sys2Proof/Machine/TypesChannel.lean ====
section
/-! DEFINITION. TypesChannel.lean: the state of a channel: pool and marks, rate control, access units in flight. -/

namespace Sys2Proof.Machine

/-- Marks of a picture entry; an unused entry leaves the table (R91, Table 4-1). -/
inductive Mark where
  | shortTerm | longTerm | pinned
  deriving DecidableEq, Repr

/-- A picture entry of the mark table (R91). -/
structure PicEntry where
  poc    : Nat
  /-- The slot of the AU that created it. -/
  slot   : Nat
  mark   : Mark
  anchor : Bool
  /-- The buffer it refers to; none is the constant source (R96). -/
  buf    : Option Nat
  /-- It shares its root's buffer (R96), and the root's POC then. -/
  shared : Bool
  rootPoc : Nat
  /-- Reconstruction check value where the entry refers to the constant source (R367). -/
  recon  : Nat
  deriving DecidableEq, Repr

/-- A pool buffer (R86, R90): poison, a soft hold of a tile, and the reconstructed CTU rows, samples Y', Cb, Cr. -/
structure PoolBuf where
  poison : Bool
  soft   : Bool
  /-- A band export to a neighbour is in progress (R90). -/
  exporting : Bool
  rows   : Tab (List Nat)
  /-- The rows as settled, before in-loop filtering across the row below (R72). -/
  raw    : Tab (List Nat)
  /-- Stored search results (R69), by reference index and search block: vector in quarter samples and POC distance. -/
  motion : Tab (Int × Int × Int)
  /-- Mode decisions of its CTU rows, as far as they were coded normally (R78-R83), and guard CTUs as such. -/
  modes  : Tab (List (List Int))
  /-- Coded as an intra picture: no temporal candidates come from it. -/
  intra  : Bool
  /-- Reconstruction check value of the picture it holds, once settled (Table 18-1). -/
  recon  : Nat
  /-- The slot of that picture. -/
  slot   : Nat
  deriving DecidableEq, Repr

/-- Where a CTU row stands (R48, R115). -/
inductive RowStage where
  | waiting | decided | settled
  deriving DecidableEq, Repr

/-- A CTU row of an AU (R115-R119). -/
structure RowRt where
  stage : RowStage
  guard : Bool
  q     : Nat
  allow : Nat
  /-- S[r]: the settled total in bits. -/
  total : Nat
  tail  : Bool
  /-- CTUs coded normally. -/
  coded : Nat
  /-- X_I[r], X_P[r] of the decision (R113). -/
  xi    : Nat
  xp    : Nat
  /-- Its substreams: one, or in a canvas one for each Graticule column of the member (R192). -/
  subs  : List (List Byte)
  /-- The CABAC context states that the row below starts from, one for each of those (R48). -/
  ctxs  : List (List Byte)
  /-- Its bands were absent at its band close (R198). -/
  clamped : Bool
  deriving DecidableEq, Repr

/-- What the decision of an AU fixed of its configuration (R53, R122): every value that its bits draw on. -/
structure AuCfg where
  codec  : Nat
  chroma : Nat
  depth  : Nat
  width  : Nat
  height : Nat
  rate   : Nat
  source : Nat
  ctu    : Nat
  d      : Nat
  k      : Nat
  cap    : Nat
  u      : Nat
  qt     : Nat
  actS   : Nat
  lim    : Nat
  headroom : Nat
  /-- ±Rh and ±Rv of the motion search (R70). -/
  rh     : Nat
  rv     : Nat
  /-- Coded as a member of a canvas (R186): width and height are then the member rectangle's. -/
  canvas : Bool
  /-- The rectangle's top-left sample in the canvas, and the canvas size. -/
  x0     : Nat
  y0     : Nat
  cw     : Nat
  ch     : Nat
  /-- CTU column boundaries of the regions across the rectangle, 0 first; a picture of its own is one region. -/
  colAt  : List Nat
  /-- CTU row boundaries of the regions down it. -/
  rowAt  : List Nat
  /-- The regions of the rectangle in ascending order. -/
  regions : List Nat
  /-- The objects of the channel in force, in the order that the bitstream operations list them. -/
  objs   : List Int
  deriving DecidableEq, Repr

/-- An access unit from its picture-level decision to its last packet. -/
structure Au where
  slot   : Nat
  poc    : Nat
  cfg    : AuCfg
  /-- Skip AU (R22). -/
  skip   : Bool
  idr    : Bool
  /-- Index i of a GDR sweep picture, with G (R43). -/
  sweep  : Option (Nat × Nat)
  /-- Refresh-cause bits (R40, Table 8-3). -/
  cause  : Nat
  list0  : List PicEntry
  /-- Places in list0 whose picture a canvas member lacks or holds poisoned: it reads none of them (R99, R192). -/
  barred : List Nat
  held   : List PicEntry
  /-- The mark table after the decision, in its fixed order. -/
  marks  : List PicEntry
  buf    : Option Nat
  qb     : Nat
  raised : Bool
  /-- α_I, α_P and M as the decision read them. -/
  alphaI : Nat
  alphaP : Nat
  m      : Nat
  /-- A_ref, where a canvas decision gave it (R191). -/
  aRef   : Nat
  /-- Members lost for this AU (Table 9-2). -/
  lostMask : Nat
  /-- The slot whose analysis the decision drew on, where there is one (R67). -/
  basis  : Option Nat
  paramSets : Bool
  /-- Frame periods since the last buffering period AU (Table 5-2). -/
  bpDelay : Nat
  survey : Nat
  epoch  : Nat
  /-- Legend outcomes and slots shown, four layers (R157). -/
  legends : List (Nat × Nat)
  /-- Insets shown by an earlier frame: bit i (R148); and flow and source slot of each Inset's picture. -/
  insetAbsent : Nat
  insetFrames : List (Option (Nat × Nat))
  /-- Insets whose flow had not decided its presence when a canvas decision opened the AU: bit i. -/
  insetWait : Nat
  /-- Changes to mastering (bit 0) or light-level (bit 1) SEI at this AU (Table 6-4). -/
  seiChange : Nat
  /-- Composed bands in the coded format, samples Y', Cb, Cr of each CTU row (R146). -/
  bands  : Tab (List Nat)
  rows   : List RowRt
  /-- The replacement AU up to its suffix SEI, once its substreams are written (R24), with its bytes outside slice data. -/
  repl   : Option (List Byte × Nat)
  /-- It was replaced, or coded as a skip AU. -/
  replaced : Bool
  settled : Bool
  /-- The model has been updated from it (R119). -/
  modelled : Bool
  complete : Option Tick
  data   : List Byte
  check  : Nat
  sliceBits : Nat
  /-- Mirror: the partner's records of it seen (R165), the gate's outcome (R167). -/
  gate   : Option Bool
  /-- The send gate of a standby holds for it (R167). -/
  gated  : Bool
  /-- A promotion released it, to leave from the first wheel slot after the promotion is complete (R173, R174). -/
  late   : Bool
  /-- The pin order it applied: 0 none, 1 pin, 2 release (Table 8-3). -/
  pinned : Nat
  packetised : Bool
  deriving DecidableEq, Repr

/-- A pin request or release for a target AU's POC (R102): none releases. -/
structure PinOrder where
  target : Nat
  poc    : Option Nat
  deriving DecidableEq, Repr

/-- A mark load (R103). -/
structure MarkLoad where
  slot    : Nat
  entries : List (Nat × Mark × Bool × Nat)
  deriving DecidableEq, Repr

/-- A Legend layer's flip state (R155-R157). -/
structure LayerRt where
  shown   : Option Nat
  /-- The slots from which a new request is in force, newest first: a commit changed the requested slot or the required
  fence (R157). -/
  requests : List Nat
  /-- The request for which the not-ready and the held event have been raised. -/
  notReadyFor : Option Nat
  heldFor : Option Nat
  deriving DecidableEq, Repr

/-- A refresh that a skip AU or a rescued AU owes to a later AU (R22, R24, R25): its cause bits, whether it is to be an IDR
picture in either mode (R132), and whether it is a pulled refresh not yet counted (R100). -/
structure Moved where
  cause : Nat
  idr   : Bool
  owed  : Bool
  deriving DecidableEq, Repr

/-- A run of a channel from an enabling to a disabling commit (R488): its slots, its rate, and the refresh orders of its
commits: slot, cause bits, IDR. -/
structure RunSpec where
  first  : Nat
  stop   : Option Nat
  rate   : Nat
  orders : List (Nat × Nat × Bool)
  deriving DecidableEq, Repr

/-- A channel while it is enabled, and until its last AU has left. -/
structure ChanRt where
  running  : Bool
  firstSlot : Nat
  /-- Frame rate code of the run. -/
  rate     : Nat
  /-- Runs that later commits have ordered while this one's last AUs are still due. -/
  later    : List RunSpec
  nextSlot : Nat
  /-- The first slot that is not decided any more, once a commit disables the channel (R488). -/
  stopSlot : Option Nat
  nextPoc  : Nat
  marks    : List PicEntry
  bufs     : List PoolBuf
  /-- A buffer has been poisoned since the last decision (R100). -/
  poisoned : Bool
  /-- α_I and α_P as they stand after each AU's update, by slot; before the first, the initial values (R119, R121). -/
  alphas   : Tab (Nat × Nat)
  alpha0   : Nat × Nat
  qbPrev   : Option Nat
  /-- A sweep in progress: index of the next picture, G, POC of picture 0. -/
  sweep    : Option (Nat × Nat × Nat)
  /-- A refresh moved from a skip AU or a rescued AU. -/
  moved    : Option Moved
  /-- Forced refresh and parameter-set changes, by the slot they fall on (R45, R132): slot, cause bits, IDR. -/
  orders   : List (Nat × Nat × Bool)
  pins     : List PinOrder
  load     : Option MarkLoad
  layers   : List LayerRt
  /-- Legend outcomes evaluated for a slot: per layer the outcome and the slot shown, 0xFFFF for none (R155, R156). -/
  evals    : Tab (List (Nat × Nat))
  /-- Flow and source slot of the picture each Inset showed last (R148). -/
  insets   : List (Option (Nat × Nat))
  /-- Slots of the last buffering period AUs, newest first. -/
  bps      : List Nat
  /-- Signature of the mastering and light-level objects at the last decision (Table 6-4). -/
  seiSeen  : List Int
  aus      : List Au
  deriving DecidableEq, Repr

/-- Pre-analysis of one slot of one source (R57-R64). -/
structure AnaRt where
  bands  : List Nat
  /-- Rows of the L1 and L2 images. -/
  l1     : Tab (List Nat)
  l2     : Tab (List Nat)
  /-- Activity A, field F and cost S_F per L1 block, by row-major block number. -/
  act    : Tab Nat
  field  : Tab (Int × Int)
  cost   : Tab Nat
  /-- Band complexities (R61). -/
  bandC  : Tab Nat
  /-- Set once the last band has settled: complexity C, global vector, scene cut. -/
  done   : Bool
  c      : Nat
  gv     : Int × Int
  cut    : Bool
  deriving DecidableEq, Repr

end Sys2Proof.Machine
end

