-- ==== Sys2Proof/Machine/Objects.lean ====
section
/-! DEFINITION. Objects.lean: every row of the object dictionary, written from the tables of spec/ (R402), with its
type, access, apply class, retention class (R452), default (R404) and value range. -/

namespace Sys2Proof.Machine

/-- Data types of Table 19-1 (R374). A DOMAIN carries its size; that of Legend slot data follows the slot (R154). -/
inductive Ty where
  | u8 | u16 | u32 | u64 | i8 | i16 | i32 | vstr
  | octets (n : Nat)
  | domain (n : Nat)
  deriving DecidableEq, Repr

/-- Apply classes (R377, R379). -/
inductive Apply where
  | immediate | frame | staged
  deriving DecidableEq, Repr

/-- Retention classes of Table 22-5 and the PD0 records (R452). -/
inductive Retention where
  | stored | volatile | runtime | counter | calibration | pd0
  deriving DecidableEq, Repr

/-- The values a write may hold; anything else is rejected with 0x06090030. -/
inductive Rng where
  | any
  | upto (lo hi : Int)
  | step (lo hi m : Int)
  | zeroOr (lo hi m : Int)
  | oneOf (vs : List Int)
  | oneOrUpTo (v hi : Int)
  deriving DecidableEq, Repr

/-- Whether a value lies in a range. -/
def Rng.has : Rng → Int → Bool
  | .any, _ => true
  | .upto lo hi, v => decide (lo ≤ v ∧ v ≤ hi)
  | .step lo hi m, v => decide (lo ≤ v ∧ v ≤ hi ∧ v % m = 0)
  | .zeroOr lo hi m, v => decide (v = 0 ∨ (lo ≤ v ∧ v ≤ hi ∧ v % m = 0))
  | .oneOf vs, v => vs.contains v
  | .oneOrUpTo w hi, v => decide (v = w ∨ (0 ≤ v ∧ v ≤ hi))

/-- One row of a dictionary table: template index, sub-index range, type, access (true = rw), apply class,
retention class, default, range. -/
structure ObjRow where
  idx   : Nat
  subLo : Nat
  subHi : Nat
  ty    : Ty
  rw    : Bool
  apply : Apply
  ret   : Retention
  dflt  : Int
  rng   : Rng
  deriving DecidableEq, Repr

/-- Table 0-5 (R5). -/
def table0_5 : List ObjRow :=
  [
    ⟨0x1008, 0x00, 0x00, .vstr, false, .immediate, .runtime, 0, .any⟩,
    ⟨0x1009, 0x00, 0x00, .vstr, false, .immediate, .runtime, 0, .any⟩,
    ⟨0x100A, 0x00, 0x00, .vstr, false, .immediate, .runtime, 0, .any⟩,
    ⟨0x1018, 0x01, 0x01, .u32, false, .immediate, .runtime, 1479, .any⟩,
    ⟨0x1018, 0x02, 0x02, .u32, false, .immediate, .runtime, 18440, .any⟩,
    ⟨0x1018, 0x03, 0x03, .u32, false, .immediate, .runtime, 262145, .any⟩,
    ⟨0x1018, 0x04, 0x04, .u32, false, .immediate, .calibration, 0, .any⟩
  ]

/-- Table 1-4 (R29). -/
def table1_4 : List ObjRow :=
  [
    ⟨0x3001, 0x01, 0x01, .u8, true, .frame, .stored, 2, (.upto 2 4)⟩,
    ⟨0x3001, 0x02, 0x02, .u32, false, .immediate, .runtime, 32000, .any⟩,
    ⟨0x3001, 0x03, 0x03, .u8, false, .immediate, .runtime, 0, .any⟩,
    ⟨0x3001, 0x04, 0x04, .u32, false, .immediate, .counter, 0, .any⟩,
    ⟨0x5001, 0x01, 0x01, .i32, false, .immediate, .counter, 2147483647, .any⟩,
    ⟨0x5001, 0x02, 0x02, .u32, false, .immediate, .counter, 0, .any⟩,
    ⟨0x5001, 0x03, 0x03, .u32, false, .immediate, .runtime, 0, .any⟩
  ]

/-- Table 2-8 (R56). -/
def table2_8 : List ObjRow :=
  [
    ⟨0x3000, 0x01, 0x01, .u8, true, .staged, .stored, 0, (.upto 0 1)⟩,
    ⟨0x3000, 0x02, 0x02, .u8, true, .frame, .stored, 0, (.upto 0 1)⟩,
    ⟨0x3000, 0x03, 0x03, .u8, true, .frame, .stored, 1, (.upto 0 1)⟩,
    ⟨0x3000, 0x04, 0x04, .u8, true, .frame, .stored, 10, (.oneOf [8, 10])⟩,
    ⟨0x3000, 0x05, 0x05, .u16, true, .frame, .stored, 1920, (.step 64 8192 8)⟩,
    ⟨0x3000, 0x06, 0x06, .u16, true, .frame, .stored, 1080, (.step 64 8192 8)⟩,
    ⟨0x3000, 0x07, 0x07, .u8, true, .frame, .stored, 9, (.upto 0 12)⟩,
    ⟨0x3000, 0x08, 0x08, .u16, true, .frame, .stored, 0, (.upto 0 4095)⟩,
    ⟨0x3000, 0x09, 0x09, .u8, false, .immediate, .runtime, 0, .any⟩,
    ⟨0x3000, 0x0A, 0x0A, .u8, false, .immediate, .runtime, 0, .any⟩,
    ⟨0x3000, 0x0B, 0x0B, .u8, false, .immediate, .runtime, 0, .any⟩,
    ⟨0x3002, 0x01, 0x01, .u8, true, .staged, .stored, 0, (.upto 0 1)⟩,
    ⟨0x3002, 0x02, 0x02, .u16, true, .staged, .stored, 60, (.upto 1 65535)⟩,
    ⟨0x3002, 0x03, 0x03, .u16, true, .staged, .stored, 16, (.upto 0 65535)⟩,
    ⟨0x3002, 0x04, 0x04, .u8, true, .staged, .stored, 1, (.upto 0 1)⟩,
    ⟨0x3002, 0x05, 0x05, .u8, true, .staged, .stored, 1, (.upto 1 4)⟩,
    ⟨0x3002, 0x06, 0x06, .u8, true, .staged, .stored, 0, (.upto 0 1)⟩,
    ⟨0x3002, 0x07, 0x07, .u8, true, .staged, .volatile, 0, (.upto 0 1)⟩,
    ⟨0x3003, 0x01, 0x01, .u8, false, .immediate, .runtime, 0, .any⟩,
    ⟨0x3003, 0x02, 0x02, .u16, false, .immediate, .runtime, 0, .any⟩,
    ⟨0x3003, 0x03, 0x03, .u8, false, .immediate, .runtime, 0, .any⟩,
    ⟨0x3003, 0x04, 0x04, .u32, false, .immediate, .runtime, 0, .any⟩,
    ⟨0x5000, 0x01, 0x01, .u8, true, .frame, .stored, 0, (.oneOf [0, 5, 6, 7])⟩,
    ⟨0x5000, 0x02, 0x02, .u8, true, .frame, .stored, 1, (.upto 0 1)⟩,
    ⟨0x5000, 0x03, 0x03, .u8, true, .frame, .stored, 1, (.upto 0 1)⟩,
    ⟨0x5000, 0x04, 0x04, .u8, true, .frame, .stored, 1, (.upto 0 1)⟩,
    ⟨0x5000, 0x05, 0x05, .u8, true, .frame, .stored, 0, .any⟩,
    ⟨0x5000, 0x06, 0x06, .u8, true, .frame, .stored, 0, (.upto 0 1)⟩,
    ⟨0x5003, 0x01, 0x01, .u8, true, .frame, .stored, 0, (.upto 0 16)⟩,
    ⟨0x5003, 0x02, 0x02, .u8, true, .frame, .stored, 0, .any⟩
  ]

/-- Table 3-6 (R84). -/
def table3_6 : List ObjRow :=
  [
    ⟨0x3004, 0x01, 0x01, .u8, true, .staged, .stored, 0, (.upto 0 3)⟩,
    ⟨0x3004, 0x02, 0x02, .u16, false, .immediate, .runtime, 0, .any⟩,
    ⟨0x3004, 0x03, 0x03, .u16, false, .immediate, .runtime, 0, .any⟩,
    ⟨0x3004, 0x04, 0x04, .u32, false, .immediate, .counter, 0, .any⟩,
    ⟨0x3004, 0x05, 0x05, .u32, false, .immediate, .runtime, 0, .any⟩,
    ⟨0x5004, 0x01, 0x01, .u16, true, .staged, .stored, 0, (.zeroOr 16 1024 16)⟩,
    ⟨0x5004, 0x02, 0x02, .u16, true, .staged, .stored, 0, (.zeroOr 16 512 16)⟩,
    ⟨0x5004, 0x03, 0x03, .u8, true, .staged, .stored, 4, (.upto 1 4)⟩,
    ⟨0x5004, 0x04, 0x04, .u8, true, .staged, .stored, 8, (.upto 2 8)⟩,
    ⟨0x5004, 0x05, 0x05, .u8, true, .staged, .stored, 1, (.upto 0 1)⟩,
    ⟨0x5004, 0x06, 0x06, .u8, true, .staged, .stored, 1, (.upto 0 1)⟩,
    ⟨0x5004, 0x07, 0x07, .u8, true, .staged, .stored, 1, (.upto 0 1)⟩,
    ⟨0x5004, 0x08, 0x08, .u8, true, .staged, .stored, 2, (.upto 0 4)⟩,
    ⟨0x5005, 0x01, 0x01, .u8, true, .staged, .stored, 3, (.upto 1 6)⟩,
    ⟨0x5005, 0x02, 0x02, .u8, true, .staged, .stored, 1, (.upto 0 1)⟩,
    ⟨0x4010, 0x01, 0x01, .u16, true, .staged, .stored, 96, (.upto 1 256)⟩,
    ⟨0x4010, 0x02, 0x02, .u16, true, .staged, .stored, 160, (.upto 1 256)⟩,
    ⟨0x4010, 0x03, 0x03, .u64, false, .immediate, .runtime, 0, .any⟩
  ]

/-- Table 4-2 (R104). -/
def table4_2 : List ObjRow :=
  [
    ⟨0x3005, 0x01, 0x01, .u8, true, .staged, .stored, 0, (.upto 0 3)⟩,
    ⟨0x3005, 0x02, 0x02, .u8, false, .immediate, .runtime, 0, .any⟩,
    ⟨0x3005, 0x03, 0x03, .u32, false, .immediate, .counter, 0, .any⟩,
    ⟨0x3005, 0x04, 0x04, .u32, false, .immediate, .counter, 0, .any⟩,
    ⟨0x3005, 0x05, 0x05, .u32, false, .immediate, .counter, 0, .any⟩,
    ⟨0x3005, 0x06, 0x06, .u32, false, .immediate, .runtime, 0, .any⟩,
    ⟨0x5006, 0x01, 0x01, .u8, true, .frame, .stored, 0, .any⟩,
    ⟨0x5006, 0x02, 0x02, .u8, true, .staged, .stored, 1, (.upto 0 1)⟩,
    ⟨0x5007, 0x01, 0x10, .u32, false, .immediate, .runtime, 0, .any⟩,
    ⟨0x4011, 0x01, 0x01, .u64, false, .immediate, .runtime, 0, .any⟩
  ]

/-- Table 5-4 (R124). -/
def table5_4 : List ObjRow :=
  [
    ⟨0x3006, 0x01, 0x01, .u16, true, .staged, .stored, 128, (.upto 0 252)⟩,
    ⟨0x3006, 0x02, 0x02, .u32, true, .staged, .stored, 50000, (.upto 1000 2000000)⟩,
    ⟨0x3006, 0x03, 0x03, .u8, true, .staged, .stored, 6, (.upto 0 16)⟩,
    ⟨0x3006, 0x04, 0x04, .u32, false, .immediate, .runtime, 0, .any⟩,
    ⟨0x3006, 0x05, 0x05, .u32, false, .immediate, .runtime, 0, .any⟩,
    ⟨0x3006, 0x06, 0x06, .u32, false, .immediate, .counter, 0, .any⟩,
    ⟨0x3006, 0x07, 0x07, .u32, false, .immediate, .counter, 0, .any⟩,
    ⟨0x3006, 0x08, 0x08, .u32, false, .immediate, .counter, 0, .any⟩,
    ⟨0x3006, 0x09, 0x09, .u32, false, .immediate, .runtime, 0, .any⟩,
    ⟨0x3006, 0x0A, 0x0A, .u32, false, .immediate, .counter, 0, .any⟩,
    ⟨0x3006, 0x0B, 0x0B, .u8, false, .immediate, .runtime, 0, .any⟩,
    ⟨0x3006, 0x0C, 0x0C, .u32, false, .immediate, .counter, 0, .any⟩,
    ⟨0x5008, 0x01, 0x01, .u8, true, .staged, .stored, 12, (.upto 0 24)⟩,
    ⟨0x5008, 0x02, 0x02, .u8, true, .staged, .stored, 6, (.upto 0 12)⟩,
    ⟨0x5008, 0x03, 0x03, .u16, true, .staged, .stored, 512, (.upto 0 65535)⟩,
    ⟨0x5008, 0x04, 0x04, .i8, true, .staged, .stored, 0, (.upto (-6) 6)⟩,
    ⟨0x5008, 0x05, 0x05, .u8, true, .staged, .stored, 2, (.upto 1 63)⟩,
    ⟨0x5008, 0x06, 0x06, .u32, true, .frame, .stored, 393216, (.upto 256 16777215)⟩,
    ⟨0x5008, 0x07, 0x07, .u32, true, .frame, .stored, 131072, (.upto 256 16777215)⟩,
    ⟨0x5008, 0x08, 0x08, .u32, false, .immediate, .runtime, 0, .any⟩,
    ⟨0x5008, 0x09, 0x09, .u32, false, .immediate, .runtime, 0, .any⟩,
    ⟨0x5008, 0x0A, 0x0A, .i32, false, .immediate, .runtime, 2147483647, .any⟩
  ]

/-- Table 6-6 (R143). -/
def table6_6 : List ObjRow :=
  [
    ⟨0x3007, 0x01, 0x01, .u8, true, .staged, .stored, 0, (.upto 0 1)⟩,
    ⟨0x3007, 0x02, 0x02, .u8, true, .staged, .stored, 1, (.upto 0 1)⟩,
    ⟨0x3007, 0x03, 0x03, .u8, true, .staged, .stored, 2, (.upto 0 2)⟩,
    ⟨0x3007, 0x04, 0x04, .u8, true, .staged, .stored, 0, (.upto 0 1)⟩,
    ⟨0x3007, 0x05, 0x05, .u8, true, .staged, .stored, 1, (.upto 0 1)⟩,
    ⟨0x3007, 0x06, 0x06, .u8, true, .staged, .stored, 0, (.upto 0 1)⟩,
    ⟨0x3007, 0x07, 0x07, .u8, true, .staged, .stored, 1, (.oneOf [1, 9])⟩,
    ⟨0x3007, 0x08, 0x08, .u8, true, .staged, .stored, 1, (.oneOf [1, 14, 16, 18])⟩,
    ⟨0x3007, 0x09, 0x09, .u8, true, .staged, .stored, 1, (.oneOf [1, 9])⟩,
    ⟨0x3007, 0x0A, 0x0A, .u8, true, .staged, .stored, 0, (.upto 0 1)⟩,
    ⟨0x3007, 0x0B, 0x0B, .u32, false, .immediate, .counter, 0, .any⟩,
    ⟨0x3007, 0x0C, 0x0C, .u16, false, .immediate, .runtime, 0, .any⟩,
    ⟨0x3007, 0x0D, 0x0D, .u16, true, .staged, .stored, 65535, (.oneOrUpTo 65535 4095)⟩,
    ⟨0x5009, 0x01, 0x06, .u16, true, .staged, .stored, 0, .any⟩,
    ⟨0x5009, 0x07, 0x08, .u16, true, .staged, .stored, 0, .any⟩,
    ⟨0x5009, 0x09, 0x09, .u32, true, .staged, .stored, 0, .any⟩,
    ⟨0x5009, 0x0A, 0x0A, .u32, true, .staged, .stored, 0, .any⟩,
    ⟨0x5009, 0x0B, 0x0B, .u16, true, .staged, .stored, 0, .any⟩,
    ⟨0x5009, 0x0C, 0x0C, .u16, true, .staged, .stored, 0, .any⟩,
    ⟨0x5009, 0x0D, 0x0D, .i32, true, .staged, .stored, 0, .any⟩,
    ⟨0x5009, 0x0E, 0x0E, .u8, true, .staged, .stored, 0, .any⟩
  ]

/-- Table 7-3 (R158). -/
def table7_3 : List ObjRow :=
  [
    ⟨0x3008, 0x01, 0x01, .u8, true, .staged, .stored, 0, (.upto 0 1)⟩,
    ⟨0x3008, 0x02, 0x02, .u16, true, .staged, .stored, 0, (.upto 0 4095)⟩,
    ⟨0x3008, 0x03, 0x03, .u16, true, .staged, .stored, 0, .any⟩,
    ⟨0x3008, 0x04, 0x04, .u16, true, .staged, .stored, 0, .any⟩,
    ⟨0x3008, 0x05, 0x05, .u16, true, .staged, .stored, 0, .any⟩,
    ⟨0x3008, 0x06, 0x06, .u16, true, .staged, .stored, 0, .any⟩,
    ⟨0x3008, 0x07, 0x07, .u16, true, .staged, .stored, 0, .any⟩,
    ⟨0x3008, 0x08, 0x08, .u16, true, .staged, .stored, 0, .any⟩,
    ⟨0x3008, 0x09, 0x09, .u16, true, .staged, .stored, 0, .any⟩,
    ⟨0x3008, 0x0A, 0x0A, .u16, true, .staged, .stored, 0, .any⟩,
    ⟨0x3008, 0x0B, 0x0B, .u8, true, .staged, .stored, 0, (.upto 0 1)⟩,
    ⟨0x3008, 0x0C, 0x0C, .u32, false, .immediate, .counter, 0, .any⟩,
    ⟨0x3009, 0x01, 0x01, .u8, true, .staged, .stored, 0, (.upto 0 1)⟩,
    ⟨0x3009, 0x02, 0x02, .u8, true, .staged, .stored, 0, (.upto 0 255)⟩,
    ⟨0x3009, 0x03, 0x03, .u32, true, .staged, .stored, 0, .any⟩,
    ⟨0x3009, 0x04, 0x04, .i16, true, .staged, .stored, 0, .any⟩,
    ⟨0x3009, 0x05, 0x05, .i16, true, .staged, .stored, 0, .any⟩,
    ⟨0x3009, 0x06, 0x06, .u8, true, .staged, .stored, 0, (.upto 0 31)⟩,
    ⟨0x3009, 0x07, 0x07, .u16, false, .immediate, .runtime, 65535, .any⟩,
    ⟨0x3009, 0x08, 0x08, .u32, false, .immediate, .counter, 0, .any⟩,
    ⟨0x3009, 0x09, 0x09, .u32, false, .immediate, .counter, 0, .any⟩,
    ⟨0x300A, 0x01, 0x01, .u8, true, .staged, .stored, 0, (.upto 0 3)⟩,
    ⟨0x300A, 0x02, 0x02, .u8, true, .staged, .stored, 0, (.upto 0 1)⟩,
    ⟨0x500A, 0x01, 0x09, .i16, true, .staged, .stored, 0, (.upto (-2048) 2047)⟩,
    ⟨0x500A, 0x0A, 0x0C, .u16, true, .staged, .stored, 64, (.upto 0 1023)⟩,
    ⟨0x6100, 0x01, 0x01, (.domain 0), true, .immediate, .volatile, 0, .any⟩,
    ⟨0x6100, 0x02, 0x02, .u16, true, .staged, .stored, 0, (.upto 0 8192)⟩,
    ⟨0x6100, 0x03, 0x03, .u16, true, .staged, .stored, 0, (.upto 0 8192)⟩,
    ⟨0x6100, 0x04, 0x04, .u8, true, .staged, .stored, 0, (.upto 0 1)⟩,
    ⟨0x6100, 0x05, 0x05, .u32, true, .staged, .stored, 0, (.step 0 4294963200 4096)⟩,
    ⟨0x6100, 0x06, 0x06, .u32, true, .staged, .volatile, 0, .any⟩,
    ⟨0x6100, 0x07, 0x07, .u8, false, .immediate, .runtime, 0, .any⟩
  ]

/-- Table 8-9 (R180). -/
def table8_9 : List ObjRow :=
  [
    ⟨0x2200, 0x01, 0x01, .u8, true, .staged, .stored, 0, (.upto 0 1)⟩,
    ⟨0x2200, 0x02, 0x02, .u8, true, .immediate, .stored, 0, (.upto 0 1)⟩,
    ⟨0x2200, 0x03, 0x03, .u8, false, .immediate, .runtime, 0, .any⟩,
    ⟨0x2200, 0x04, 0x04, .u8, true, .staged, .stored, 0, (.upto 0 1)⟩,
    ⟨0x2200, 0x05, 0x05, .u8, true, .frame, .stored, 2, (.upto 0 2)⟩,
    ⟨0x2200, 0x06, 0x06, .u8, true, .immediate, .stored, 8, (.upto 8 15)⟩,
    ⟨0x2200, 0x07, 0x07, .u8, true, .staged, .stored, 1, (.upto 0 2)⟩,
    ⟨0x2200, 0x08, 0x08, .u32, true, .immediate, .stored, 0, .any⟩,
    ⟨0x2200, 0x09, 0x09, .u8, false, .immediate, .runtime, 0, .any⟩,
    ⟨0x2200, 0x0A, 0x0A, .u8, true, .staged, .stored, 1, (.upto 0 1)⟩,
    ⟨0x2200, 0x0B, 0x0B, .u8, true, .staged, .stored, 1, (.upto 0 1)⟩,
    ⟨0x2200, 0x0C, 0x0C, .u8, true, .staged, .volatile, 0, (.upto 0 1)⟩,
    ⟨0x2200, 0x0D, 0x0D, .u8, false, .immediate, .runtime, 0, .any⟩,
    ⟨0x2200, 0x0E, 0x0E, .u8, false, .immediate, .runtime, 0, .any⟩,
    ⟨0x2200, 0x0F, 0x0F, .u32, false, .immediate, .counter, 0, .any⟩,
    ⟨0x2200, 0x10, 0x10, .u32, false, .immediate, .counter, 0, .any⟩,
    ⟨0x2200, 0x11, 0x11, .u32, false, .immediate, .runtime, 0, .any⟩,
    ⟨0x2200, 0x12, 0x12, .u32, false, .immediate, .runtime, 0, .any⟩,
    ⟨0x4200, 0x01, 0x01, .u32, false, .immediate, .counter, 0, .any⟩,
    ⟨0x4200, 0x02, 0x02, .u32, false, .immediate, .counter, 0, .any⟩,
    ⟨0x4200, 0x03, 0x03, .u32, false, .immediate, .counter, 0, .any⟩,
    ⟨0x4200, 0x04, 0x04, .u32, false, .immediate, .counter, 0, .any⟩
  ]

/-- Table 8-10 (R180). -/
def table8_10 : List ObjRow :=
  [
    ⟨0x300B, 0x01, 0x01, .u8, false, .immediate, .runtime, 0, .any⟩,
    ⟨0x300B, 0x02, 0x02, .u32, false, .immediate, .counter, 0, .any⟩,
    ⟨0x300B, 0x03, 0x03, .u32, false, .immediate, .counter, 0, .any⟩,
    ⟨0x300B, 0x04, 0x04, .u32, false, .immediate, .counter, 0, .any⟩,
    ⟨0x300B, 0x05, 0x05, .u8, false, .immediate, .runtime, 0, .any⟩,
    ⟨0x300B, 0x06, 0x06, .i32, false, .immediate, .runtime, 0, .any⟩,
    ⟨0x300B, 0x07, 0x07, .u32, false, .immediate, .counter, 0, .any⟩,
    ⟨0x300B, 0x08, 0x08, .u32, false, .immediate, .counter, 0, .any⟩,
    ⟨0x500B, 0x01, 0x01, .u32, false, .immediate, .counter, 0, .any⟩,
    ⟨0x500B, 0x02, 0x02, .i32, false, .immediate, .counter, 2147483647, .any⟩,
    ⟨0x500B, 0x03, 0x03, .u32, false, .immediate, .counter, 0, .any⟩
  ]

/-- Table 9-4 (R207). -/
def table9_4 : List ObjRow :=
  [
    ⟨0x2300, 0x01, 0x01, .u8, true, .staged, .stored, 0, (.upto 0 2)⟩,
    ⟨0x2300, 0x02, 0x02, .u8, true, .immediate, .stored, 0, (.upto 0 7)⟩,
    ⟨0x2300, 0x03, 0x03, .u8, false, .immediate, .runtime, 0, .any⟩,
    ⟨0x2300, 0x04, 0x04, .u8, true, .staged, .stored, 2, (.upto 2 8)⟩,
    ⟨0x2300, 0x05, 0x05, .u8, true, .staged, .stored, 0, (.upto 0 1)⟩,
    ⟨0x2300, 0x06, 0x06, .u8, true, .staged, .stored, 2, (.upto 1 4)⟩,
    ⟨0x2300, 0x07, 0x07, .u8, true, .staged, .stored, 1, (.upto 0 2)⟩,
    ⟨0x2300, 0x08, 0x08, .u8, false, .immediate, .runtime, 0, .any⟩,
    ⟨0x2300, 0x09, 0x09, .u8, false, .immediate, .runtime, 0, .any⟩,
    ⟨0x2300, 0x0A, 0x0A, .u8, true, .staged, .stored, 0, (.upto 0 63)⟩,
    ⟨0x2300, 0x0B, 0x0B, .u32, false, .immediate, .counter, 0, .any⟩,
    ⟨0x2300, 0x0C, 0x0C, .u32, false, .immediate, .counter, 0, .any⟩,
    ⟨0x2301, 0x01, 0x08, .u32, false, .immediate, .runtime, 0, .any⟩,
    ⟨0x2310, 0x01, 0x01, .u8, true, .staged, .stored, 1, (.upto 1 8)⟩,
    ⟨0x2310, 0x02, 0x02, .u8, true, .staged, .stored, 1, (.upto 1 8)⟩,
    ⟨0x2310, 0x03, 0x03, .u16, true, .staged, .stored, 256, (.step 64 512 64)⟩,
    ⟨0x2310, 0x04, 0x0B, .u16, true, .staged, .stored, 0, .any⟩,
    ⟨0x2310, 0x0C, 0x13, .u16, true, .staged, .stored, 0, .any⟩,
    ⟨0x2311, 0x01, 0x40, .u8, true, .staged, .stored, 0, (.upto 0 7)⟩,
    ⟨0x2312, 0x01, 0x40, .u16, true, .staged, .stored, 0, (.upto 0 4095)⟩,
    ⟨0x2313, 0x01, 0x40, .u32, true, .staged, .stored, 0, .any⟩,
    ⟨0x4300, 0x01, 0x01, .u32, false, .immediate, .counter, 0, .any⟩,
    ⟨0x4300, 0x02, 0x02, .u32, false, .immediate, .counter, 0, .any⟩,
    ⟨0x4300, 0x03, 0x03, .u32, false, .immediate, .counter, 0, .any⟩,
    ⟨0x4300, 0x04, 0x04, .u32, false, .immediate, .counter, 0, .any⟩
  ]

/-- Table 9-5 (R207). -/
def table9_5 : List ObjRow :=
  [
    ⟨0x300C, 0x01, 0x01, .u32, false, .immediate, .counter, 0, .any⟩,
    ⟨0x300C, 0x02, 0x02, .u32, false, .immediate, .counter, 0, .any⟩,
    ⟨0x300C, 0x03, 0x03, .u32, false, .immediate, .counter, 0, .any⟩,
    ⟨0x300C, 0x04, 0x04, .u32, false, .immediate, .runtime, 0, .any⟩,
    ⟨0x500C, 0x01, 0x01, .i32, false, .immediate, .counter, 2147483647, .any⟩,
    ⟨0x500C, 0x02, 0x02, .u32, false, .immediate, .counter, 0, .any⟩
  ]

/-- Table 10-5 (R230). -/
def table10_5 : List ObjRow :=
  [
    ⟨0x2100, 0x01, 0x04, .u8, true, .staged, .stored, 0, (.upto 0 6)⟩,
    ⟨0x2100, 0x05, 0x08, .u8, true, .staged, .stored, 0, (.upto 0 2)⟩,
    ⟨0x2101, 0x01, 0x08, .u32, true, .staged, .stored, 0, .any⟩,
    ⟨0x2102, 0x01, 0x08, .u8, true, .staged, .stored, 24, (.upto 0 32)⟩,
    ⟨0x2103, 0x01, 0x08, .u32, true, .staged, .stored, 0, .any⟩,
    ⟨0x2104, 0x01, 0x08, .u16, true, .staged, .stored, 0, (.upto 0 4095)⟩,
    ⟨0x2105, 0x01, 0x08, .u8, false, .immediate, .runtime, 0, .any⟩,
    ⟨0x2106, 0x01, 0x08, .u64, false, .immediate, .calibration, 0, .any⟩,
    ⟨0x2400, 0x01, 0x01, .u16, true, .immediate, .volatile, 0, (.upto 0 4095)⟩,
    ⟨0x2400, 0x02, 0x02, (.octets 64), true, .staged, .stored, 0, .any⟩,
    ⟨0x2400, 0x03, 0x03, (.octets 64), false, .immediate, .runtime, 0, .any⟩,
    ⟨0x4100, 0x01, 0x01, .u32, false, .immediate, .counter, 0, .any⟩,
    ⟨0x4100, 0x02, 0x02, .u32, false, .immediate, .counter, 0, .any⟩,
    ⟨0x4100, 0x03, 0x03, .u64, false, .immediate, .runtime, 0, .any⟩,
    ⟨0x6200, 0x01, 0x01, (.domain 262144), true, .staged, .stored, 0, .any⟩,
    ⟨0x6201, 0x01, 0x01, (.domain 262144), false, .immediate, .runtime, 0, .any⟩
  ]

/-- Table 11-3 (R255). -/
def table11_3 : List ObjRow :=
  [
    ⟨0x2500, 0x01, 0x01, .u8, true, .staged, .stored, 0, (.upto 0 1)⟩,
    ⟨0x2500, 0x02, 0x02, .u8, true, .staged, .stored, 0, (.upto 0 3)⟩,
    ⟨0x2500, 0x03, 0x03, .u8, true, .staged, .stored, 0, (.upto 0 63)⟩,
    ⟨0x2500, 0x04, 0x04, .u32, true, .staged, .stored, 0, .any⟩,
    ⟨0x2500, 0x05, 0x05, .u8, true, .staged, .stored, 33, (.upto 0 127)⟩,
    ⟨0x2500, 0x06, 0x06, .u16, true, .staged, .stored, 0, .any⟩,
    ⟨0x2500, 0x07, 0x07, .u8, true, .staged, .stored, 6, (.upto 0 7)⟩,
    ⟨0x2500, 0x08, 0x08, .u8, true, .staged, .stored, 34, (.upto 0 63)⟩,
    ⟨0x2500, 0x09, 0x09, .u8, true, .staged, .stored, 64, (.upto 1 255)⟩,
    ⟨0x2500, 0x0A, 0x0A, .u8, true, .staged, .stored, 0, (.upto 0 5)⟩,
    ⟨0x2500, 0x0B, 0x0B, .u16, true, .staged, .stored, 4096, (.upto 16 8190)⟩,
    ⟨0x2500, 0x0C, 0x0C, .u16, true, .staged, .stored, 256, (.upto 16 8190)⟩,
    ⟨0x2500, 0x0D, 0x11, .u16, true, .staged, .stored, 257, (.upto 16 8190)⟩,
    ⟨0x2500, 0x12, 0x16, .u32, true, .staged, .stored, 2, .any⟩,
    ⟨0x2500, 0x17, 0x17, .u8, true, .staged, .stored, 2, (.upto 0 2)⟩,
    ⟨0x2500, 0x18, 0x18, .u8, true, .staged, .stored, 0, (.upto 0 1)⟩,
    ⟨0x2500, 0x19, 0x19, .u8, true, .staged, .stored, 1, (.upto 0 1)⟩,
    ⟨0x2500, 0x1A, 0x1A, .u32, false, .immediate, .counter, 0, .any⟩,
    ⟨0x2500, 0x1B, 0x1B, .u32, false, .immediate, .counter, 0, .any⟩,
    ⟨0x2500, 0x1C, 0x1C, .u16, false, .immediate, .runtime, 0, .any⟩,
    ⟨0x2500, 0x1D, 0x1D, .u32, false, .immediate, .runtime, 0, .any⟩,
    ⟨0x2500, 0x1E, 0x1E, .u32, false, .immediate, .runtime, 0, .any⟩
  ]

/-- Table 11-4 (R255). -/
def table11_4 : List ObjRow :=
  [
    ⟨0x2600, 0x01, 0x01, .u16, true, .immediate, .volatile, 0, (.upto 0 65535)⟩,
    ⟨0x2600, 0x02, 0x02, (.octets 32), true, .staged, .stored, 0, .any⟩,
    ⟨0x2600, 0x03, 0x03, .u16, false, .immediate, .runtime, 0, .any⟩,
    ⟨0x2600, 0x04, 0x04, .u8, false, .immediate, .runtime, 0, .any⟩,
    ⟨0x4401, 0x01, 0x08, .u32, false, .immediate, .counter, 0, .any⟩,
    ⟨0x4401, 0x09, 0x10, .u32, false, .immediate, .counter, 0, .any⟩,
    ⟨0x4401, 0x11, 0x18, .u32, false, .immediate, .runtime, 0, .any⟩,
    ⟨0x4410, 0x01, 0x01, .u8, true, .immediate, .stored, 1, (.upto 0 6)⟩,
    ⟨0x4410, 0x02, 0x02, .u64, true, .immediate, .volatile, 0, .any⟩,
    ⟨0x4410, 0x03, 0x03, .u32, true, .immediate, .volatile, 0, (.upto 0 999999999)⟩,
    ⟨0x4410, 0x04, 0x04, .u16, true, .immediate, .volatile, 0, (.upto 0 256)⟩,
    ⟨0x4410, 0x05, 0x05, .u16, false, .immediate, .runtime, 0, .any⟩,
    ⟨0x4410, 0x06, 0x06, .u8, false, .immediate, .runtime, 0, .any⟩,
    ⟨0x4410, 0x07, 0x07, .u32, false, .immediate, .counter, 0, .any⟩,
    ⟨0x6202, 0x01, 0x01, (.domain 2097152), true, .staged, .stored, 0, .any⟩,
    ⟨0x6203, 0x01, 0x01, (.domain 16384), true, .immediate, .volatile, 0, .any⟩,
    ⟨0x6204, 0x01, 0x01, (.domain 16384), false, .immediate, .runtime, 0, .any⟩
  ]

/-- Table 12-7 (R283). -/
def table12_7 : List ObjRow :=
  [
    ⟨0x2700, 0x01, 0x01, (.octets 12), true, .immediate, .volatile, 0, .any⟩,
    ⟨0x2700, 0x02, 0x02, .u8, false, .immediate, .runtime, 0, .any⟩,
    ⟨0x2700, 0x03, 0x03, .i32, false, .immediate, .runtime, 0, .any⟩,
    ⟨0x2700, 0x04, 0x04, .i32, false, .immediate, .runtime, 0, .any⟩,
    ⟨0x2700, 0x05, 0x05, (.octets 8), false, .immediate, .runtime, 0, .any⟩,
    ⟨0x2700, 0x06, 0x06, .u16, false, .immediate, .runtime, 0, .any⟩,
    ⟨0x2700, 0x07, 0x07, .u8, false, .immediate, .runtime, 255, .any⟩,
    ⟨0x2700, 0x08, 0x08, .u32, false, .immediate, .runtime, 0, .any⟩,
    ⟨0x2700, 0x09, 0x09, .u32, false, .immediate, .counter, 0, .any⟩,
    ⟨0x2700, 0x0A, 0x0A, .u32, false, .immediate, .counter, 0, .any⟩,
    ⟨0x2700, 0x0B, 0x0B, .u32, false, .immediate, .counter, 0, .any⟩,
    ⟨0x2700, 0x0C, 0x0C, .i16, false, .immediate, .runtime, 0, .any⟩,
    ⟨0x2700, 0x0D, 0x0D, .u32, false, .immediate, .counter, 0, .any⟩
  ]

/-- Table 12-8 (R283). -/
def table12_8 : List ObjRow :=
  [
    ⟨0x2701, 0x01, 0x01, .u8, true, .immediate, .stored, 0, (.upto 0 2)⟩,
    ⟨0x2701, 0x02, 0x02, .u8, true, .immediate, .stored, 3, (.upto 0 255)⟩,
    ⟨0x2701, 0x03, 0x03, .u8, true, .immediate, .stored, 127, (.upto 0 127)⟩,
    ⟨0x2701, 0x04, 0x04, .u8, true, .immediate, .stored, 128, .any⟩,
    ⟨0x2701, 0x05, 0x05, .u8, true, .immediate, .stored, 128, .any⟩,
    ⟨0x2701, 0x06, 0x06, .i8, true, .immediate, .stored, (-2), (.upto (-3) 1)⟩,
    ⟨0x2701, 0x07, 0x07, .i8, true, .immediate, .stored, (-3), (.upto (-7) 1)⟩,
    ⟨0x2701, 0x08, 0x08, .i8, true, .immediate, .stored, (-3), (.upto (-7) 5)⟩,
    ⟨0x2701, 0x09, 0x09, .u8, true, .immediate, .stored, 3, (.upto 2 10)⟩,
    ⟨0x2701, 0x0A, 0x0A, .u8, true, .immediate, .stored, 0, (.upto 0 1)⟩,
    ⟨0x2701, 0x0B, 0x0B, .i16, true, .staged, .stored, 37, .any⟩,
    ⟨0x2720, 0x01, 0x01, .u16, true, .immediate, .stored, 0, (.upto 0 4095)⟩,
    ⟨0x2720, 0x02, 0x02, .u8, false, .immediate, .runtime, 0, .any⟩,
    ⟨0x4710, 0x01, 0x01, .i32, true, .immediate, .stored, 0, .any⟩,
    ⟨0x4710, 0x02, 0x02, .i32, true, .immediate, .stored, 0, .any⟩,
    ⟨0x4710, 0x03, 0x03, .i32, true, .immediate, .stored, 0, .any⟩
  ]

/-- Table 12-9 (R283). -/
def table12_9 : List ObjRow :=
  [
    ⟨0x2702, 0x01, 0x01, .u8, false, .immediate, .runtime, 0, .any⟩,
    ⟨0x2702, 0x02, 0x02, .u8, false, .immediate, .runtime, 0, .any⟩,
    ⟨0x2702, 0x03, 0x03, .u8, false, .immediate, .runtime, 0, .any⟩,
    ⟨0x2702, 0x04, 0x04, .u8, false, .immediate, .runtime, 0, .any⟩,
    ⟨0x2702, 0x05, 0x05, .u32, false, .immediate, .runtime, 0, .any⟩,
    ⟨0x2702, 0x06, 0x06, .u32, false, .immediate, .runtime, 0, .any⟩,
    ⟨0x2702, 0x07, 0x07, .u32, false, .immediate, .counter, 0, .any⟩,
    ⟨0x2702, 0x08, 0x08, .u32, false, .immediate, .counter, 0, .any⟩,
    ⟨0x2702, 0x09, 0x09, .u8, true, .staged, .stored, 0, (.upto 0 1)⟩,
    ⟨0x4700, 0x01, 0x01, .u32, true, .immediate, .stored, 1, (.upto 0 8388607)⟩,
    ⟨0x4700, 0x02, 0x02, .u32, true, .immediate, .stored, 1, (.upto 0 8388607)⟩,
    ⟨0x4700, 0x03, 0x03, .u8, true, .immediate, .stored, 10, (.upto 1 100)⟩,
    ⟨0x4700, 0x04, 0x04, .u32, true, .immediate, .stored, 1000000, (.upto 1000 1000000000)⟩,
    ⟨0x4700, 0x05, 0x05, .u32, true, .immediate, .stored, 1000, .any⟩,
    ⟨0x4700, 0x06, 0x06, .i32, false, .immediate, .runtime, 0, .any⟩
  ]

/-- Table 12-10 (R283). -/
def table12_10 : List ObjRow :=
  [
    ⟨0x2710, 0x01, 0x01, .u8, true, .immediate, .volatile, 0, (.upto 0 3)⟩,
    ⟨0x2710, 0x02, 0x02, .u8, true, .immediate, .stored, 0, (.upto 0 1)⟩,
    ⟨0x2710, 0x03, 0x03, .u64, true, .immediate, .stored, 0, (.upto 0 281474976710655)⟩,
    ⟨0x2710, 0x04, 0x04, .u32, true, .immediate, .stored, 0, (.upto 0 999999999)⟩,
    ⟨0x2710, 0x05, 0x05, .u32, true, .immediate, .stored, 0, .any⟩,
    ⟨0x2710, 0x06, 0x06, .u16, true, .immediate, .stored, 1, (.upto 1 65535)⟩,
    ⟨0x2710, 0x07, 0x07, .u32, true, .immediate, .stored, 0, .any⟩,
    ⟨0x2710, 0x08, 0x08, .u8, true, .immediate, .stored, 0, (.upto 0 63)⟩,
    ⟨0x2710, 0x09, 0x09, .i32, true, .immediate, .stored, 0, .any⟩,
    ⟨0x2710, 0x0A, 0x0A, .u8, true, .immediate, .stored, 1, (.upto 1 3)⟩,
    ⟨0x2710, 0x0B, 0x0B, (.octets 12), false, .immediate, .runtime, 0, .any⟩,
    ⟨0x2710, 0x0C, 0x0C, .u8, false, .immediate, .runtime, 0, .any⟩,
    ⟨0x2710, 0x0D, 0x0D, .u32, false, .immediate, .counter, 0, .any⟩,
    ⟨0x2710, 0x0E, 0x0E, .u8, false, .immediate, .runtime, 0, .any⟩
  ]

/-- Table 13-6 (R297). -/
def table13_6 : List ObjRow :=
  [
    ⟨0x2800, 0x01, 0x01, .u8, true, .immediate, .stored, 16, (.upto 0 16)⟩,
    ⟨0x2800, 0x02, 0x02, .u8, false, .immediate, .runtime, 0, .any⟩,
    ⟨0x2800, 0x03, 0x03, .u8, true, .immediate, .stored, 5, (.upto 0 7)⟩,
    ⟨0x2800, 0x04, 0x04, .u8, true, .immediate, .stored, 0, (.upto 0 7)⟩,
    ⟨0x2800, 0x05, 0x05, .u8, true, .immediate, .stored, 4, (.upto 0 15)⟩,
    ⟨0x2800, 0x06, 0x06, .u8, true, .immediate, .stored, 0, (.upto 0 1)⟩,
    ⟨0x2800, 0x07, 0x07, .u8, true, .immediate, .stored, 0, (.upto 0 1)⟩,
    ⟨0x2800, 0x08, 0x08, .u8, false, .immediate, .runtime, 0, .any⟩,
    ⟨0x2800, 0x09, 0x09, .u8, false, .immediate, .runtime, 0, .any⟩,
    ⟨0x2800, 0x0A, 0x0A, .u8, true, .immediate, .volatile, 0, (.upto 0 1)⟩,
    ⟨0x2800, 0x0B, 0x0B, .u32, false, .immediate, .counter, 0, .any⟩,
    ⟨0x2800, 0x0C, 0x0C, .u32, false, .immediate, .counter, 0, .any⟩,
    ⟨0x2800, 0x0D, 0x0D, .u32, false, .immediate, .counter, 0, .any⟩,
    ⟨0x2800, 0x0E, 0x0E, .u32, false, .immediate, .counter, 0, .any⟩,
    ⟨0x4800, 0x01, 0x01, .u8, true, .immediate, .stored, 24, (.upto 20 36)⟩,
    ⟨0x6300, 0x01, 0x01, (.domain 24208), false, .immediate, .runtime, 0, .any⟩
  ]

/-- Table 13-7 (R297). -/
def table13_7 : List ObjRow :=
  [
    ⟨0x2810, 0x01, 0x01, .u8, false, .immediate, .runtime, 0, .any⟩,
    ⟨0x2810, 0x02, 0x02, .u8, false, .immediate, .runtime, 0, .any⟩,
    ⟨0x2810, 0x03, 0x03, .u16, false, .immediate, .runtime, 0, .any⟩,
    ⟨0x2810, 0x04, 0x04, .u16, false, .immediate, .runtime, 0, .any⟩,
    ⟨0x2810, 0x05, 0x05, .u8, false, .immediate, .runtime, 0, .any⟩,
    ⟨0x2810, 0x06, 0x06, .u8, false, .immediate, .runtime, 0, .any⟩,
    ⟨0x2810, 0x07, 0x07, .u8, false, .immediate, .runtime, 0, .any⟩,
    ⟨0x2810, 0x08, 0x08, .u32, false, .immediate, .counter, 0, .any⟩,
    ⟨0x2810, 0x09, 0x09, .u32, false, .immediate, .counter, 0, .any⟩,
    ⟨0x2810, 0x0A, 0x0A, .u32, false, .immediate, .counter, 0, .any⟩,
    ⟨0x2810, 0x0B, 0x0B, .u32, false, .immediate, .counter, 0, .any⟩,
    ⟨0x2810, 0x0C, 0x0C, .u32, false, .immediate, .counter, 0, .any⟩,
    ⟨0x2810, 0x0D, 0x0D, .u32, false, .immediate, .counter, 0, .any⟩
  ]

/-- Table 14-3 (R313). -/
def table14_3 : List ObjRow :=
  [
    ⟨0x2900, 0x01, 0x01, .u8, true, .staged, .stored, 0, (.upto 0 2)⟩,
    ⟨0x2900, 0x02, 0x02, .u8, true, .staged, .stored, 0, (.upto 0 2)⟩,
    ⟨0x2900, 0x03, 0x03, .u8, true, .staged, .stored, 2, (.oneOf [2, 4, 8, 16])⟩,
    ⟨0x2900, 0x04, 0x04, .u8, true, .staged, .stored, 32, (.oneOf [16, 32])⟩,
    ⟨0x2900, 0x05, 0x05, .u8, true, .staged, .stored, 24, (.oneOf [16, 24, 32])⟩,
    ⟨0x2900, 0x06, 0x06, .u8, true, .staged, .stored, 1, (.upto 0 5)⟩,
    ⟨0x2900, 0x07, 0x07, .u8, true, .staged, .stored, 0, (.upto 0 1)⟩,
    ⟨0x2900, 0x08, 0x08, .u8, true, .staged, .stored, 0, (.upto 0 1)⟩,
    ⟨0x2900, 0x09, 0x09, .u32, true, .staged, .stored, 0, .any⟩,
    ⟨0x2900, 0x0A, 0x0A, .u32, true, .staged, .stored, 2000, (.upto 250 100000)⟩,
    ⟨0x2900, 0x0B, 0x0B, .u8, false, .immediate, .runtime, 0, .any⟩,
    ⟨0x2900, 0x0C, 0x0C, .u32, false, .immediate, .runtime, 0, .any⟩,
    ⟨0x2900, 0x0D, 0x0D, .u64, false, .immediate, .runtime, 0, .any⟩,
    ⟨0x2900, 0x0E, 0x0E, .u32, false, .immediate, .counter, 0, .any⟩,
    ⟨0x2900, 0x0F, 0x0F, .u32, false, .immediate, .counter, 0, .any⟩,
    ⟨0x2900, 0x10, 0x10, .u32, false, .immediate, .counter, 0, .any⟩,
    ⟨0x2900, 0x11, 0x11, .u32, false, .immediate, .counter, 0, .any⟩,
    ⟨0x4900, 0x01, 0x01, .u16, true, .staged, .stored, 10, (.upto 0 1000)⟩,
    ⟨0x4900, 0x02, 0x02, .i32, false, .immediate, .runtime, 0, .any⟩,
    ⟨0x4900, 0x03, 0x03, .u8, true, .staged, .stored, 0, (.upto 0 1)⟩,
    ⟨0x4900, 0x04, 0x04, .u8, true, .staged, .stored, 0, (.upto 0 1)⟩,
    ⟨0x2908, 0x01, 0x01, .u64, false, .immediate, .runtime, 0, .any⟩,
    ⟨0x2908, 0x02, 0x02, .u8, true, .immediate, .volatile, 0, (.upto 0 4)⟩,
    ⟨0x2908, 0x03, 0x03, .u64, true, .immediate, .volatile, 0, (.upto 0 281474976710655)⟩,
    ⟨0x2908, 0x04, 0x04, .u32, true, .immediate, .volatile, 0, (.upto 0 999999999)⟩,
    ⟨0x2908, 0x05, 0x05, .u8, true, .immediate, .volatile, 0, (.upto 0 1)⟩,
    ⟨0x2908, 0x06, 0x06, .u32, false, .immediate, .runtime, 0, .any⟩,
    ⟨0x2908, 0x07, 0x07, .u32, false, .immediate, .counter, 0, .any⟩
  ]

/-- Table 15-3 (R326). -/
def table15_3 : List ObjRow :=
  [
    ⟨0x2A00, 0x01, 0x01, .u8, true, .frame, .stored, 0, (.upto 0 1)⟩,
    ⟨0x2A00, 0x02, 0x02, .u8, true, .frame, .stored, 1, (.upto 0 1)⟩,
    ⟨0x2A00, 0x03, 0x03, .u8, true, .frame, .stored, 9, (.upto 7 9)⟩,
    ⟨0x2A00, 0x04, 0x04, .u32, true, .frame, .stored, 2000000, .any⟩,
    ⟨0x2A00, 0x05, 0x05, .u8, true, .frame, .stored, 0, (.upto 0 74)⟩,
    ⟨0x2A00, 0x06, 0x06, .u8, true, .frame, .stored, 0, (.upto 0 1)⟩,
    ⟨0x2A00, 0x07, 0x07, .u8, true, .immediate, .volatile, 0, (.upto 0 1)⟩,
    ⟨0x2A00, 0x08, 0x08, .u32, false, .immediate, .runtime, 0, .any⟩,
    ⟨0x2A00, 0x09, 0x09, .u32, false, .immediate, .runtime, 0, .any⟩,
    ⟨0x2A00, 0x0A, 0x0A, .u32, false, .immediate, .runtime, 0, .any⟩,
    ⟨0x2A00, 0x0B, 0x0B, .u32, false, .immediate, .runtime, 0, .any⟩,
    ⟨0x2A00, 0x0C, 0x0C, .u16, true, .frame, .stored, 50, .any⟩,
    ⟨0x2A00, 0x0D, 0x0D, .u8, false, .immediate, .runtime, 0, .any⟩,
    ⟨0x2A00, 0x0E, 0x0E, .u32, false, .immediate, .counter, 0, .any⟩,
    ⟨0x4A00, 0x01, 0x01, .u64, false, .immediate, .runtime, 0, .any⟩,
    ⟨0x4A00, 0x02, 0x02, .u32, false, .immediate, .counter, 0, .any⟩,
    ⟨0x6205, 0x01, 0x01, (.domain 22118400), true, .immediate, .volatile, 0, .any⟩,
    ⟨0x6205, 0x02, 0x02, (.domain 22118400), true, .immediate, .volatile, 0, .any⟩
  ]

/-- Table 15-4 (R326). -/
def table15_4 : List ObjRow :=
  [
    ⟨0x2A10, 0x01, 0x01, .u8, true, .frame, .stored, 0, (.upto 0 1)⟩,
    ⟨0x2A10, 0x02, 0x02, .u32, true, .frame, .stored, 0, .any⟩,
    ⟨0x2A10, 0x03, 0x03, .u16, true, .frame, .stored, 0, .any⟩,
    ⟨0x2A10, 0x04, 0x04, .u16, true, .frame, .stored, 0, .any⟩,
    ⟨0x2A10, 0x05, 0x05, .u16, true, .frame, .stored, 0, .any⟩,
    ⟨0x2A10, 0x06, 0x06, .u16, true, .frame, .stored, 0, .any⟩,
    ⟨0x2A10, 0x07, 0x07, .u16, true, .frame, .stored, 0, .any⟩,
    ⟨0x2A10, 0x08, 0x08, .u16, true, .frame, .stored, 0, .any⟩,
    ⟨0x2A10, 0x09, 0x09, .u16, true, .frame, .stored, 0, .any⟩,
    ⟨0x2A10, 0x0A, 0x0A, .u16, true, .frame, .stored, 0, .any⟩,
    ⟨0x2A10, 0x0B, 0x0B, .u8, true, .frame, .stored, 1, (.upto 0 1)⟩,
    ⟨0x2A10, 0x0C, 0x0C, .u8, false, .immediate, .runtime, 0, .any⟩,
    ⟨0x2A10, 0x0D, 0x0D, .u8, false, .immediate, .runtime, 0, .any⟩,
    ⟨0x2A10, 0x0E, 0x0E, .u32, false, .immediate, .counter, 0, .any⟩,
    ⟨0x2A10, 0x0F, 0x0F, .u32, false, .immediate, .counter, 0, .any⟩,
    ⟨0x2A10, 0x10, 0x10, .u32, false, .immediate, .runtime, 0, .any⟩,
    ⟨0x2A10, 0x11, 0x11, .u32, false, .immediate, .runtime, 0, .any⟩,
    ⟨0x2A10, 0x12, 0x12, .u32, false, .immediate, .counter, 0, .any⟩
  ]

/-- Table 16-6 (R344). -/
def table16_6 : List ObjRow :=
  [
    ⟨0x2B00, 0x01, 0x01, .u16, false, .immediate, .runtime, 0, .any⟩,
    ⟨0x2B00, 0x02, 0x02, .u16, false, .immediate, .runtime, 0, .any⟩,
    ⟨0x2B00, 0x03, 0x03, .u16, false, .immediate, .runtime, 65535, .any⟩,
    ⟨0x2B00, 0x04, 0x04, .u16, false, .immediate, .runtime, 0, .any⟩,
    ⟨0x2B00, 0x05, 0x05, .u16, false, .immediate, .runtime, 0, .any⟩,
    ⟨0x2B00, 0x06, 0x06, .u32, false, .immediate, .counter, 0, .any⟩,
    ⟨0x2B00, 0x07, 0x07, .u32, false, .immediate, .counter, 0, .any⟩,
    ⟨0x2B00, 0x08, 0x08, .u16, false, .immediate, .runtime, 0, .any⟩,
    ⟨0x2B00, 0x09, 0x09, .u32, false, .immediate, .counter, 0, .any⟩,
    ⟨0x2B00, 0x0A, 0x0A, .u32, false, .immediate, .runtime, 0, .any⟩,
    ⟨0x2B00, 0x0B, 0x0B, .u8, false, .immediate, .runtime, 0, .any⟩,
    ⟨0x4B00, 0x01, 0x01, .u8, true, .immediate, .stored, 1, (.upto 0 1)⟩,
    ⟨0x4B00, 0x02, 0x02, .u32, true, .immediate, .stored, 1000, (.upto 0 100000)⟩,
    ⟨0x4B00, 0x03, 0x03, .u8, false, .immediate, .runtime, 0, .any⟩,
    ⟨0x4B00, 0x04, 0x04, .u8, false, .immediate, .runtime, 0, .any⟩,
    ⟨0x4B00, 0x05, 0x05, .u32, false, .immediate, .counter, 0, .any⟩,
    ⟨0x4B00, 0x06, 0x06, .u32, false, .immediate, .counter, 0, .any⟩,
    ⟨0x4B01, 0x01, 0x01, .u64, true, .immediate, .stored, 0, .any⟩,
    ⟨0x4B01, 0x02, 0x02, .u16, true, .immediate, .stored, 0, .any⟩,
    ⟨0x4B01, 0x03, 0x03, .u16, true, .immediate, .stored, 0, .any⟩,
    ⟨0x4B01, 0x04, 0x04, .u16, true, .immediate, .stored, 1024, (.upto 0 16384)⟩,
    ⟨0x4B01, 0x05, 0x05, .u8, true, .immediate, .stored, 0, (.upto 0 1)⟩,
    ⟨0x6206, 0x01, 0x01, (.domain 524288), false, .immediate, .runtime, 0, .any⟩
  ]

/-- Table 17-8 (R364). -/
def table17_8 : List ObjRow :=
  [
    ⟨0x2C00, 0x01, 0x01, .u8, false, .immediate, .runtime, 0, .any⟩,
    ⟨0x2C00, 0x02, 0x02, .u32, false, .immediate, .counter, 0, .any⟩,
    ⟨0x2C00, 0x03, 0x03, .u32, false, .immediate, .counter, 0, .any⟩,
    ⟨0x2C00, 0x04, 0x04, .u32, false, .immediate, .runtime, 0, .any⟩,
    ⟨0x2C00, 0x05, 0x05, .u32, false, .immediate, .runtime, 0, .any⟩,
    ⟨0x2C00, 0x06, 0x06, .u32, false, .immediate, .pd0, 0, .any⟩,
    ⟨0x2C00, 0x07, 0x07, .u32, false, .immediate, .counter, 0, .any⟩,
    ⟨0x2C00, 0x08, 0x08, .u32, false, .immediate, .counter, 0, .any⟩,
    ⟨0x2C00, 0x09, 0x09, .i8, false, .immediate, .runtime, 0, .any⟩,
    ⟨0x2C10, 0x01, 0x01, .u8, false, .immediate, .pd0, 0, .any⟩,
    ⟨0x2C10, 0x02, 0x02, .u32, false, .immediate, .pd0, 0, .any⟩,
    ⟨0x2C10, 0x03, 0x03, .u32, false, .immediate, .pd0, 0, .any⟩,
    ⟨0x2C10, 0x04, 0x04, .u64, false, .immediate, .pd0, 0, .any⟩,
    ⟨0x2C10, 0x05, 0x05, .u64, false, .immediate, .pd0, 0, .any⟩,
    ⟨0x2C10, 0x06, 0x06, .u64, false, .immediate, .pd0, 0, .any⟩,
    ⟨0x2C10, 0x07, 0x07, .u8, false, .immediate, .pd0, 0, .any⟩,
    ⟨0x2C10, 0x08, 0x08, .u16, false, .immediate, .pd0, 65535, .any⟩,
    ⟨0x2C10, 0x09, 0x09, .u8, false, .immediate, .pd0, 255, .any⟩,
    ⟨0x2C10, 0x0A, 0x0A, .u32, false, .immediate, .pd0, 0, .any⟩,
    ⟨0x2C10, 0x0B, 0x0B, .u8, true, .immediate, .volatile, 0, (.upto 0 1)⟩,
    ⟨0x4C00, 0x01, 0x01, .u8, true, .immediate, .stored, 24, (.upto 0 168)⟩,
    ⟨0x4C00, 0x02, 0x02, .u8, true, .immediate, .stored, 16, (.upto 1 64)⟩,
    ⟨0x4C00, 0x03, 0x03, .u16, true, .immediate, .stored, 30, (.upto 0 3600)⟩,
    ⟨0x4C01, 0x01, 0x0A, .u32, true, .immediate, .stored, 2000, (.upto 500 1000000)⟩,
    ⟨0x4C01, 0x11, 0x1A, .u32, false, .immediate, .counter, 0, .any⟩,
    ⟨0x4C02, 0x01, 0x20, .u32, false, .immediate, .runtime, 0, .any⟩,
    ⟨0x4C02, 0x21, 0x21, .u32, false, .immediate, .counter, 0, .any⟩
  ]

/-- Table 18-4 (R373). -/
def table18_4 : List ObjRow :=
  [
    ⟨0x2D00, 0x01, 0x01, .u32, false, .immediate, .runtime, 0, .any⟩,
    ⟨0x2D00, 0x02, 0x02, .u32, false, .immediate, .counter, 0, .any⟩,
    ⟨0x2D00, 0x03, 0x0A, .u32, false, .immediate, .counter, 0, .any⟩,
    ⟨0x2D01, 0x01, 0x01, .u32, true, .immediate, .volatile, 0, .any⟩,
    ⟨0x2D01, 0x02, 0x02, .u32, true, .immediate, .volatile, 0, .any⟩,
    ⟨0x2D01, 0x03, 0x03, .u32, true, .immediate, .volatile, 0, .any⟩,
    ⟨0x2D01, 0x04, 0x04, .u32, true, .immediate, .volatile, 0, .any⟩,
    ⟨0x2D01, 0x05, 0x05, .u8, true, .immediate, .volatile, 0, (.upto 0 1)⟩,
    ⟨0x2D01, 0x06, 0x06, .u32, false, .immediate, .runtime, 0, .any⟩,
    ⟨0x2D01, 0x07, 0x07, .u8, false, .immediate, .runtime, 0, .any⟩
  ]

/-- Table 19-9 (R401). -/
def table19_9 : List ObjRow :=
  [
    ⟨0x2F00, 0x01, 0x01, .u32, true, .immediate, .volatile, 0, .any⟩,
    ⟨0x2F00, 0x02, 0x02, .u64, true, .immediate, .volatile, 0, (.upto 0 281474976710655)⟩,
    ⟨0x2F00, 0x03, 0x03, .u32, true, .immediate, .volatile, 0, (.upto 0 999999999)⟩,
    ⟨0x2F00, 0x04, 0x04, .u32, true, .immediate, .volatile, 0, .any⟩,
    ⟨0x2F00, 0x05, 0x05, .u8, true, .immediate, .volatile, 0, (.upto 0 1)⟩,
    ⟨0x2F00, 0x06, 0x06, .u8, false, .immediate, .volatile, 0, .any⟩,
    ⟨0x2F00, 0x07, 0x07, .u32, false, .immediate, .stored, 0, .any⟩,
    ⟨0x2F00, 0x08, 0x08, .u8, false, .immediate, .volatile, 0, .any⟩,
    ⟨0x2F00, 0x09, 0x09, .u32, false, .immediate, .volatile, 0, .any⟩,
    ⟨0x2F00, 0x0A, 0x0A, .u32, false, .immediate, .volatile, 0, .any⟩,
    ⟨0x2F00, 0x0B, 0x0B, .u8, true, .immediate, .volatile, 0, (.upto 0 1)⟩,
    ⟨0x2F00, 0x0C, 0x0C, .u32, true, .immediate, .volatile, 0, .any⟩
  ]

/-- Table 19-10 (R401). -/
def table19_10 : List ObjRow :=
  [
    ⟨0x2F00, 0x10, 0x10, .u8, true, .immediate, .volatile, 0, (.upto 1 4)⟩,
    ⟨0x2F00, 0x11, 0x11, .u32, true, .immediate, .volatile, 0, .any⟩,
    ⟨0x2F00, 0x12, 0x12, .u32, true, .immediate, .volatile, 0, .any⟩,
    ⟨0x2F00, 0x13, 0x13, .u32, true, .immediate, .volatile, 0, .any⟩,
    ⟨0x2F00, 0x14, 0x14, .u8, false, .immediate, .volatile, 0, .any⟩,
    ⟨0x2F00, 0x15, 0x15, .u16, false, .immediate, .volatile, 0, .any⟩,
    ⟨0x2F00, 0x16, 0x16, .u32, false, .immediate, .volatile, 0, .any⟩,
    ⟨0x2F00, 0x17, 0x17, .u32, false, .immediate, .volatile, 0, .any⟩,
    ⟨0x6F00, 0x01, 0x01, (.domain 67108864), true, .immediate, .volatile, 0, .any⟩
  ]

/-- Table 19-11 (R401). -/
def table19_11 : List ObjRow :=
  [
    ⟨0x1001, 0x00, 0x00, .u8, false, .immediate, .runtime, 0, .any⟩,
    ⟨0x1010, 0x01, 0x01, .u32, true, .immediate, .stored, 1, .any⟩,
    ⟨0x1011, 0x01, 0x01, .u32, true, .immediate, .stored, 1, .any⟩,
    ⟨0x1014, 0x00, 0x00, .u32, true, .immediate, .stored, 144, .any⟩,
    ⟨0x1017, 0x00, 0x00, .u16, true, .immediate, .stored, 100, .any⟩,
    ⟨0x1FF0, 0x01, 0x01, .u8, true, .immediate, .stored, 16, (.upto 1 127)⟩,
    ⟨0x1FF0, 0x02, 0x02, .u8, true, .immediate, .stored, 1, (.upto 0 3)⟩,
    ⟨0x1FF0, 0x03, 0x03, .u8, true, .immediate, .stored, 1, (.upto 0 1)⟩,
    ⟨0x1FF1, 0x01, 0x01, .u8, true, .immediate, .stored, 1, (.upto 0 1)⟩,
    ⟨0x1FF1, 0x02, 0x02, .u8, false, .immediate, .runtime, 0, .any⟩,
    ⟨0x1FF1, 0x03, 0x03, .u8, true, .immediate, .stored, 1, (.upto 1 4)⟩,
    ⟨0x1FF1, 0x05, 0x05, .u32, false, .immediate, .counter, 0, .any⟩,
    ⟨0x1FF1, 0x06, 0x06, .u32, false, .immediate, .counter, 0, .any⟩,
    ⟨0x1FF1, 0x07, 0x07, .u32, false, .immediate, .counter, 0, .any⟩,
    ⟨0x1FF2, 0x01, 0x04, (.octets 32), true, .immediate, .stored, 0, .any⟩
  ]

/-- Table 20-3 (R408). -/
def table20_3 : List ObjRow :=
  [
    ⟨0x1000, 0x00, 0x00, .u32, false, .immediate, .runtime, 0, .any⟩,
    ⟨0x2000, 0x01, 0x01, .u8, true, .immediate, .volatile, 0, (.upto 0 2)⟩,
    ⟨0x2000, 0x02, 0x02, .u8, false, .immediate, .runtime, 0, .any⟩,
    ⟨0x2000, 0x03, 0x03, .u32, false, .immediate, .runtime, 16777215, .any⟩,
    ⟨0x2000, 0x04, 0x04, .u8, false, .immediate, .pd0, 0, .any⟩,
    ⟨0x2000, 0x05, 0x05, .u32, false, .immediate, .pd0, 0, .any⟩,
    ⟨0x2000, 0x06, 0x06, .u32, false, .immediate, .runtime, 0, .any⟩,
    ⟨0x2000, 0x07, 0x07, .i8, false, .immediate, .runtime, 0, .any⟩
  ]

/-- Table 20-4 (R409). -/
def table20_4 : List ObjRow :=
  [
    ⟨0x2E00, 0x01, 0x01, .u64, false, .immediate, .pd0, 0, .any⟩,
    ⟨0x2E00, 0x02, 0x02, .u64, false, .immediate, .pd0, 0, .any⟩,
    ⟨0x2E00, 0x03, 0x03, .u8, true, .immediate, .stored, 2, (.upto 0 3)⟩,
    ⟨0x2E00, 0x04, 0x04, .u64, true, .immediate, .pd0, 0, .any⟩,
    ⟨0x2E00, 0x05, 0x05, .u8, true, .immediate, .stored, 3, (.upto 0 3)⟩,
    ⟨0x2E00, 0x06, 0x06, (.octets 32), false, .immediate, .pd0, 0, .any⟩,
    ⟨0x4E00, 0x01, 0x01, .u16, true, .immediate, .stored, 1000, (.upto 0 10000)⟩,
    ⟨0x4E00, 0x02, 0x02, .u32, false, .immediate, .counter, 0, .any⟩,
    ⟨0x6E00, 0x01, 0x01, (.domain 32768), false, .immediate, .pd0, 0, .any⟩
  ]

/-- PDO communication and mapping (R387), in the layout of CiA 301 (PRESUMED, log 10). -/
def tablePdo : List ObjRow :=
  [
    ⟨0x1400, 0x01, 0x01, .u32, true, .immediate, .stored, 0x80000200, .any⟩,
    ⟨0x1400, 0x02, 0x02, .u8, true, .immediate, .stored, 255, .any⟩,
    ⟨0x1600, 0x00, 0x00, .u8, true, .immediate, .stored, 0, .upto 0 8⟩,
    ⟨0x1600, 0x01, 0x08, .u32, true, .immediate, .stored, 0, .any⟩,
    ⟨0x1800, 0x01, 0x01, .u32, true, .immediate, .stored, 0x80000180, .any⟩,
    ⟨0x1800, 0x02, 0x02, .u8, true, .immediate, .stored, 255, .any⟩,
    ⟨0x1800, 0x03, 0x03, .u16, true, .immediate, .stored, 0, .any⟩,
    ⟨0x1800, 0x05, 0x05, .u16, true, .immediate, .stored, 0, .any⟩,
    ⟨0x1A00, 0x00, 0x00, .u8, true, .immediate, .stored, 0, .upto 0 8⟩,
    ⟨0x1A00, 0x01, 0x08, .u32, true, .immediate, .stored, 0, .any⟩
  ]

/-- Every row of the dictionary (R402). -/
def objRows : List ObjRow :=
  table0_5 ++ table1_4 ++ table2_8 ++ table3_6 ++ table4_2 ++ table5_4 ++ table6_6 ++ table7_3 ++ table8_9 ++ table8_10 ++ table9_4 ++ table9_5 ++ table10_5 ++ table11_3 ++ table11_4 ++ table12_7 ++ table12_8 ++ table12_9 ++ table12_10 ++ table13_6 ++ table13_7 ++ table14_3 ++ table15_3 ++ table15_4 ++ table16_6 ++ table17_8 ++ table18_4 ++ table19_9 ++ table19_10 ++ table19_11 ++ table20_3 ++ table20_4 ++ tablePdo

/-- Where an index and sub-index stand: template index, instance, layer or operation, template sub-index. -/
structure Place where
  base : Nat
  inst : Nat
  lay  : Nat
  sub  : Nat
  deriving DecidableEq, Repr

/-- Index families that repeat a template: first index, count (R402, R407). -/
def families : List (Nat × Nat) :=
  [(0x1400, 4), (0x1600, 4), (0x1800, 4), (0x1A00, 4), (0x2500, 256), (0x2710, 4), (0x2720, 8), (0x2800, 16),
   (0x2810, 3), (0x2900, 8), (0x2A10, 16), (0x4410, 8), (0x4710, 8), (0x4800, 16), (0x4900, 8), (0x6100, 256),
   (0x6300, 16)]

/-- The place of an index and sub-index (R407, R158, R398). -/
def place (idx sub : Nat) : Place :=
  if 0x3000 ≤ idx ∧ idx < 0x4000 then
    let o := (idx - 0x3000) % 0x40
    let c := (idx - 0x3000) / 0x40
    if o = 8 ∨ o = 9 then ⟨0x3000 + o, c, if sub < 0x40 then sub / 0x10 else 0, if sub < 0x40 then sub % 0x10 else sub⟩
    else ⟨0x3000 + o, c, 0, sub⟩
  else if 0x5000 ≤ idx ∧ idx < 0x6000 then
    ⟨0x5000 + (idx - 0x5000) % 0x40, (idx - 0x5000) / 0x40, 0, sub⟩
  else if idx = 0x2F00 ∧ 0x10 ≤ sub ∧ sub < 0x70 ∧ sub % 0x10 < 8 then ⟨idx, 0, sub / 0x10, 0x10 + sub % 0x10⟩
  else if idx = 0x2F00 ∧ 0x10 ≤ sub then ⟨idx, 0, 0, 0xFF⟩
  else
    match families.find? (fun p => p.1 ≤ idx && idx < p.1 + p.2) with
    | some p => ⟨p.1, idx - p.1, 0, sub⟩
    | none => ⟨idx, 0, 0, sub⟩

/-- The table that lists a template index, found by halving (every row of `objRows` stands in the table of its index:
Laws/Objects.lean). -/
def tableFor (base : Nat) : List ObjRow :=
  if base < 0x3007 then
   if base < 0x2710 then
    if base < 0x2100 then
     if base < 0x1018 then
      if base < 0x1008 then
       if base < 0x1001 then
        table20_3
       else
        table19_11
      else
       if base < 0x1010 then
        table0_5
       else
        table19_11
     else
      if base < 0x1FF0 then
       if base < 0x1400 then
        table0_5
       else
        tablePdo
      else
       if base < 0x2000 then
        table19_11
       else
        table20_3
    else
     if base < 0x2500 then
      if base < 0x2300 then
       if base < 0x2200 then
        table10_5
       else
        table8_9
      else
       if base < 0x2400 then
        table9_4
       else
        table10_5
     else
      if base < 0x2700 then
       if base < 0x2600 then
        table11_3
       else
        table11_4
      else
       if base < 0x2701 then
        table12_7
       else
        if base < 0x2702 then
         table12_8
        else
         table12_9
   else
    if base < 0x2D00 then
     if base < 0x2900 then
      if base < 0x2800 then
       if base < 0x2720 then
        table12_10
       else
        table12_8
      else
       if base < 0x2810 then
        table13_6
       else
        table13_7
     else
      if base < 0x2A10 then
       if base < 0x2A00 then
        table14_3
       else
        table15_3
      else
       if base < 0x2B00 then
        table15_4
       else
        if base < 0x2C00 then
         table16_6
        else
         table17_8
    else
     if base < 0x3001 then
      if base < 0x2F00 then
       if base < 0x2E00 then
        table18_4
       else
        table20_4
      else
       if base < 0x3000 then
        table19_9 ++ table19_10
       else
        table2_8
     else
      if base < 0x3004 then
       if base < 0x3002 then
        table1_4
       else
        table2_8
      else
       if base < 0x3005 then
        table3_6
       else
        if base < 0x3006 then
         table4_2
        else
         table5_4
  else
   if base < 0x5000 then
    if base < 0x4401 then
     if base < 0x4010 then
      if base < 0x300B then
       if base < 0x3008 then
        table6_6
       else
        table7_3
      else
       if base < 0x300C then
        table8_10
       else
        table9_5
     else
      if base < 0x4100 then
       if base < 0x4011 then
        table3_6
       else
        table4_2
      else
       if base < 0x4200 then
        table10_5
       else
        if base < 0x4300 then
         table8_9
        else
         table9_4
    else
     if base < 0x4900 then
      if base < 0x4710 then
       if base < 0x4700 then
        table11_4
       else
        table12_9
      else
       if base < 0x4800 then
        table12_8
       else
        table13_6
     else
      if base < 0x4B00 then
       if base < 0x4A00 then
        table14_3
       else
        table15_3
      else
       if base < 0x4C00 then
        table16_6
       else
        if base < 0x4E00 then
         table17_8
        else
         table20_4
   else
    if base < 0x500C then
     if base < 0x5006 then
      if base < 0x5003 then
       if base < 0x5001 then
        table2_8
       else
        table1_4
      else
       if base < 0x5004 then
        table2_8
       else
        table3_6
     else
      if base < 0x5009 then
       if base < 0x5008 then
        table4_2
       else
        table5_4
      else
       if base < 0x500A then
        table6_6
       else
        if base < 0x500B then
         table7_3
        else
         table8_10
    else
     if base < 0x6205 then
      if base < 0x6200 then
       if base < 0x6100 then
        table9_5
       else
        table7_3
      else
       if base < 0x6202 then
        table10_5
       else
        table11_4
     else
      if base < 0x6300 then
       if base < 0x6206 then
        table15_3
       else
        table16_6
      else
       if base < 0x6E00 then
        table13_6
       else
        if base < 0x6F00 then
         table20_4
        else
         table19_10

/-- The rows of a template index. -/
def rowsOf (base : Nat) : List ObjRow :=
  (tableFor base).filter fun r => r.idx == base

/-- The row of an object, if the dictionary holds it (R402). -/
def rowOf (idx sub : Nat) : Option ObjRow :=
  let p := place idx sub
  (tableFor p.base).find? fun r => r.idx == p.base && r.subLo ≤ p.sub && p.sub ≤ r.subHi

/-- Whether an index exists at all. -/
def indexExists (idx : Nat) : Bool :=
  (tableFor (place idx 1).base).any fun r => r.idx == (place idx 1).base

/-- The highest sub-index an index holds, which its sub-index 00 reads (R403). -/
def highestSub (idx : Nat) : Nat :=
  let b := (place idx 1).base
  let h := (rowsOf b).foldl (fun m r => max m r.subHi) 0
  if b = 0x3008 ∨ b = 0x3009 then 0x30 + h else if b = 0x2F00 then 0x67 else h

/-- Whether the index has the sub-index 00 entry of R403: its values begin at sub-index 01. -/
def hasSub00 (idx : Nat) : Bool :=
  indexExists idx && ((rowsOf (place idx 1).base).all fun r => r.subLo != 0)

/-- One number for an index and a sub-index. -/
def key (idx sub : Nat) : Nat := 256 * idx + sub

/-- Index and sub-index of a key. -/
def keyIdx (k : Nat) : Nat := k / 256
def keySub (k : Nat) : Nat := k % 256

/-- Default latency targets of Table 17-3, ns (R350). -/
def latencyDefaults : List Int := [2000, 3000, 4000, 4000, 6000, 8000, 12000, 8000, 32000, 1000000]

/-- The default of a numeric object (R404), with the defaults that depend on the sub-index or the instance. -/
def defaultOf (k : Nat) : Int :=
  let idx := keyIdx k
  let sub := keySub k
  let p := place idx sub
  if p.base = 0x2500 ∧ 0x0D ≤ sub ∧ sub ≤ 0x11 then 0x0101 + (sub - 0x0D)
  else if p.base = 0x500A ∧ (sub = 1 ∨ sub = 5 ∨ sub = 9) then 1024
  else if p.base = 0x500A ∧ (sub = 0x0B ∨ sub = 0x0C) then 512
  else if idx = 0x4C01 ∧ 1 ≤ sub ∧ sub ≤ 0x0A then latencyDefaults.getD (sub - 1) 0
  else if p.base = 0x1400 ∧ sub = 1 then 0x80000200 + 0x100 * p.inst + 16
  else if p.base = 0x1800 ∧ sub = 1 then 0x80000180 + 0x100 * p.inst + 16
  else
    match rowOf idx sub with
    | some r => r.dflt
    | none => 0

/-- The largest and smallest value of a numeric type. -/
def Ty.top : Ty → Int
  | .u8 => 0xFF | .u16 => 0xFFFF | .u32 => 0xFFFFFFFF | .u64 => 0xFFFFFFFFFFFFFFFF
  | .i8 => 0x7F | .i16 => 0x7FFF | .i32 => 0x7FFFFFFF
  | .vstr => 0 | .octets _ => 0 | .domain _ => 0

/-- Bytes a value of a type takes (Table 19-1). -/
def Ty.size : Ty → Nat
  | .u8 => 1 | .i8 => 1 | .u16 => 2 | .i16 => 2 | .u32 => 4 | .i32 => 4 | .u64 => 8
  | .vstr => 32 | .octets n => n | .domain n => n

/-- Whether a type's values are numbers. -/
def Ty.numeric : Ty → Bool
  | .vstr => false | .octets _ => false | .domain _ => false
  | .u8 => true | .u16 => true | .u32 => true | .u64 => true | .i8 => true | .i16 => true | .i32 => true

/-- Whether a numeric type is signed. -/
def Ty.signed : Ty → Bool
  | .i8 => true | .i16 => true | .i32 => true
  | .u8 => false | .u16 => false | .u32 => false | .u64 => false | .vstr => false | .octets _ => false
  | .domain _ => false

/-- The retention class of a key (R452); an unknown key counts as runtime state. -/
def retentionOf (k : Nat) : Retention :=
  match rowOf (keyIdx k) (keySub k) with
  | some r => r.ret
  | none => .runtime

end Sys2Proof.Machine
end

