-- ==== Sys2Proof/Machine/TypesControl.lean ====
section
/-! DEFINITION. TypesControl.lean: the state of the control plane: time base, commit sessions, long operations, CAN FD,
Exfer, events, power and flash. -/

namespace Sys2Proof.Machine

/-- Meridian's counter (R263), kept in units of 2^-48 ns so that the addend's 48 fraction bits are exact. -/
structure Clk where
  /-- Meridian, units of 2^-48 ns from the PTP epoch. -/
  merid  : Nat
  /-- What each 125 MHz cycle adds, in the same units: nominal 8 ns. -/
  addend : Nat
  /-- 125 MHz cycles since power-on. -/
  cycles : Nat
  deriving DecidableEq, Repr

/-! ### Commits (R379-R385) -/

/-- An open commit session (R379). -/
structure Session where
  client : Client
  ident  : Nat
  writes : List HostWrite
  /-- Bytes of DOMAIN data held, against R381's limit, are counted from `writes`. -/
  last   : Tick
  deriving DecidableEq, Repr

/-- A client's own commit fields 0x2F00:01-:06, :0A and :0B (R401). -/
structure ClientRegs where
  client : Client
  ident  : Nat
  secs   : Nat
  nanos  : Nat
  epoch  : Nat
  status : Nat
  abort  : Nat
  relay  : Nat
  deriving DecidableEq, Repr

/-- An accepted commit that has not reached its target (R381, R382). -/
structure PendingCommit where
  /-- Who sent it; none for a commit that a cascade master relayed to this member. -/
  client  : Option Client
  /-- 0 for an implicit commit (R380). -/
  ident   : Nat
  target  : Tick
  epoch   : Nat
  writes  : List HostWrite
  /-- The Survey value that comes into force with it (R372). -/
  survey  : Nat
  /-- Other units of the cascade vote on it too (R206). -/
  relayed : Bool
  deriving DecidableEq, Repr

/-- The commit that the cascade master has relayed and whose votes it waits for (R206). -/
structure RelayedCommit where
  client : Client
  ident  : Nat
  /-- Positions whose vote is still missing. -/
  waiting : List Nat
  deriving DecidableEq, Repr

/-- A commit in force: its target, what the objects and bytes it changed held before, and the Survey value before it. A slot
whose T0(n) lies before the target still reads them (R382). -/
structure Undo where
  target : Tick
  objs   : Tab Int
  data   : Tab Byte
  survey : Nat
  deriving DecidableEq, Repr

/-- What the module holds of commits. -/
structure CommitSt where
  sessions : List Session
  regs     : List ClientRegs
  pending  : List PendingCommit
  relay    : Option RelayedCommit
  /-- Accepted Frame writes waiting for the next picture-level decision of their channel (R377). -/
  held     : Tab Int
  /-- For each change in force: what slots before it still read, newest first (R382). -/
  undo     : List Undo
  deriving DecidableEq, Repr

/-- A host check that runs (R369): the range, and the expected value. -/
structure HostCheck where
  idx      : Nat
  sub      : Nat
  off      : Nat
  len      : Nat
  expected : Nat
  deriving DecidableEq, Repr

/-! ### Long operations (R398, R399) -/

/-- What one kind holds beside its block in 0x2F00: its arguments as they stood at the start, and what else it took
then. -/
structure OpRun where
  argA  : Nat
  /-- The target slot of a cascade join; the Meridian nanoseconds [31:0] at an eye scan's start. -/
  argB  : Nat
  /-- The channels a pair resync names; the dwell exponent of an eye scan. -/
  chans : List Nat
  /-- The stored values as they stood when a dictionary save began (R399). -/
  saved : Tab Int
  savedBytes : Tab Byte
  deriving DecidableEq, Repr

/-! ### CAN FD (R386-R389) -/

/-- NMT states of Table 19-3. -/
inductive Nmt where
  | initialising | preOperational | operational | stopped
  deriving DecidableEq, Repr

/-- A segmented or block transfer over SDO or USDO (R387). -/
structure SdoXfer where
  obj    : Obj
  /-- True from the module to the client. -/
  up     : Bool
  block  : Bool
  size   : Nat
  /-- Bytes received so far, or still to send. -/
  data   : List Byte
  /-- The toggle bit the next segment must carry; in a block transfer, the last block has come or gone. -/
  toggle : Bool
  /-- Segments of a block, when the module sends. -/
  blkSize : Nat
  /-- The whole value, over which a block's CRC runs. -/
  whole  : List Byte
  last   : Tick
  deriving DecidableEq, Repr

/-- One TPDO's last value and last send instant (R387). -/
structure TpdoRt where
  sent : List Byte
  last : Option Tick
  deriving DecidableEq, Repr

/-- The CAN FD path (R386, R387, R425). -/
structure CanSt where
  nmt      : Nmt
  /-- Node ID and data phase in force: new ones act at the next NMT reset-communication (R386). -/
  nodeId   : Nat
  phase    : Nat
  sdo      : Option SdoXfer
  /-- USDO clients served, with their transfers: at most 4 (R387). -/
  usdo     : List (Nat × Option SdoXfer)
  /-- EMCY messages waiting, at most 16 (R425). -/
  emcy     : List (List Byte)
  emcyLast : Option Tick
  hbLast   : Option Tick
  tpdo     : Tab TpdoRt
  /-- The client whose save confirmation waits for operation kind 6 (R388). -/
  saveWait : Option Client
  /-- The SDO download whose answer follows later: its object and the frame that confirms it. -/
  late     : Option (Obj × List Byte)
  deriving DecidableEq, Repr

/-! ### Exfer (R390-R397) -/

/-- One block transfer of a session (R394). -/
structure ExferBlock where
  ident     : Nat
  obj       : Obj
  fromModule : Bool
  off       : Nat
  total     : Nat
  /-- Next contiguous offset received, or last acknowledged offset when sending. -/
  next      : Nat
  /-- Sent up to here, when sending. -/
  sent      : Nat
  /-- Blocks received since the last acknowledgement. -/
  unacked   : Nat
  /-- Bytes held for a Staged DOMAIN; or the bytes that the module sends, as they stood at the open. -/
  held      : List Byte
  /-- Instant of the last progress, and of the last resend. -/
  last      : Tick
  resent    : Tick
  deriving DecidableEq, Repr

/-- A subscription and its queue of records, each with the instant at which it joined (R395, R427). -/
structure ExferSub where
  minSev : Nat
  queue  : List (Tick × List Byte)
  deriving DecidableEq, Repr

/-- An Exfer session (R391-R395). -/
structure ExferSession where
  ident     : Nat
  port      : Nat
  keySlot   : Nat
  clientNonce : List Byte
  moduleNonce : List Byte
  /-- The last request served. -/
  q         : Nat
  /-- Its stored response: flags byte (0 while it is still to come), message type and body. -/
  stored    : Nat × Nat × List Byte
  last      : Tick
  sub       : Option ExferSub
  block     : Option ExferBlock
  deriving DecidableEq, Repr

/-- The Exfer server. -/
structure ExferSt where
  sessions : List ExferSession
  nextId   : Nat
  nextXfer : Nat
  /-- Last accepted pair heartbeat notify: serial, sequence number, instant (R396). -/
  hb       : Option (Nat × Nat × Tick)
  deriving DecidableEq, Repr

/-! ### Events (R419-R427) -/

/-- An event on its way to the writer (R420): code, channel (0xFF none), slot, parameters. -/
structure Event where
  code : Nat
  chan : Nat
  slot : Nat
  p0   : Nat
  p1   : Nat
  p2   : Nat
  deriving DecidableEq, Repr

/-- The event writer and the log (R421-R424). -/
structure EvtSt where
  /-- Events waiting for the writer, at most 4,096. -/
  queue   : List Event
  /-- Events whose producers hold them in their collector slots while the queue is full (R422). -/
  stalled : List Event
  /-- Records of 32 bytes, oldest first, at most 1,024. -/
  log     : List (List Byte)
  /-- Serial of the newest event; of the newest of severity 3 in groups 0x02 to 0x04; of the newest in another group
  (R426). -/
  newest  : Nat
  faultLink  : Nat
  faultOther : Nat
  /-- ATTN_N is asserted. -/
  attn    : Bool
  deriving DecidableEq, Repr

/-! ### Power, reset and flash (R430-R454) -/

/-- The supply as the module sees it (R430, R431). The undefined band also stands for a DRAM stack above its limit (R482). -/
inductive Vin where
  | off | running | undefinedBand
  deriving DecidableEq, Repr

/-- Power and reset. -/
structure PowerSt where
  vin     : Vin
  /-- RESET_N is low. -/
  resetLow : Bool
  /-- The domains are held: 0 while PD0 has no power or VIN has just risen, 4 or 5 for the 10 ms of R448. -/
  held    : Option Nat
  /-- The management core runs and serves CAN FD: from the 150 ms stage on where it restarts, throughout for kinds
  4 and 5 (R387, R443). -/
  core    : Bool
  /-- Start stages reached, Table 22-4: 0 to 4. -/
  stage   : Nat
  /-- The hold of R449. -/
  hold    : Bool
  /-- A power-state transition in progress: the state asked for (R440). -/
  transition : Option Nat
  /-- Engine-pair domains that a fault removed, bit d (R438, R439). -/
  isolated : Nat
  /-- te, while the module is frozen (R353). -/
  freeze  : Option Tick
  straps  : Nat
  /-- The firmware bank that runs (R443). -/
  bank    : Nat
  /-- The reset kind that the present start follows, and the cycle from which its stages count (R448). -/
  start   : Nat
  base    : Nat
  /-- The cycle of the last reset of any kind, behind 0x2000:06 (R408). -/
  since   : Nat
  deriving DecidableEq, Repr

/-- One saved dictionary image (R451). -/
structure FlashImage where
  seq   : Nat
  good  : Bool
  epoch : Nat
  dict  : Tab Int
  bytes : Tab Byte
  deriving DecidableEq, Repr

/-- One firmware bank (R399, R443): its valid mark, its place in the order of installs, the image, and the patch level of the
release that an installed image holds; none for the firmware of manufacture (R5). -/
structure FlashBank where
  valid : Bool
  seq   : Nat
  image : List Byte
  patch : Option Nat
  deriving DecidableEq, Repr

/-- The flash, and the restore-defaults marker that PD0 holds (R451). -/
structure FlashSt where
  imageA  : Option FlashImage
  imageB  : Option FlashImage
  restore : Bool
  bank0   : FlashBank
  bank1   : FlashBank
  deriving DecidableEq, Repr

end Sys2Proof.Machine
end

