-- ==== Sys2Proof/Machine/TypesIngress.lean ====
section
/-! DEFINITION. TypesIngress.lean: the state of network ingress: flows, frames in assembly and their lines. -/

namespace Sys2Proof.Machine

/-- A Flow Table record (R211, Table 10-2). -/
structure FlowRec where
  on       : Bool
  kind     : Nat
  hasB     : Bool
  pt       : Nat
  vlanA    : Nat
  dstA     : Nat
  srcA     : Nat
  portA    : Nat
  vlanB    : Nat
  dstB     : Nat
  srcB     : Nat
  portB    : Nat
  ethA     : Nat
  ethB     : Nat
  lrep     : Nat
  ssrc     : Nat
  width    : Nat
  height   : Nat
  rate     : Nat
  fmt      : Nat
  ac       : Nat
  polRate  : Nat
  polDepth : Nat
  deriving DecidableEq, Repr

/-- A line of a frame in assembly (R223): the sample runs received so far, each with its first sample's place in
pgroup order, or the closed line's samples and whether it closed present. -/
inductive LineRt where
  | collecting (runs : List (Nat × List Nat))
  | closed (present : Bool) (data : List Nat)
  deriving DecidableEq, Repr

/-- What a slot of a flow was given (R221, R222): undecided, a present frame, a repeat of the frame assembled for an
earlier slot, or nothing. -/
inductive SlotGift where
  | undecided | present | repeated (from_ : Nat) | absent
  deriving DecidableEq, Repr

/-- A frame slot of a video flow. -/
structure FrameRt where
  gift   : SlotGift
  /-- Media-clock count of the frame assigned to the slot, once a packet of it has come. -/
  stamp  : Option Nat
  /-- Whether a later frame that mapped to the slot has been counted as dropped, by media-clock count (R220). -/
  dropped : List Nat
  lines  : Tab LineRt
  deriving DecidableEq, Repr

/-- One number of the merged sequence space that is held (R217): the number, extended; slot and line of its data;
when and on which path it came. -/
structure HeldSeq where
  seq   : Nat
  slot  : Nat
  line  : Nat
  pcs   : Tick
  pathB : Bool
  deriving DecidableEq, Repr

/-- A token bucket (R218): level in units of 1/524,288,000,000 byte, and the instant it was computed for. -/
structure Bucket where
  level : Nat
  at_   : Tick
  deriving DecidableEq, Repr

/-- Counters of a status record (Table 10-4), in its order. -/
structure FlowStat where
  rxA : Nat
  rxB : Nat
  dup : Nat
  lost : Nat
  polA : Nat
  polB : Nat
  late : Nat
  concealed : Nat
  repeated : Nat
  dropped : Nat
  absent : Nat
  worst : Option Int
  malformed : Nat
  deriving DecidableEq, Repr

/-- An accepted commit changes an entry (R213, R488): the fields it replaces, good for slots before `until_`, its own, from
that slot on, and whether the groups of the old ones have been left. -/
structure OldAddress where
  fields : FlowRec
  new    : FlowRec
  until_ : Nat
  target : Tick
  left   : Bool
  deriving DecidableEq, Repr

/-- A flow while it runs. -/
structure FlowRt where
  bucketA : Option Bucket
  bucketB : Option Bucket
  /-- Last matched packet per path (R229); none once the path is silent. -/
  lastA   : Option Tick
  lastB   : Option Tick
  /-- The flow has had a packet since it was enabled. -/
  heard   : Bool
  held    : List HeldSeq
  /-- Gaps up to this number have been counted (R217). -/
  counted : Nat
  frames  : Tab FrameRt
  /-- Consecutive unmapped slots before the next one (R221). -/
  run     : Nat
  /-- The last slot that had a frame, present or repeated, and the slot whose assembly it shows. -/
  lastFrame : Option (Nat × Nat)
  /-- Ancillary packets per slot, by the number of the RTP packet that brought them, and the slots closed (R225). -/
  anc     : Tab (List (Nat × List AncPacket))
  ancClosed : List Nat
  /-- Audio samples per index, one list entry per audio channel, and the first index not yet closed. -/
  audio   : Tab (List Nat)
  audioNext : Option Nat
  lastAudio : List Nat
  /-- Changes of the entry, in the order of their targets. -/
  old     : List OldAddress
  /-- The first slot since the entry was last enabled. -/
  since   : Nat
  deriving DecidableEq, Repr

/-- A port's Ethernet side: address resolution (R235) and when it was last refreshed. -/
structure PortRt where
  up      : Bool
  arp     : List (Nat × Nat)
  refreshed : Option Tick
  /-- Multicast groups joined. -/
  groups  : List (Nat × Nat)
  deriving DecidableEq, Repr

end Sys2Proof.Machine
end

