-- ==== Sys2Proof/Machine/TypesMedia.lean ====
section
/-! DEFINITION. TypesMedia.lean: the state of egress, the serial audio ports and Atlas. -/

namespace Sys2Proof.Machine

/-! ### Egress (R231-R254) -/

/-- Ethernet, IPv4 and UDP fields of an outgoing packet (R235). -/
structure EgressHdr where
  dstMac : Nat
  srcMac : Nat
  /-- VLAN ID, 0 untagged, and PCP. -/
  vlan   : Nat
  pcp    : Nat
  srcIp  : Nat
  dstIp  : Nat
  dscp   : Nat
  ttl    : Nat
  srcPort : Nat
  dstPort : Nat
  deriving DecidableEq, Repr

/-- An entry of the Destination Table (Table 11-2). -/
structure Dest where
  d       : Nat
  pathB   : Bool
  stream  : Nat
  port    : Nat
  ip      : Nat
  udpDst  : Nat
  udpSrc  : Nat
  vlan    : Nat
  pcp     : Nat
  mac     : Nat
  deriving DecidableEq, Repr

/-- What of a stream's objects its packets carry: queue, DSCP and TTL (R235, R250). -/
structure StreamMark where
  queue : Nat
  dscp  : Nat
  ttl   : Nat
  deriving DecidableEq, Repr

/-- A paced packet in a port's timing wheel (R246, R247), with the entry and the stream's objects it was formed under (R236). -/
structure WheelItem where
  dest   : Dest
  chan   : Nat
  mark   : StreamMark
  /-- Rank, AU slot, packet number. -/
  rank   : Nat
  slot   : Nat
  i      : Nat
  t      : Tick
  /-- The last packet of the AU. -/
  last   : Bool
  /-- A packet-buffer error took it (R356). -/
  bad    : Bool
  rtp    : List Byte
  deriving DecidableEq, Repr

/-- The numbers of an AU on a stream (R254): RTP sequence number and TS continuity counters before it, how many packets of
the stream and of each PID it takes, and the values that the next AU begins with. -/
structure AuNumbers where
  chan  : Nat
  slot  : Nat
  seq   : Nat
  cc    : List Nat
  pkts  : Nat
  adds  : List Nat
  seqAfter : Nat
  ccAfter  : List Nat
  deriving DecidableEq, Repr

/-- A stretch over which a stream sends with one kind and channel (R233): its first slot, the first it no longer sends, once a
commit has said so, and whether it began with the stream's enabling. For kinds 2 and 3 the slots are packet indices. -/
structure StreamRun where
  kind    : Nat
  chan    : Nat
  first   : Nat
  stop    : Option Nat
  restart : Bool
  deriving DecidableEq, Repr

/-- A stream that is or was enabled (R233, R254). -/
structure StreamRt where
  /-- Its runs, newest first, at most 4. -/
  runs      : List StreamRun
  /-- Numbers of its AUs, newest first, at most 16. -/
  numbers   : List AuNumbers
  /-- The epochs that changed its PAT and PMT, with their targets, newest first (R238). -/
  psi       : List (Tick × Nat)
  /-- Slot and index of the last packet of which a copy has left, and the last slot whose last packet has. -/
  counted   : Option (Nat × Nat)
  sentSlot  : Option Nat
  deriving DecidableEq, Repr

/-- Egress. -/
structure EgressSt where
  streams : Tab StreamRt
  wheel   : List WheelItem
  /-- When each port's wire is free again. -/
  wireFree : Tab Tick
  /-- A gate list is armed to take over at this instant, by port (R252), with its entries and base. -/
  armed   : Tab (Tick × List Byte × Tick)
  /-- Bases of the operational lists. -/
  bases   : Tab Tick
  /-- The next packet of a kind 2 or kind 3 stream on an entry, by 256 · entry + stream. -/
  timed   : Tab Nat
  deriving DecidableEq, Repr

/-! ### Serial audio ports (R298-R313) -/

/-- A serial audio port while it is enabled. -/
structure AudioPort where
  /-- Start instant S, once known; a port on the common trigger waits without one. -/
  start   : Option Tick
  running : Bool
  /-- φ0, in units of 2^-18 sample; none until the first edge (R303). -/
  phase   : Option Int
  /-- Places of the last edges, newest first, in 2^-18 sample, at most 64 (R303). -/
  edges   : List Int
  /-- The last index handled (R307). -/
  p       : Int
  /-- Sample frames stored by index, one 32-bit word for each slot. -/
  samples : Tab (List Nat)
  last    : List Nat
  /-- When the run of repeats began, and whether the hold limit has passed (R309). -/
  repeating : Option Tick
  zeroed  : Bool
  lastEdge : Option Tick
  /-- A slave port's clock is lost: no edge for 1 ms (R309). -/
  lost    : Bool
  /-- The rate window: start, first and last edge in it, periods, clock lost (R311). -/
  winFrom : Tick
  winFirst : Option Tick
  winLast : Tick
  winCount : Nat
  winLost : Bool
  /-- A drift event may be raised again. -/
  driftArmed : Bool
  deriving DecidableEq, Repr

/-- The common trigger, armed (R306): source, and the instant of a Meridian trigger. -/
structure Trigger where
  source : Nat
  at_    : Tick
  deriving DecidableEq, Repr

/-- Serial audio. -/
structure AudioSt where
  ports   : Tab AudioPort
  trigger : Option Trigger
  /-- The master of the cascade is lost: output ports send 0 (R310). -/
  muted   : Bool
  deriving DecidableEq, Repr

/-! ### Atlas (R314-R325) -/

/-- What a tile shows (R319). -/
inductive TileSource where
  | none
  /-- The assembly of a flow's slot, shown for slot n. -/
  | flow (f n m : Nat)
  /-- A channel's picture entry of AU n: its buffer, or the constant source. -/
  | recon (c n : Nat) (buf : Option Nat)
  deriving DecidableEq, Repr

/-- A region's freeze detection (R325): the last compared signature and timestamp, and the run. -/
structure FreezeRun where
  sig   : Option Nat
  stamp : Nat
  run   : Nat
  deriving DecidableEq, Repr

/-- A tile. -/
structure TileRt where
  shown : TileSource
  /-- The active line and the sample position from which it is off for the rest of the frame (R321). -/
  offFrom : Option (Nat × Nat)
  underBefore : Bool
  freeze : FreezeRun
  deriving DecidableEq, Repr

/-- A committed snapshot of the pending set (R322). -/
structure AtlasSnap where
  seq : Nat
  at_ : Tick
  set : Tab Int
  deriving DecidableEq, Repr

/-- Atlas. -/
structure AtlasSt where
  /-- The set in force. -/
  inForce : Tab Int
  snaps   : List AtlasSnap
  nextSeq : Nat
  /-- The next frame whose apply instant has not come, while Atlas runs. -/
  next    : Option Nat
  /-- The snapshot that turns Atlas off acts after the frames whose apply instant preceded it. -/
  frame   : Nat
  /-- The first frame since Atlas was enabled. -/
  first   : Nat
  tiles   : List TileRt
  raster  : FreezeRun
  /-- The output line store: samples of the active lines composed, by `lineKey` of frame and line. -/
  lines   : Tab (List Nat)
  deriving DecidableEq, Repr

/-! ### Movers (R357-R362) -/

/-- A descriptor (Table 17-7), with the pool buffer its destination belongs to, by channel and buffer. -/
structure Descriptor where
  src     : Nat
  dst     : Nat
  len     : Nat
  counter : Nat
  stop    : Bool
  owner   : Option (Nat × Nat)
  deriving DecidableEq, Repr

/-- A mover channel: the descriptors of its ring that wait, oldest first, and whether a stop bit has halted it. -/
structure MoverRt where
  ring    : List Descriptor
  stopped : Bool
  /-- Status and offset written into the descriptor that ended last (Table 17-7). -/
  last    : Option (Nat × Nat)
  deriving DecidableEq, Repr

/-- A table word on its way back from the working configuration image (R356): of the Flow Table or the Destination Table,
its entry, and when it is back at the latest. -/
structure TableHole where
  flow   : Bool
  entry  : Nat
  until_ : Tick
  deriving DecidableEq, Repr

end Sys2Proof.Machine
end

