-- ==== Sys2Proof/Machine/TypesOrchard.lean ====
section
/-! DEFINITION. TypesOrchard.lean: the state of the task scheduler and the completion collector (R327-R343). -/

namespace Sys2Proof.Machine

/-- Task states of Table 16-2; a done task has left the table. -/
inductive TaskState where
  | waiting | ready
  /-- In service on an engine or control core, by its producer index (Table 16-4). -/
  | running (exec : Nat)
  deriving DecidableEq, Repr

/-- A task (R327). -/
structure TaskRt where
  kind  : Nat
  /-- Channel; for a pre-analysis band, the source flow. -/
  chan  : Nat
  slot  : Nat
  /-- CTU row or band. -/
  row   : Nat
  deadline : Tick
  /-- Creation sequence number. -/
  seq   : Nat
  state : TaskState
  /-- Counter it took, with the dependences whose decrements have not been sent (R331). -/
  counter : Option Nat
  owed  : Nat
  /-- A row task is past its decision phase. -/
  coding : Bool
  /-- The executor it last ran on. -/
  lastOn : Option Nat
  deriving DecidableEq, Repr

/-- A completion record in a producer's slot (R340): the fabric cycle it was written in, the task it completes, and the
counters it decrements. -/
structure CollRec where
  cycle : Nat
  task  : Option Nat
  decs  : List Nat
  deriving DecidableEq, Repr

/-- A producer: at most two slots, oldest first, and the records it holds back while both are full. -/
structure Producer where
  slots   : List CollRec
  stalled : List CollRec
  deriving DecidableEq, Repr

/-- Orchard and the collector. -/
structure OrchSt where
  tasks    : Tab TaskRt
  counters : Tab Nat
  nextSeq  : Nat
  prods    : Tab Producer
  /-- The first fabric cycle in which the next round can start. -/
  free     : Nat
  /-- The engine that completed each channel's previous engine task, and the core of each flow. -/
  lastEngine : Tab Nat
  lastCore   : Tab Nat
  /-- Trace records still to be written once the stop event has come. -/
  stopLeft : Option Nat
  deriving DecidableEq, Repr

end Sys2Proof.Machine
end

