-- ==== Sys2Proof/Machine/TypesPeer.lean ====
section
/-! DEFINITION. TypesPeer.lean: the state of the device links, the hitless pair and the cascade. -/

namespace Sys2Proof.Machine

/-- A device link (R289-R296). Its state and lane facts stand in its objects. -/
structure LinkRt where
  /-- Its physical lanes, and the rate code, as configured. -/
  lanes   : List Nat
  rate    : Nat
  /-- Instant at which its bring-up state was entered (Table 13-4). -/
  since   : Tick
  /-- Adaptation is complete: what state 2 waits for. -/
  adapted : Bool
  /-- A miswired event has been raised in this attempt. -/
  miswired : Bool
  /-- Messages in assembly by priority rank (R292): next fragment index and bytes; no bytes once a frame of the message
  has been discarded. -/
  open_   : Tab (Nat × Option (List Byte))
  /-- Whole messages received and not yet taken: class and bytes. -/
  inbox   : List (Nat × List Byte)
  deriving DecidableEq, Repr

/-! ### The pair (R159-R179) -/

/-- What a unit holds of one AU's records: its own and the partner's decision and AU records, the partner's resync
record, and which of the two have been compared (bits 0 and 1). -/
structure PairRecs where
  ownDec  : Option (List Byte)
  ownAu   : Option (List Byte)
  hisDec  : Option (List Byte)
  hisAu   : Option (List Byte)
  resync  : Option (List Byte)
  /-- Bit 0: the decision records have been compared; bit 1: the AU records; bit 2: the decision records were judged. -/
  compared : Nat
  deriving DecidableEq, Repr

/-- A paired channel. -/
structure PairChan where
  recs     : Tab PairRecs
  /-- By slot and group: own band check values, and the partner's band records. -/
  ownBands : Tab (List Byte)
  hisBands : Tab (List Byte)
  /-- A cancel withdrew its requests (R171). -/
  withdrawn : Bool
  /-- A resync request has been sent and stands. -/
  requested : Bool
  /-- The partner's latest request, at the active: whether it holds a pinned entry, its POC and check value. -/
  asked    : Option (Bool × Nat × Nat)
  /-- The AU that resyncs the channel. -/
  resyncAt : Option Nat
  /-- The first AU that it releases. -/
  syncFrom : Nat
  /-- The slot whose decision waits for the partner's record (R171). -/
  deferred : Option Nat
  deriving DecidableEq, Repr

/-- The pair. -/
structure PairSt where
  /-- End of the 1 ms of R162. -/
  listen   : Option Tick
  hbSeq    : Nat
  hbLast   : Option Tick
  /-- When the partner's heartbeat last arrived on each route. -/
  lastMirror : Option Tick
  lastNet  : Option Tick
  /-- When the pair was enabled, from which silence counts while nothing has been heard. -/
  since    : Tick
  /-- Byte 3 and byte 12 of the partner's last heartbeat, and its channels in sync. -/
  partnerActive : Bool
  partnerFlags : Nat
  partnerSync : Nat
  /-- Promotion in progress since; and the instant of the latest change to the active role. -/
  promoting : Option Tick
  activeAt : Tick
  /-- In hold mode, the wheel slot from which it sends after a promotion (R173). -/
  unmuteAt : Tick
  /-- The roles last exchanged at this instant, and the unit was the standby before: slots before it keep that role (R177,
  R179). -/
  swapped  : Option (Tick × Bool)
  /-- The unit joined a running pair, so that its channels start diverged (R162). -/
  joined   : Bool
  chans    : Tab PairChan
  deriving DecidableEq, Repr

/-! ### The cascade (R181-R206) -/

/-- What the master holds of a region of an AU (R193, R203): substreams from row 0 on, the last row's continuation and
context state, and whether the master completes it. -/
structure RegionHold where
  rows    : List (List Byte)
  cont    : List Byte
  context : List Byte
  completed : Bool
  deriving DecidableEq, Repr

/-- A band segment held, verified (R196-R200): slot of its picture, exporter's region and row, place and size in the canvas,
packed samples. -/
structure Segment where
  slot   : Nat
  region : Nat
  row    : Nat
  x      : Nat
  y      : Nat
  w      : Nat
  h      : Nat
  data   : List Byte
  deriving DecidableEq, Repr

/-- A band segment by the picture's slot, the exporter's region and the row. -/
structure SegKey where
  slot   : Nat
  region : Nat
  row    : Nat
  deriving DecidableEq, Repr

/-- The cascade. -/
structure CascSt where
  /-- When it was enabled, from which silence counts while nothing has been heard. -/
  since    : Tick
  /-- When each position's heartbeat last arrived, and when this unit last sent its own. -/
  heard    : Tab Tick
  hbLast   : Option Tick
  /-- Lost members, bit p. -/
  lost     : Nat
  /-- This member waits for a join (R184). -/
  masterLost : Bool
  /-- Frame reports by slot and position, and each position's last one. -/
  reports  : Tab (List Byte)
  lastReport : Tab (List Byte)
  /-- Slots whose report close has passed, with the report-absent mask. -/
  closed   : Tab Nat
  /-- AU reports by slot and position. -/
  auReports : Tab (List Byte)
  /-- What the master holds, by slot and region. -/
  regions  : Tab RegionHold
  /-- Rows of own regions that the master has acknowledged, by slot and region. -/
  acked    : Tab Nat
  /-- Rows of own regions that have been exported. -/
  exported : List SegKey
  segments : List Segment
  /-- Segments requested again, and those that failed after that. -/
  retried  : List SegKey
  failed   : List SegKey
  /-- Band presence by slot and row of the member rectangle, once decided. -/
  presence : Tab Bool
  /-- POCs of canvas entries that members reported poisoned. -/
  poisoned : List Nat
  /-- POC of a rescued AU to be named in the next decision. -/
  rescue   : Option Nat
  /-- A rejoin admitted: position and target slot (R205). -/
  rejoin   : Option (Nat × Nat)
  /-- Messages for every member that this one has taken its copy of, newest first, at most 64 (R183). -/
  seen     : List (List Byte)
  deriving DecidableEq, Repr

end Sys2Proof.Machine
end

