-- ==== Sys2Proof/Machine/TypesTime.lean ====
section
/-! DEFINITION. TypesTime.lean: the state of PTP, the PLLs and the TIO pins. -/

namespace Sys2Proof.Machine

/-- The last Announce of a source on a port, when it came, and when the one before it came (R267). -/
structure Foreign where
  msg  : AnnounceMsg
  at_  : Tick
  before : Option Tick
  deriving DecidableEq, Repr

/-- A Sync whose Follow_Up is awaited (R269): sequence number, source, t2, correction. -/
structure SyncWait where
  port   : Nat
  source : Nat
  seq    : Nat
  t2     : Int
  corr   : Int
  deriving DecidableEq, Repr

/-- The Delay_Req last sent (R269): its sequence number and egress instant t3. -/
structure DelayWait where
  port : Nat
  seq  : Nat
  t3   : Int
  answered : Bool
  deriving DecidableEq, Repr

/-- PTP (R266-R274). Instants and offsets in ticks of 2^-16 ns. -/
structure PtpSt where
  /-- Foreign masters, by `foreignKey`. -/
  foreign  : Tab Foreign
  /-- The parent, with the port that hears it. -/
  parent   : Option Foreign
  wait     : Option SyncWait
  delay    : Option DelayWait
  /-- The latest t2 − t1 − c_sync, and the mean path delay. -/
  ms       : Int
  mean     : Int
  lastSync : Option Tick
  /-- Consecutive offsets within 500 ns, and whether the module has locked since its start. -/
  good     : Nat
  locked   : Bool
  /-- Consecutive Delay_Req without a Delay_Resp. -/
  missed   : Nat
  /-- The last addends, newest first, at most 64 (R274). -/
  addends  : List Nat
  /-- Offsets that the servo has seen, newest first, at most 64. -/
  offsets  : List Int
  holdSince : Option Tick
  /-- Next sequence number and last instant of Sync, Announce and Delay_Req, by `4 · port + kind`. -/
  seqs     : Tab (Nat × Tick)
  deriving DecidableEq, Repr

/-- A media PLL (R260-R262, R275-R278). -/
structure PllRt where
  /-- Divider word: 8 integer and 32 fraction bits. -/
  word   : Nat
  /-- Dither LFSR, 23 bits. -/
  lfsr   : Nat
  /-- Start of the measurement window while coasting. -/
  window : Option Tick
  /-- Since when the loop has been locked, free of slips and within 10 ns, while coasting or fallen back. -/
  since  : Option Tick
  deriving DecidableEq, Repr

/-- A TIO pin (R279-R282): the objects 01 to 0A as they stood at the mode write, when, and the next edge. -/
structure TioRt where
  armed : List Int
  at_   : Tick
  next  : Nat
  /-- The pulse is in its active level until this instant. -/
  until_ : Option Tick
  fifo  : List (List Byte)
  deriving DecidableEq, Repr

end Sys2Proof.Machine
end

