-- ==== Sys2Proof/Machine/State.lean ====
section
/-! DEFINITION. State.lean: the whole state of one unit, the reasons a command can stop, and the state after reset. -/

namespace Sys2Proof.Machine

/-- Everything that leaves the module: what the last command sent, in order (log 2). -/
inductive Out where
  /-- A write confirmed (0) or answered with an abort code (R375, R400). -/
  | confirm (c : Client) (code : Nat)
  /-- A host read answered with a value. -/
  | read (c : Client) (data : List Byte)
  /-- A CAN FD frame. -/
  | can (cob : Nat) (data : List Byte)
  /-- A USDO answer: abort code (0 = none) and value. -/
  | usdo (node code : Nat) (data : List Byte)
  /-- An Exfer datagram out of a port, with its tag. -/
  | exfer (port : Nat) (bytes tag : List Byte)
  /-- An IGMPv3 report: port, group, source (0 = EXCLUDE nothing), joining or leaving (R210, R213). -/
  | igmp (port group source : Nat) (join : Bool)
  /-- A media packet starts on a port's wire at an instant (R247). -/
  | packet (port : Nat) (at_ : Tick) (hdr : EgressHdr) (rtp : List Byte)
  /-- A packet is formed and dropped at its instant (R253, R254). -/
  | dropped (port entry : Nat)
  /-- An ARP request or answer: port, target address, answer's MAC (0 in a request). -/
  | arp (port ip mac : Nat)
  /-- A PTP message: port, its VLAN (0: untagged), messageType, domain, sequence number, instant, correction (2^-16 ns), and the fields of an
  Announce. -/
  | ptp (port vlan kind domain seq : Nat) (stamp : Tick) (corr : Int) (fields : List Nat)
  /-- A pin takes a level at an instant. -/
  | pin (pin : Nat) (level : Bool) (at_ : Tick)
  /-- A serial audio port sends one sample frame. -/
  | audio (port : Nat) (index : Int) (words : List Nat)
  /-- A pair heartbeat as an Exfer notify datagram (R172): destination address, datagram, tag. -/
  | heartbeat (dst : Nat) (bytes tag : List Byte)
  /-- A link frame on a device link, 0 lower, 1 upper, 2 mirror (R291): its place in the order of R163 and R183, its bytes from
  the header to the CRC. -/
  | frame (link order : Nat) (bytes : List Byte)
  /-- A lane sends training sets back to back from here on: the bytes of one (R290, Table 13-2). -/
  | training (lane : Nat) (bytes : List Byte)
  /-- Pacing, heartbeats and lane transmitters stop, and TIO and serial audio pins go high-impedance (R353, R445). -/
  | quiet
  /-- /R/ deleted from, or added to, the next compensation sequence of a link (R293). -/
  | skip (link : Nat) (deleted : Bool)
  deriving DecidableEq, Repr

/-- A frame that waits in one of a port's queues beside the paced packets (R250): when it joined, its length on the wire in bytes
with preamble and gap, and what leaves with it. -/
structure QueuedFrame where
  port  : Nat
  queue : Nat
  since : Tick
  wire  : Nat
  out   : Out
  deriving DecidableEq, Repr

/-- Survey (R372): the value in force, and the values of accepted Frame and Immediate changes, each with the instant
of its write. -/
structure SurveySt where
  value   : Nat
  changes : List (Tick × Nat)
  deriving DecidableEq, Repr

/-- The state of one unit. -/
structure State where
  /-- Commands waiting, first in first out. -/
  pending : List Instr
  clk     : Clk
  /-- The object dictionary: every numeric object at its value in force; an unlisted object holds its default. -/
  dict    : Tab Int
  /-- Contents of OCTET_STRING and DOMAIN objects, by byte. -/
  bytes   : Tab Byte
  /-- Bytes of the system address space (R345). -/
  mem     : Tab Byte
  /-- A memory test has left Legend data at zero (R363): until it is set to its default, an unlisted byte of a slot
  reads 0. -/
  slotsZero : Bool
  commit  : CommitSt
  ops     : Tab OpRun
  can     : CanSt
  exfer   : ExferSt
  evt     : EvtSt
  power   : PowerSt
  flash   : FlashSt
  survey  : SurveySt
  hostCheck : Option HostCheck
  flows   : Tab FlowRt
  flowStats : Tab FlowStat
  ports   : Tab PortRt
  /-- Pre-analysis by source flow and slot. -/
  ana     : Tab AnaRt
  chans   : Tab ChanRt
  orch    : OrchSt
  egress  : EgressSt
  audio   : AudioSt
  atlas   : AtlasSt
  movers  : Tab MoverRt
  hole    : Option TableHole
  ptp     : PtpSt
  /-- Video and Audio PLL. -/
  vpll    : PllRt
  apll    : PllRt
  tio     : Tab TioRt
  /-- Device links: 0 lower, 1 upper, 2 mirror. -/
  links   : Tab LinkRt
  pair    : PairSt
  casc    : CascSt
  /-- Frames other than media packets that wait in the ports' queues, oldest first (R250). -/
  queues  : List QueuedFrame
  /-- What the last command sent out. -/
  out     : List Out
  /-- How many free values have been drawn (log 3). -/
  free    : Nat
  deriving DecidableEq, Repr

/-- Why the machine can stop. -/
inductive Fault where
  /-- Raised by every command but VIN_OFF and VIN_BELOW_LIMIT while VIN stands in the band of R431, or after the
  DRAM stack has passed the limit of R482, where the spec calls every behaviour undefined. Safe: the model promises
  nothing there. -/
  | undefinedBehaviour
  deriving DecidableEq, Repr

/-- Why a command has no meaning. -/
inductive Refusal where
  /-- Raised by an arm of Dispatch whose command is not modelled. Safe. -/
  | notModelled (mnemonic : String)
  deriving DecidableEq, Repr

/-! ### After reset -/

/-- Nominal addend: 8 ns in units of 2^-48 ns (R263). -/
def nominalAddend : Nat := 8 * 0x1000000000000

/-- An empty CAN FD side, with the node ID and data phase of the defaults (R386). -/
def CanSt.reset : CanSt := ⟨.initialising, 16, 1, none, [], [], none, none, [], none, none⟩

/-- No firmware in a bank: bank 0 holds the running image at sequence 1, bank 1 is blank (log 9). -/
def FlashSt.reset : FlashSt := ⟨none, none, false, ⟨true, 1, [], none⟩, ⟨false, 0, [], none⟩⟩

/-- Power at power-on: VIN good, RESET_N released, the start sequence at its first stage, all held (R448, R449). -/
def PowerSt.reset : PowerSt := ⟨.running, false, none, false, 0, true, none, 0, none, 0, 0, 0, 0, 0⟩

/-- PTP before anything is heard. -/
def PtpSt.reset : PtpSt := ⟨[], none, none, none, 0, 0, none, 0, false, 0, [], [], none, []⟩

/-- A PLL that is off. -/
def PllRt.reset : PllRt := ⟨0, 0, none, none⟩

/-- The pair before it forms. -/
def PairSt.reset : PairSt := ⟨none, 0, none, none, none, 0, false, 0, 0, none, 0, 0, none, false, []⟩

/-- The cascade before it forms. -/
def CascSt.reset : CascSt := ⟨0, [], none, 0, false, [], [], [], [], [], [], [], [], [], [], [], [], none, none, []⟩

/-- Orchard with nothing in it. -/
def OrchSt.reset : OrchSt := ⟨[], [], 0, [], 0, [], [], none⟩

/-- A region whose pictures have not been compared. -/
def FreezeRun.reset : FreezeRun := ⟨none, 0, 0⟩

/-- A tile that shows nothing. -/
def TileRt.reset : TileRt := ⟨.none, none, false, FreezeRun.reset⟩

/-- Atlas that is off. -/
def AtlasSt.reset : AtlasSt := ⟨[], [], 1, none, 0, 0, List.replicate 16 TileRt.reset, FreezeRun.reset, []⟩

/-- The unit at power-on (R443, R448, R449): every object at its default, memory and logs empty, Meridian at 0, RESET_N
released with the straps read as 0, and the start sequence before its first stage. -/
def State.reset : State :=
  { pending := [], clk := ⟨0, nominalAddend, 0⟩, dict := [], bytes := [], mem := [], slotsZero := false
    commit := ⟨[], [], [], none, [], []⟩, ops := [], can := CanSt.reset, exfer := ⟨[], 1, 1, none⟩
    evt := ⟨[], [], [], 0, 0, 0, false⟩, power := PowerSt.reset, flash := FlashSt.reset, survey := ⟨0, []⟩, hostCheck := none
    flows := [], flowStats := [], ports := [], ana := [], chans := [], orch := OrchSt.reset
    egress := ⟨[], [], [], [], [], []⟩, audio := ⟨[], none, false⟩, atlas := AtlasSt.reset, movers := [], hole := none
    ptp := PtpSt.reset, vpll := PllRt.reset, apll := PllRt.reset, tio := [], links := []
    pair := PairSt.reset, casc := CascSt.reset, queues := [], out := [], free := 0 }

end Sys2Proof.Machine
end

