-- ==== Sys2Proof/Machine/Ops.lean ====
section
/-! DEFINITION. Ops.lean: the named operations that every meaning goes through: objects, counters, time, events, and
what is sent out. -/

namespace Sys2Proof.Machine

/-- An effect leaves the queue of commands as it is: only the step takes from it, and only a sender adds to it. -/
def State.effect (s : State) (f : State → State) : State := { f { s with out := [] } with pending := s.pending }

/-- The one form of a meaning: what is undefined under R431 stops; otherwise the command starts with nothing sent and
has its effect. -/
def State.act (s : State) (f : State → State) : Host.Outcome State Fault Refusal :=
  if s.power.vin = .undefinedBand then .fault .undefinedBehaviour else .next (s.effect f)

/-! ### Time (R10, R263) -/

/-- 2^-48 ns in a tick of 1/65,536 ns. -/
def subTick : Nat := 0x100000000

/-- The Meridian instant, in ticks. -/
def State.now (s : State) : Tick := s.clk.merid / subTick

/-- Durations in ticks. -/
def nsT (n : Nat) : Tick := 65536 * n
def usT (n : Nat) : Tick := nsT (1000 * n)
def msT (n : Nat) : Tick := nsT (1000000 * n)
def secT (n : Nat) : Tick := nsT (1000000000 * n)

/-- Whole nanoseconds and whole seconds of an instant, and its ns within the second. -/
def tickNs (t : Tick) : Nat := t / 65536
def tickSecs (t : Tick) : Nat := tickNs t / 1000000000
def tickNanos (t : Tick) : Nat := tickNs t % 1000000000

/-- Meridian nanoseconds [31:0] (R265). -/
def State.now32 (s : State) : Nat := tickNs s.now % 0x100000000

/-- `k` cycles of the 125 MHz counter pass (R263). -/
def State.cycles (s : State) (k : Nat) : State :=
  { s with clk := { s.clk with merid := s.clk.merid + k * s.clk.addend, cycles := s.clk.cycles + k } }

/-- Time passes, cycle by cycle, until Meridian has reached an instant; none passes when it has (log 5). -/
def State.until (s : State) (t : Tick) : State :=
  if subTick * t ≤ s.clk.merid ∨ s.clk.addend = 0 then s
  else s.cycles (cdiv (subTick * t - s.clk.merid) s.clk.addend)

/-- Time passes until the cycle count is `n`. -/
def State.untilCycle (s : State) (n : Nat) : State :=
  if n ≤ s.clk.cycles then s else s.cycles (n - s.clk.cycles)

/-! ### Objects -/

/-- The value in force of a numeric object. -/
def State.obj (s : State) (idx sub : Nat) : Int :=
  Tab.get (defaultOf (key idx sub)) s.dict (key idx sub)

/-- The same as a number; a negative value reads as 0. -/
def State.nat (s : State) (idx sub : Nat) : Nat := (s.obj idx sub).toNat

/-- Whether a flag object is 1 (not 0). -/
def State.flag (s : State) (idx sub : Nat) : Bool := s.obj idx sub != 0

/-- A numeric object takes a value. -/
def State.setObj (s : State) (idx sub : Nat) (v : Int) : State :=
  { s with dict := Tab.set (defaultOf (key idx sub)) s.dict (key idx sub) v }

/-- The largest value of an object's type. -/
def objTop (idx sub : Nat) : Int :=
  match rowOf idx sub with
  | some r => r.ty.top
  | none => 0

/-- A counter gains `n`, and saturates at the largest value of its type (R405). -/
def State.count (s : State) (idx sub : Nat) (n : Nat := 1) : State :=
  s.setObj idx sub (min (objTop idx sub) (s.obj idx sub + n))

/-- A running extreme moves up only (R416). -/
def State.raiseTo (s : State) (idx sub : Nat) (v : Int) : State :=
  if s.obj idx sub < v then s.setObj idx sub v else s

/-- A running extreme moves down only (R416). -/
def State.lowerTo (s : State) (idx sub : Nat) (v : Int) : State :=
  if v < s.obj idx sub then s.setObj idx sub v else s

/-- Channel c's Basic and Expert objects (R407). -/
def basic (c o : Nat) : Nat := 0x3000 + 0x40 * c + o
def expert (c o : Nat) : Nat := 0x5000 + 0x40 * c + o

/-- The value of channel c's Basic object at offset o. -/
def State.ch (s : State) (c o sub : Nat) : Nat := s.nat (basic c o) sub
/-- The value of channel c's Expert object at offset o. -/
def State.chX (s : State) (c o sub : Nat) : Nat := s.nat (expert c o) sub

/-! ### DOMAIN and OCTET_STRING contents -/

/-- Byte `off` of a black Atlas background: samples Cb 512, Y' 64, Cr 512, Y' 64, three to a little-endian word
(R228, R316). -/
def atlasBlack (off : Nat) : Byte :=
  let w : Nat := if (off / 4) % 2 = 0 then 512 + 64 * 0x400 + 512 * 0x100000 else 64 + 512 * 0x400 + 64 * 0x100000
  BitVec.ofNat 8 (w / 256 ^ (off % 4))


/-- The key of one byte of an object. -/
def byteKey (idx sub off : Nat) : Nat := 0x100000000 * key idx sub + off

/-- Byte `off` of a black Atlas pixel or of any other object before anything wrote it (R316, R404). -/
def plainDefault (idx off : Nat) : Byte :=
  if idx = 0x6205 then atlasBlack off else 0

/-- Byte `off` of a fully transparent Legend pixel of a format (R152): (0, 128, 128) or (0, 512, 512), alpha 0. -/
def transparentByte (fmt off : Nat) : Byte :=
  if fmt = 0 then (if off % 4 = 1 ∨ off % 4 = 2 then 0x80 else 0)
  else (if off % 8 = 3 ∨ off % 8 = 5 then 0x02 else 0)

/-- Whether an index is a Legend slot. -/
def isSlot (idx : Nat) : Bool := 0x6100 ≤ idx && idx < 0x6200

/-- Where a byte of an object is stored: a Legend slot's at the slot's region offset in the one Legend region, which is kept
under slot 0's index (R151, R154). -/
def State.cellKey (s : State) (idx sub off : Nat) : Nat :=
  if isSlot idx then byteKey 0x6100 1 (s.nat idx 5 + off) else byteKey idx sub off

/-- A stored byte of an OCTET_STRING or DOMAIN object. -/
def State.byteAt (s : State) (idx sub off : Nat) : Byte :=
  match Tab.find? s.bytes (s.cellKey idx sub off) with
  | some b => b
  | none => if isSlot idx then (if s.slotsZero then 0 else transparentByte (s.nat idx 4) off) else plainDefault idx off

/-- Bytes `off` to `off + len − 1` of an object. -/
def State.bytesAt (s : State) (idx sub off len : Nat) : List Byte :=
  (List.range len).map fun i => s.byteAt idx sub (off + i)

/-- One byte of an object is written. Where an unlisted byte has one fixed value, the canonical form is kept; a
Legend slot's unlisted bytes follow its format, so every written byte of a slot is listed. -/
def State.putByte (s : State) (idx sub off : Nat) (b : Byte) : State :=
  if isSlot idx then { s with bytes := Tab.put s.bytes (s.cellKey idx sub off) b }
  else { s with bytes := Tab.set (plainDefault idx off) s.bytes (s.cellKey idx sub off) b }

/-- A run of bytes of an object is written. -/
def State.putBytes (s : State) (idx sub : Nat) : Nat → List Byte → State
  | _, [] => s
  | off, b :: bs => State.putBytes (s.putByte idx sub off b) idx sub (off + 1) bs

/-! ### The system address space (R345) -/

/-- Whether an address lies in a listed range of Table 17-1. -/
def mapped (a : Nat) : Bool :=
  decide (a < 0x400000000) || (decide (0x1000000000 ≤ a) && decide (a < 0x100C000000))

/-- The byte at a system address; a byte that nothing has written reads 0 (log 13). -/
def State.memAt (s : State) (a : Nat) : Byte := Tab.get 0 s.mem a

/-- A byte is written at a system address. -/
def State.memPut (s : State) (a : Nat) (b : Byte) : State := { s with mem := Tab.set 0 s.mem a b }

/-- A run of bytes is written from a system address on. -/
def State.memPuts (s : State) : Nat → List Byte → State
  | _, [] => s
  | a, b :: bs => State.memPuts (s.memPut a b) (a + 1) bs

/-- A run of bytes is read from a system address on. -/
def State.memGets (s : State) (a len : Nat) : List Byte :=
  (List.range len).map fun i => s.memAt (a + i)

/-! ### What leaves the module, and free values -/

/-- Something is sent. -/
def State.say (s : State) (o : Out) : State := { s with out := s.out ++ [o] }

/-- Length on the wire of an Ethernet frame with this much payload: header, tag, FCS and the shortest frame, then preamble and
gap (Table 1-3). -/
def wireBytes (payload : Nat) (tagged : Bool) : Nat := max 64 (payload + 18 + 4 * b2n tagged) + 20

/-- A frame joins a queue of a port (R250), with this many bytes on the wire. -/
def State.enqueue (s : State) (port queue wire : Nat) (o : Out) : State :=
  { s with queues := s.queues ++ [⟨port, queue, s.now, wire, o⟩] }

/-- An Exfer, ARP or IGMP frame joins its port's management queue (R250). -/
def State.manage (s : State) (port payload : Nat) (o : Out) : State :=
  s.enqueue port (s.nat (0x4410 + port) 1) (wireBytes payload (s.nat 0x2104 (port + 1) != 0)) o

/-- A free value: nothing constrains it (log 3). -/
def State.draw (s : State) : Nat := Config.freeNat s.free

/-- The next free value is a new one. -/
def State.drawn (s : State) : State := { s with free := s.free + 1 }

/-! ### Events reach the writer (R421, R422) -/

/-- The writer's queue holds this many events (R422). -/
def evtQueueSize : Nat := 4096

/-- An event is delivered to the writer's queue, or held by its producer while the queue is full. -/
def State.raise (s : State) (e : Event) : State :=
  if s.evt.stalled.isEmpty && decide (s.evt.queue.length < evtQueueSize) then
    { s with evt := { s.evt with queue := s.evt.queue ++ [e] } }
  else { s with evt := { s.evt with stalled := s.evt.stalled ++ [e] } }

/-- An event that concerns no channel. -/
def State.raiseUnit (s : State) (code : Nat) (p0 p1 p2 : Nat := 0) : State :=
  s.raise ⟨code, 0xFF, 0, p0, p1, p2⟩

/-- A parameter that holds a signed value: its two's complement in 32 bits. -/
def param (v : Int) : Nat := wrapInt 4 v

/-! ### Records at the collector (R340, R368) -/

/-- Orchard changes. -/
def State.onOrch (s : State) (f : OrchSt → OrchSt) : State := { s with orch := f s.orch }

/-- The fabric cycle of now, at 833.333 MHz: 20 cycles for 3 of the 125 MHz counter. -/
def State.fabric (s : State) : Nat := s.clk.cycles * 20 / 3

/-- A producer's slots. -/
def Producer.empty : Producer := ⟨[], []⟩

/-- A producer writes a record into a free slot, or stalls with it (R340). -/
def State.writeRecord (s : State) (p : Nat) (task : Option Nat) (decs : List Nat) : State :=
  let r : CollRec := ⟨s.fabric, task, decs⟩
  let q := Tab.get Producer.empty s.orch.prods p
  if q.stalled.isEmpty ∧ q.slots.length < 2 then
    s.onOrch fun o => { o with prods := Tab.put o.prods p { q with slots := q.slots ++ [r] } }
  else
    (s.onOrch fun o => { o with prods := Tab.put o.prods p { q with stalled := q.stalled ++ [r] } }).count 0x4B00 5

/-- A check-value mismatch (R368): its kind's counter and its event. -/
def State.mismatch (s : State) (kind chan slot expected found : Nat) : State :=
  (s.count 0x2D00 (kind + 2)).raise ⟨0x0706, chan, slot % 0x100000000, kind, expected, found⟩

/-- A check value that was found is compared with the one expected: the outcome goes to Orchard as a record of producer 27 (R368). -/
def State.checkValue (s : State) (kind chan slot expected found : Nat) : State :=
  let s := s.writeRecord 27 none []
  if expected = found then s else s.mismatch kind chan slot expected found

end Sys2Proof.Machine
end

