-- ==== Sys2Proof/Machine/Time.lean ====
section
/-! DEFINITION. Time.lean: frame periods as exact rationals, slot instants, and the one truncation of R10. -/

namespace Sys2Proof.Machine

/-- Ticks of 1/65,536 ns in a second. -/
def perSec : Nat := 65536000000000

/-- Tf of a frame rate code of Table 2-1, in seconds, as numerator and denominator (R32). -/
def tfNum : Nat → Nat
  | 0 => 1001 | 3 => 1001 | 5 => 1001 | 8 => 1001 | 11 => 1001 | _ => 1

/-- The denominator of Tf. -/
def tfDen : Nat → Nat
  | 0 => 24000 | 1 => 24 | 2 => 25 | 3 => 30000 | 4 => 30 | 5 => 48000 | 6 => 48 | 7 => 50 | 8 => 60000
  | 9 => 60 | 10 => 100 | 11 => 120000 | 12 => 120 | _ => 60

/-- Whether a code stands in Table 2-1. -/
def rateOk (code : Nat) : Bool := decide (code ≤ 12)

/-- The instant T0(N) + (a / b)·Tf + `ns` ns of a grid, exact, truncated once to 1/65,536 ns (R9, R10). -/
def instant (code N : Nat) (a : Int) (b : Nat) (ns : Int) : Int :=
  (perSec * (((N : Int) * b + a) * tfNum code) + 65536 * (ns * tfDen code * b)) / ((tfDen code : Int) * b)

/-- The same as an instant of Meridian. -/
def instantT (code N : Nat) (a : Int) (b : Nat) (ns : Int) : Nat := (instant code N a b ns).toNat

/-- T0(N), truncated to Meridian resolution. -/
def t0 (code N : Nat) : Nat := instantT code N 0 1 0

/-- The first slot whose exact instant lies at or after `t`. -/
def slotFrom (code t : Nat) : Nat := cdiv (t * tfDen code) (perSec * tfNum code)

/-- The last slot whose exact instant lies at or before `t`. -/
def slotAt (code t : Nat) : Nat := (t * tfDen code) / (perSec * tfNum code)

/-- ⌊Tf⌋ in ns, and a multiple of it. -/
def tfNs (code k : Nat) : Nat := 1000000000 * (k * tfNum code) / tfDen code

/-- The slot that a media-clock count `m` at `rate` Hz maps to: T0(n) − Tf + 50 µs < m / rate ≤ T0(n) + 50 µs
(R219). -/
def slotOfMedia (code rate : Nat) (m : Nat) : Nat :=
  (-((-((1000000 * (m : Int) - 50 * rate) * tfDen code)) / (1000000 * ((rate : Int) * tfNum code)))).toNat

/-- The media-clock count congruent to `ts` modulo 2³² that lies nearest to an instant (R219). -/
def mediaCount (rate ts : Nat) (t : Nat) : Nat :=
  let base := (t * rate) / perSec
  ((base : Int) + serialDiff 32 ts base).toNat

/-- T0(N) on a clock of `hz`, exact and truncated once (R10). -/
def gridCount (code hz N : Nat) : Nat := N * tfNum code * hz / tfDen code

end Sys2Proof.Machine
end

