-- ==== Sys2Proof/Machine/Ingress.lean ====
section
/-! DEFINITION. Ingress.lean: the network engine's receive side: the Flow Table, matching, policing, the two-path merge,
frame synchronisation and the close rule (R208-R230). -/

namespace Sys2Proof.Machine

/-! ### The Flow Table (R211) -/

/-- The record that 64 bytes spell (Table 10-2). -/
def FlowRec.parse (r : List Byte) : FlowRec :=
  let b0 := field r 0 1
  let w := field r 32 2
  let h := field r 34 2
  { on := bit b0 0 && !(bits b0 2 1 == 0 && (w == 0 || h == 0))
    kind := bits b0 2 1, hasB := bit b0 3, pt := field r 1 1
    vlanA := field r 2 2 % 4096, dstA := field r 4 4, srcA := field r 8 4, portA := field r 12 2
    vlanB := field r 14 2 % 4096, dstB := field r 16 4, srcB := field r 20 4, portB := field r 24 2
    ethA := bits (field r 26 1) 3 0, ethB := bits (field r 26 1) 7 4, lrep := field r 27 1
    ssrc := field r 28 4, width := w, height := h, rate := field r 36 1, fmt := field r 37 1
    ac := field r 38 2, polRate := field r 40 4, polDepth := field r 44 4 }

/-- Entry f in force. -/
def State.flowRec (s : State) (f : Nat) : FlowRec := FlowRec.parse (s.bytesAt 0x6200 1 (64 * f) 64)

/-- Enabled entries, in ascending order (R211): a byte of the table that nothing has written is 0, so byte 0 of each is listed. -/
def State.flowsOn (s : State) : List Nat :=
  ((s.bytes.filter fun p => decide (byteKey 0x6200 1 0 ≤ p.1 ∧ p.1 < byteKey 0x6200 1 0x40000) &&
    (p.1 - byteKey 0x6200 1 0) % 64 == 0 && p.2.toNat.testBit 0).map fun p => (p.1 - byteKey 0x6200 1 0) / 64).filter
      fun f => (s.flowRec f).on

/-- Whether an entry is an enabled video flow (R214). -/
def State.isVideo (s : State) (f : Nat) : Bool := (s.flowRec f).on && (s.flowRec f).kind == 0

/-- The media clock of a flow (R219). -/
def FlowRec.clock (r : FlowRec) : Nat := if r.kind = 1 then (if r.rate = 1 then 96000 else 48000) else 90000

/-- Samples per line in pgroup order Cb, Y', Cr, Y' (R228). -/
def FlowRec.perLine (r : FlowRec) : Nat := 2 * r.width

/-- Deadline Tc(n, l) (R223). -/
def FlowRec.deadline (r : FlowRec) (n l : Nat) : Tick := instantT r.rate n (l + 1) r.height (1000 * r.ac)

/-- An empty flow. -/
def FlowRt.empty : FlowRt := ⟨none, none, none, none, false, [], 0, [], 0, none, [], [], [], none, [], [], 0⟩

/-- A flow's runtime state. -/
def State.flow (s : State) (f : Nat) : FlowRt := Tab.get FlowRt.empty s.flows f

/-- A flow's runtime state takes a value. -/
def State.setFlow (s : State) (f : Nat) (r : FlowRt) : State := { s with flows := Tab.put s.flows f r }

/-- A status record before anything happened. -/
def FlowStat.zero : FlowStat := ⟨0, 0, 0, 0, 0, 0, 0, 0, 0, 0, 0, none, 0⟩

/-- A flow's counters. -/
def State.flowStat (s : State) (f : Nat) : FlowStat := Tab.get FlowStat.zero s.flowStats f

/-- A flow's counters change. -/
def State.statFlow (s : State) (f : Nat) (u : FlowStat → FlowStat) : State :=
  { s with flowStats := Tab.put s.flowStats f (u (s.flowStat f)) }

/-- Counters of a status record saturate at 2³² − 1 (R229). -/
def sat32 (n : Nat) : Nat := min n 0xFFFFFFFF

/-- A status record's state, byte 52 of Table 10-4 (R229). -/
def State.flowState (s : State) (f : Nat) : Nat :=
  let r := s.flow f
  if !(s.flowRec f).on then 0
  else if !r.heard then 1
  else if r.lastA.isSome && r.lastB.isSome then 2
  else if r.lastA.isSome then 3
  else if r.lastB.isSome then 4
  else 5

/-- The status record of entry f (Table 10-4). -/
def State.flowStatus (s : State) (f : Nat) : List Byte :=
  let t := s.flowStat f
  ([t.rxA, t.rxB, t.dup, t.lost, t.polA, t.polB, t.late, t.concealed, t.repeated, t.dropped, t.absent].flatMap
    (beBytes 4)) ++ beBytes 4 (wrapInt 4 (t.worst.getD 0)) ++ beBytes 4 t.malformed ++
    [BitVec.ofNat 8 (s.flowState f)] ++ zeros 11

/-- A change of state raises one event (R229, R420). -/
def State.flowStateEvent (s : State) (f before : Nat) : State :=
  if s.flowState f = before then s else s.raiseUnit 0x0405 f (s.flowState f)

/-- The record of an entry by its changes (R213, R488): the fields that the first change replaces for which `before` holds;
else those of the last change, while it is still to come into force. -/
def State.recBy (s : State) (f : Nat) (before : OldAddress → Bool) : FlowRec :=
  match (s.flow f).old.find? before with
  | some o => o.fields
  | none => match (s.flow f).old.getLast? with
    | some o => if s.now < o.target then o.new else s.flowRec f
    | none => s.flowRec f

/-- The record of entry f that slot n is handled by: of a change of the entry, the old fields for slots before N_t, its own
after. -/
def State.recAt (s : State) (f n : Nat) : FlowRec := s.recBy f fun o => decide (n < o.until_)

/-- Entries that may still take packets: those enabled, and those that were for slots still open. -/
def State.flowsLive (s : State) : List Nat :=
  (s.flowsOn ++ (s.flows.filter fun p => p.2.old.any fun o => o.fields.on || o.new.on).map (·.1)).eraseDups

/-! ### Samples -/

/-- The samples that runs give for places `pos` on, up to `n` of them: the first run received wins. -/
def lineSample (runs : List (Nat × List Nat)) (pos : Nat) : Option Nat :=
  (runs.find? fun r => decide (r.1 ≤ pos ∧ pos < r.1 + r.2.length)).bind fun r => r.2[pos - r.1]?

/-- All samples of a line whose runs cover it. -/
def lineWhole (runs : List (Nat × List Nat)) (n : Nat) : Option (List Nat) :=
  (List.range n).mapM (lineSample runs)

/-- A black line (R224): Cb 512, Y' 64, Cr 512, Y' 64. -/
def blackLine (n : Nat) : List Nat := (List.range n).map fun i => if i % 2 = 0 then 512 else 64

/-- A frame slot nothing has reached. -/
def FrameRt.empty : FrameRt := ⟨.undecided, none, [], []⟩

/-- A slot's frame. -/
def FlowRt.frame (r : FlowRt) (n : Nat) : FrameRt := Tab.get FrameRt.empty r.frames n

/-- A slot's frame takes a value. -/
def FlowRt.setFrame (r : FlowRt) (n : Nat) (x : FrameRt) : FlowRt := { r with frames := Tab.put r.frames n x }

/-- A line of a frame. -/
def FrameRt.line (x : FrameRt) (l : Nat) : LineRt := Tab.get (.collecting []) x.lines l

/-- The samples of line l of the frame assembled for slot n, once closed (R224). -/
def FlowRt.lineData (r : FlowRt) (n l perLine : Nat) : List Nat :=
  match (r.frame n).line l with
  | .closed _ d => d
  | .collecting _ => blackLine perLine

/-- The slot whose assembly slot n shows (R221). -/
def FlowRt.shown (r : FlowRt) (n : Nat) : Option Nat :=
  match (r.frame n).gift with
  | .present => some n
  | .repeated m => some m
  | .absent => none
  | .undecided => none

/-- Whether every line of the frame that slot n shows has closed. -/
def FlowRt.whole (r : FlowRt) (n height : Nat) : Bool :=
  match (r.frame n).gift with
  | .present => (List.range height).all fun l =>
      match (r.frame n).line l with | .closed _ _ => true | .collecting _ => false
  | .repeated _ => true
  | .absent => true
  | .undecided => false

/-! ### Presence and closing (R221-R224) -/

/-- Slot n has a present frame (R222). -/
def State.present (s : State) (f n : Nat) : State :=
  let r := s.flow f
  s.setFlow f { r.setFrame n { r.frame n with gift := .present } with run := 0, lastFrame := some (n, n) }

/-- Slot n has no frame of its own (R221): a repeat below the limit, otherwise absent. -/
def State.unmapped (s : State) (f n : Nat) : State :=
  let r := s.flow f
  match r.lastFrame with
  | some (_, m) =>
    if r.run < (s.recAt f n).lrep then
      (s.setFlow f { r.setFrame n { FrameRt.empty with gift := .repeated m } with
        run := r.run + 1, lastFrame := some (n, m) }).statFlow f
        fun t => { t with repeated := sat32 (t.repeated + 1) }
    else
      (s.setFlow f { r.setFrame n { FrameRt.empty with gift := .absent } with run := r.run + 1 }).statFlow f
        fun t => { t with absent := sat32 (t.absent + 1) }
  | none =>
    (s.setFlow f { r.setFrame n { FrameRt.empty with gift := .absent } with run := r.run + 1 }).statFlow f
      fun t => { t with absent := sat32 (t.absent + 1) }

/-- Gaps below the highest number whose data has closed are lost packets, one per missing number (R217). -/
def State.countLost (s : State) (f slot line : Nat) : State :=
  let r := s.flow f
  let closed := r.held.filter fun h => decide (h.slot < slot ∨ (h.slot = slot ∧ h.line ≤ line))
  let top := closed.foldl (fun m h => max m h.seq) r.counted
  let have_ := (r.held.filter fun h => decide (r.counted < h.seq ∧ h.seq ≤ top)).length
  let first := r.counted = 0
  let low := closed.foldl (fun m h => min m h.seq) top
  let gap := if first then (top + 1 - low) - ((r.held.filter fun h => decide (low ≤ h.seq ∧ h.seq ≤ top)).length)
    else (top - r.counted) - have_
  (s.setFlow f { r with counted := top }).statFlow f fun t => { t with lost := sat32 (t.lost + gap) }

/-- Line l of slot n closes with its samples (R223, R224). -/
def State.closeLine (s : State) (f n l : Nat) (present : Bool) (data : List Nat) : State :=
  let r := s.flow f
  let x := r.frame n
  (s.setFlow f (r.setFrame n { x with lines := Tab.put x.lines l (.closed present data) })).countLost f n l

/-- What conceals line l of slot n (R224): nothing that the entry held before it was last enabled. -/
def State.concealment (s : State) (f n l : Nat) : List Nat :=
  let r := s.flow f
  let rec' := s.recAt f n
  let earlier := r.frames.filterMap fun p =>
    if p.1 < n ∧ decide (r.since ≤ p.1) = decide (r.since ≤ n) then (r.shown p.1).map fun m => (p.1, m) else none
  match earlier.getLast? with
  | some (_, m) => r.lineData m l rec'.perLine
  | none => blackLine rec'.perLine

/-- A line that its packets have completed closes present, and its lateness is recorded (R223, R226). -/
def State.completeLine (s : State) (f n l : Nat) (t : Tick) : State :=
  let rec' := s.recAt f n
  match (s.flow f).frame n |>.line l with
  | .closed _ _ => s
  | .collecting runs =>
    match lineWhole runs rec'.perLine with
    | none => s
    | some d =>
      let late := ((t : Int) - ((rec'.deadline n l : Int) - (nsT (1000 * rec'.ac) : Nat))) / 65536
      let s := s.closeLine f n l true d
      s.statFlow f fun q => { q with worst := some (match q.worst with | some w => max w late | none => late) }

/-- Whether an address is a multicast group. -/
def isGroup (ip : Nat) : Bool := decide (0xE0000000 ≤ ip) && decide (ip < 0xF0000000)

/-- The groups that a record's paths lie in: port, group, source; a unicast address needs none (R210). -/
def FlowRec.groups (r : FlowRec) : List (Nat × Nat × Nat) :=
  (if isGroup r.dstA then [(r.ethA, r.dstA, r.srcA)] else []) ++
    (if r.hasB && isGroup r.dstB then [(r.ethB, r.dstB, r.srcB)] else [])

/-- Column and row boundaries of the Graticule, 0 first (R186). -/
def State.gratX (s : State) : List Nat := 0 :: (List.range (s.nat 0x2310 1)).map fun i => s.nat 0x2310 (4 + i)
def State.gratY (s : State) : List Nat := 0 :: (List.range (s.nat 0x2310 2)).map fun i => s.nat 0x2310 (0xC + i)

/-- Ns = C · R regions. -/
def State.gratRegions (s : State) : Nat := s.nat 0x2310 1 * s.nat 0x2310 2

/-- A Graticule region (R186, R187): its rectangle in the canvas, its source flow, and where in the flow's frame its
top-left sample stands. -/
structure RegionGeom where
  x    : Nat
  y    : Nat
  w    : Nat
  h    : Nat
  flow : Nat
  ox   : Nat
  oy   : Nat
  deriving DecidableEq, Repr

/-- Region i. -/
def State.regionAt (s : State) (i : Nat) : RegionGeom :=
  let cs := max 1 (s.nat 0x2310 1)
  let xs := s.gratX
  let ys := s.gratY
  let o := s.nat 0x2313 (i + 1)
  ⟨xs.getD (i % cs) 0, ys.getD (i / cs) 0, xs.getD (i % cs + 1) 0 - xs.getD (i % cs) 0,
   ys.getD (i / cs + 1) 0 - ys.getD (i / cs) 0, s.nat 0x2312 (i + 1), bits o 31 16, bits o 15 0⟩

/-- The regions that this position owns. -/
def State.ownRegions (s : State) : List Nat :=
  (List.range s.gratRegions).filter fun i => s.nat 0x2311 (i + 1) == s.nat 0x2300 3

/-- An Inset of the canvas shows flow f in one of this unit's regions (R187). -/
def State.insetHere (s : State) (f : Nat) : Bool :=
  (List.range 4).any fun i =>
    let at_ (k : Nat) : Nat := s.nat (basic (s.nat 0x2300 0xA) 8) (0x10 * i + k)
    at_ 1 == 1 && at_ 2 == f && s.ownRegions.any fun j =>
      let q := s.regionAt j
      decide (at_ 7 < q.x + q.w ∧ q.x < at_ 7 + at_ 9 ∧ at_ 8 < q.y + q.h ∧ q.y < at_ 8 + at_ 0xA)

/-- Region flows of other members are held but not received in canvas mode, unless an Inset shows one in this unit's rectangle
(R187, R210). -/
def State.received (s : State) (f : Nat) : Bool :=
  if s.nat 0x2300 1 = 1 then
    let named := (List.range s.gratRegions).filter fun i => s.nat 0x2312 (i + 1) == f
    named.isEmpty || named.any s.ownRegions.contains || s.insetHere f
  else true

/-- The groups that the unit needs (R210, R213): of the enabled entries, of the fields that a change replaces until their last
slot has closed, and of those that a change of an enabled entry brings, from its acceptance on. -/
def State.groupsNeeded (s : State) : List (Nat × Nat × Nat) :=
  let now := (s.flowsOn.filter s.received).flatMap fun f => if (s.flowRec f).on then (s.flowRec f).groups else []
  let moving := (s.flows.filter fun p => s.received p.1).flatMap fun p => p.2.old.flatMap fun o =>
    (if o.fields.on && !o.left then o.fields.groups else []) ++
      (if o.fields.on && o.new.on && decide (s.now < o.target) then o.new.groups else [])
  (now ++ moving).eraseDups

/-- An Ethernet port of which nothing is known. -/
def PortRt.empty : PortRt := ⟨false, [], none, []⟩

/-- The groups that the unit has joined. -/
def State.groupsJoined (s : State) : List (Nat × Nat × Nat) := s.ports.flatMap fun p => p.2.groups.map fun g => (p.1, g)

/-- A group is joined or left on a port, with an IGMPv3 report (R210). -/
def State.igmp (s : State) (g : Nat × Nat × Nat) (join : Bool) : State :=
  let p := Tab.get PortRt.empty s.ports g.1
  let rest := p.groups.filter fun x => x != g.2
  let s := { s with ports := Tab.put s.ports g.1 { p with groups := if join then rest ++ [g.2] else rest } }
  s.manage g.1 44 (.igmp g.1 g.2.1 g.2.2 join)

/-- Groups newly needed are joined, and those that nothing needs any more are left. -/
def State.settleGroups (s : State) : State :=
  let need := s.groupsNeeded
  let have_ := s.groupsJoined
  let s := (need.filter fun g => !have_.contains g).foldl (fun s g => s.igmp g true) s
  (have_.filter fun g => !need.contains g).foldl (fun s g => s.igmp g false) s

/-- The old groups of a changed entry are left after the last close of slot N_t − 1 (R213). -/
def State.leaveOld (s : State) (f n : Nat) : State :=
  let r := s.flow f
  let gone (o : OldAddress) : Bool := decide (o.until_ ≤ n + 1) && !o.left
  if r.old.any gone then
    (s.setFlow f { r with old := r.old.map fun o => { o with left := o.left || gone o } }).settleGroups
  else s

/-- The effect of LINE_CLOSE: the deadline of line l of slot n passes. Line 0 decides the frame's presence; a line of
a present frame still incomplete is concealed whole. -/
def State.lineClose (s : State) (f n l : Nat) : State :=
  let rec' := s.recAt f n
  if !(rec'.on && rec'.kind == 0 && decide (l < rec'.height)) then s
  else
    let s := s.until (rec'.deadline n l)
    let r := s.flow f
    let x := r.frame n
    let s :=
      match x.gift with
      | .undecided => if l ≠ 0 then s else if x.stamp.isSome then s.present f n else s.unmapped f n
      | _ => s
    let s :=
      match ((s.flow f).frame n).gift with
      | .present =>
        match ((s.flow f).frame n).line l with
        | .closed _ _ => s
        | .collecting _ =>
          (s.closeLine f n l false (s.concealment f n l)).statFlow f
            fun t => { t with concealed := sat32 (t.concealed + 1) }
      | _ => s
    if l + 1 = rec'.height ∨ (x.gift = .present ∧ (s.flow f).whole n rec'.height) then s.leaveOld f n else s

/-! ### Packets -/

/-- Whether entry fields match a packet on path A or path B (R212). -/
def FlowRec.matchesA (r : FlowRec) (p : RxPacket) : Bool :=
  r.on && r.ethA == p.port && r.vlanA == p.vlan && r.dstA == p.dst && r.portA == p.udpDst &&
    (r.srcA == 0 || r.srcA == p.src) && (r.pt == 0x80 || r.pt == p.pt) && (r.ssrc == 0 || r.ssrc == p.ssrc)

/-- The same for path B. -/
def FlowRec.matchesB (r : FlowRec) (p : RxPacket) : Bool :=
  r.on && r.hasB && r.ethB == p.port && r.vlanB == p.vlan && r.dstB == p.dst && r.portB == p.udpDst &&
    (r.srcB == 0 || r.srcB == p.src) && (r.pt == 0x80 || r.pt == p.pt) && (r.ssrc == 0 || r.ssrc == p.ssrc)

/-- The slot of a packet's frame (R219); for audio, the index of its first sample. -/
def FlowRec.slotOf (r : FlowRec) (ts : Nat) (t : Tick) : Nat :=
  let m := mediaCount r.clock ts t
  if r.kind = 1 then m else slotOfMedia r.rate r.clock m

/-- The fields that an entry matches a packet by: the old ones for a slot before N_t (R213). -/
def State.matchFields (s : State) (f : Nat) (ts : Nat) (t : Tick) : FlowRec :=
  s.recBy f fun o => decide (o.fields.slotOf ts t < o.until_)

/-- Which path of entry f a packet matches, if any: true for path B. -/
def State.matchPath (s : State) (p : RxPacket) (t : Tick) (f : Nat) : Option Bool :=
  let r := s.matchFields f p.ts t
  if r.matchesA p then some false else if r.matchesB p then some true else none

/-- The entry and path that a packet matches. -/
def State.matchFlow (s : State) (p : RxPacket) (t : Tick) : Option (Nat × Bool) :=
  s.flowsLive.findSome? fun f => (s.matchPath p t f).map fun b => (f, b)

/-- Units of a token bucket's level per byte: a tick fills it by the rate in kbit/s (R218). -/
def bucketUnit : Nat := 524288000000

/-- A packet passes the policer, or not; the bucket after it (R218). -/
def police (r : FlowRec) (b : Option Bucket) (len : Nat) (t : Tick) : Bool × Option Bucket :=
  if r.polRate = 0 ∨ r.polDepth = 0 then (true, none)
  else
    let full := bucketUnit * r.polDepth
    let level := match b with
      | none => full
      | some b => min full (b.level + (t - b.at_) * r.polRate)
    if bucketUnit * len ≤ level then (true, some ⟨level - bucketUnit * len, t⟩) else (false, some ⟨level, t⟩)

/-- A PCS ingress instant at the reference plane of a port (R272): the instants that R223 compares with a close. -/
def State.ingressAt (s : State) (port : Nat) (pcs : Int) : Int :=
  pcs - (Config.internalLatency true port + s.obj (0x4710 + port) 1)

/-- Bits of an entry's sequence numbers: 32 with the extension of ST 2110-20, else 16 (R215). -/
def FlowRec.seqBits (r : FlowRec) : Nat := if r.kind = 0 then 32 else 16

/-- A received number extended against the newest one held (R217). -/
def FlowRt.extend (r : FlowRt) (width seq : Nat) : Nat :=
  match r.held.getLast? with
  | none => 0x100000000 + seq
  | some h => ((h.seq : Int) + serialDiff width seq h.seq).toNat

/-- Numbers held stay in ascending order. -/
def insertSeq (h : HeldSeq) : List HeldSeq → List HeldSeq
  | [] => [h]
  | x :: xs => if h.seq < x.seq then h :: x :: xs else x :: insertSeq h xs

/-- Malformed video packets (R216). -/
def badVideo (r : FlowRec) (rows : List SampleRow) : Bool :=
  rows.isEmpty || decide (3 < rows.length) ||
  rows.any (fun x => decide (r.height ≤ x.row) || decide (r.width < x.off + x.len) || !x.whole) ||
  (rows.getLast?.map (·.cont)).getD true || rows.dropLast.any (fun x => !x.cont)

/-- One row of a video packet is stored, unless its line has closed or its deadline has passed (R223). -/
def State.storeRow (s : State) (f n : Nat) (t : Tick) (first : Bool) (row : SampleRow) : State :=
  let r := s.flow f
  let x := r.frame n
  match x.line row.row with
  | .closed _ _ => s
  | .collecting runs =>
    if (s.recAt f n).deadline n row.row < t then s
    else
      let data := if (s.recAt f n).fmt % 2 = 0 then row.data.map (· * 4) else row.data
      let run := (2 * row.off, data.take (2 * row.len))
      let runs := if first then run :: runs else runs ++ [run]
      (s.setFlow f (r.setFrame n { x with lines := Tab.put x.lines row.row (.collecting runs) })).completeLine
        f n row.row t

/-- Whether a row of a packet can still be stored. -/
def State.rowOpen (s : State) (f n : Nat) (t : Tick) (row : SampleRow) : Bool :=
  match ((s.flow f).frame n).line row.row with
  | .closed _ _ => false
  | .collecting _ => decide (t ≤ (s.recAt f n).deadline n row.row)

/-- A late packet is discarded and counted (R222, R223). -/
def State.latePacket (s : State) (f : Nat) : State :=
  s.statFlow f fun q => { q with late := sat32 (q.late + 1) }

/-- A video packet past the merge, held as `h`: frame assignment, presence and lines (R220-R223). -/
def State.rxVideo (s : State) (f n m : Nat) (h : HeldSeq) (t : Tick) (rows : List SampleRow) : State :=
  let r := s.flow f
  let x := r.frame n
  let hold (s : State) (line : Nat) : State :=
    let r := s.flow f
    s.setFlow f { r with held := insertSeq { h with line := line } r.held }
  let line := (rows.head?.map (·.row)).getD 0
  match x.gift with
  | .absent => s.latePacket f
  | .repeated _ => s.latePacket f
  | _ =>
    let keep (s : State) : State :=
      if rows.any (s.rowOpen f n t) then
        let s := hold s line
        let s := rows.foldl (fun s row => s.storeRow f n t false row) s
        let s := match ((s.flow f).frame n).gift, ((s.flow f).frame n).line 0 with
          | .undecided, .closed _ _ => s.present f n
          | _, _ => s
        if (s.flow f).whole n (s.recAt f n).height then s.leaveOld f n else s
      else s.latePacket f
    let fresh (s : State) : State :=
      s.setFlow f ((s.flow f).setFrame n { (s.flow f).frame n with stamp := some m })
    match x.stamp with
    | none =>
      if x.gift = .undecided ∧ (s.recAt f n).deadline n 0 < t then s.latePacket f else keep (fresh s)
    | some m' =>
      if m = m' then keep s
      else if m' < m then
        let s := hold s line
        if x.dropped.contains m then s
        else
          let s := s.setFlow f ((s.flow f).setFrame n { x with dropped := m :: x.dropped })
          s.statFlow f fun q => { q with dropped := sat32 (q.dropped + 1) }
      else if x.lines.all (fun p => match p.2 with | .closed _ _ => false | .collecting _ => true) then
        let s := s.setFlow f ((s.flow f).setFrame n { x with stamp := some m, dropped := m' :: x.dropped, lines := [] })
        let s := s.statFlow f fun q => { q with dropped := sat32 (q.dropped + 1) }
        keep s
      else s.latePacket f

/-- The instant at which an audio sample closes: its sampling instant plus Ac (R225). -/
def FlowRec.audioClose (r : FlowRec) (index : Nat) : Tick :=
  (perSec * index) / r.clock + nsT (1000 * r.ac)

/-- An audio packet past the merge (R225), held as `h`; `rec'` is its entry. -/
def State.rxAudio (s : State) (rec' : FlowRec) (f m : Nat) (h : HeldSeq) (t : Tick) (frames : List (List Nat)) : State :=
  let r := s.flow f
  let openAt (i : Nat) : Bool :=
    decide (t ≤ rec'.audioClose i) && (match r.audioNext with | some k => decide (k ≤ i) | none => true)
  let idx := (List.range frames.length).filter fun k => openAt (m + k)
  if idx.isEmpty then s.latePacket f
  else
    let r := { r with
      held := insertSeq h r.held
      audio := idx.foldl (fun a k => if (Tab.find? a (m + k)).isSome then a
        else Tab.put a (m + k) (frames.getD k [])) r.audio }
    s.setFlow f r

/-- An ancillary packet past the merge (R220, R225): of two frames that map to one slot the later is dropped; a field other than
progressive is counted and discarded (R215). -/
def State.rxAnc (s : State) (rec' : FlowRec) (f n m : Nat) (h : HeldSeq) (t : Tick) (fOk : Bool) (pkts : List AncPacket) :
    State :=
  let r := s.flow f
  let x := r.frame n
  if !fOk then s.statFlow f fun q => { q with malformed := sat32 (q.malformed + 1) }
  else if r.ancClosed.contains n || decide (instantT rec'.rate n 1 1 (1000 * rec'.ac) < t) then s.latePacket f
  else
    let held := insertSeq h r.held
    let drop (y : FrameRt) (gone : Nat) (anc : Tab (List (Nat × List AncPacket))) : State :=
      let new := !x.dropped.contains gone
      let s := s.setFlow f { r.setFrame n { y with dropped := if new then gone :: x.dropped else x.dropped } with
        held := held, anc := anc }
      if new then s.statFlow f fun q => { q with dropped := sat32 (q.dropped + 1) } else s
    let m' := x.stamp.getD m
    if m' < m then drop x m r.anc
    else if m < m' then drop { x with stamp := some m } m' (Tab.put r.anc n [(h.seq, pkts)])
    else
      s.setFlow f { r.setFrame n { x with stamp := some m } with
        held := held, anc := Tab.put r.anc n (Tab.get [] r.anc n ++ [(h.seq, pkts)]) }

/-- Of two copies with one timestamp the one of path A is kept (R217): what its data may still replace, it replaces. -/
def State.preferA (s : State) (f m n seq : Nat) (t : Tick) (body : RxBody) : State :=
  let r := s.flow f
  match body with
  | .video rows => rows.foldl (fun s row => s.storeRow f n t true row) s
  | .audio frames =>
    let open_ (i : Nat) : Bool := match r.audioNext with | some k => decide (k ≤ i) | none => true
    s.setFlow f { r with audio := (List.range frames.length).foldl (fun a k =>
      if open_ (m + k) then Tab.put a (m + k) (frames.getD k []) else a) r.audio }
  | .anc _ pkts =>
    if r.ancClosed.contains n then s
    else s.setFlow f { r with anc := Tab.put r.anc n ((Tab.get [] r.anc n).map fun x => if x.1 = seq then (seq, pkts) else x) }

/-- A flow's table word is on its way back from the working image (R356): packets that it matches are discarded. -/
def State.flowHoled (s : State) (f : Nat) : Bool :=
  match s.hole with
  | some h => h.flow && h.entry % 4096 == f && decide (s.now < h.until_)
  | none => false

/-- A packet that matched entry f: counters, silence, policing, merge, then its kind's own rules (R212-R225). Policing, merge and
frame mapping go by its PCS instant t, the close rule by the instant at the reference plane (R218, R219, R223, R272). -/
def State.rxMatched (s : State) (f : Nat) (pathB : Bool) (p : RxPacket) (t : Tick) : State :=
  if s.flowHoled f then s else
  let before := s.flowState f
  let rec' := s.matchFields f p.ts t
  let r := s.flow f
  let s := s.setFlow f (if pathB then { r with lastB := some t, heard := true } else { r with lastA := some t, heard := true })
  let s := s.statFlow f fun q => if pathB then { q with rxB := sat32 (q.rxB + 1) } else { q with rxA := sat32 (q.rxA + 1) }
  let s := s.flowStateEvent f before
  let r := s.flow f
  let pol := police rec' (if pathB then r.bucketB else r.bucketA) p.frameLen t
  let s := s.setFlow f (if pathB then { r with bucketB := pol.2 } else { r with bucketA := pol.2 })
  if !pol.1 then
    s.statFlow f fun q => if pathB then { q with polB := sat32 (q.polB + 1) } else { q with polA := sat32 (q.polA + 1) }
  else
    let r := s.flow f
    let seq := r.extend rec'.seqBits p.seq
    let at_ := (s.ingressAt p.port (t : Int)).toNat
    let m := mediaCount rec'.clock p.ts t
    let n := if rec'.kind = 1 then m else slotOfMedia rec'.rate rec'.clock m
    let bad := match p.body with
      | .video rows => rec'.kind != 0 || badVideo rec' rows
      | .audio _ => rec'.kind != 1
      | .anc _ _ => rec'.kind != 2
    if bad then s.statFlow f fun q => { q with malformed := sat32 (q.malformed + 1) }
    else
      match r.held.find? (fun h => h.seq == seq) with
      | some h =>
        let s := s.statFlow f fun q => { q with dup := sat32 (q.dup + 1) }
        -- two copies at one timestamp: path A's is kept
        if h.pathB && !pathB && h.pcs == t then s.preferA f m n seq at_ p.body else s
      | none =>
        match p.body with
        | .video rows => s.rxVideo f n m ⟨seq, n, 0, t, pathB⟩ at_ rows
        | .audio frames => s.rxAudio rec' f m ⟨seq, n, 0, t, pathB⟩ at_ frames
        | .anc fOk pkts => s.rxAnc rec' f n m ⟨seq, n, 0, t, pathB⟩ at_ fOk pkts

/-- The effect of FLOW_PATH_SILENT (R229): 10 ms after the last matched packet of a path. -/
def State.pathSilent (s : State) (f : Nat) (pathB : Bool) : State :=
  let r := s.flow f
  match if pathB then r.lastB else r.lastA with
  | none => s
  | some t =>
    let before := s.flowState f
    let s := s.until (msT 10 + t)
    (s.setFlow f (if pathB then { r with lastB := none } else { r with lastA := none })).flowStateEvent f before

end Sys2Proof.Machine
end

