-- ==== Sys2Proof/Machine/Analysis.lean ====
section
/-! DEFINITION. Analysis.lean: pre-analysis of a source (R57-R64) and its mapping to a channel's CTUs (R66, R67). -/

namespace Sys2Proof.Machine

/-! ### Channels and the slots that they take part in -/

/-- A channel that is not running. -/
def ChanRt.empty : ChanRt :=
  ⟨false, 0, 0, [], 0, none, 0, [], [], false, [], (0, 0), none, none, none, [], [], none, [], [], [], [], [], []⟩

/-- A channel's runtime state. -/
def State.chan (s : State) (c : Nat) : ChanRt := Tab.get ChanRt.empty s.chans c

/-- The objects and the Survey value without some of the changes in force, newest first. -/
def State.undone (s : State) (late : List Undo) : State :=
  { s with
    dict := late.foldl (fun d u => u.objs.foldl (fun d p => Tab.set (defaultOf p.1) d p.1 p.2) d) s.dict
    bytes := late.foldl (fun d u => u.data.foldl (fun d p => Tab.put d p.1 p.2) d) s.bytes
    survey := late.foldl (fun x u => { x with value := u.survey }) s.survey }

/-- The objects and the Survey value as they stand for a slot: those of a commit whose target lies after T0(n) are not yet in
force (R372, R382). -/
def State.atSlot (s : State) (rate n : Nat) : State :=
  s.undone (s.commit.undo.filter fun u => decide (n < slotFrom rate u.target))

/-- The same at an instant. -/
def State.atInstant (s : State) (t : Tick) : State := s.undone (s.commit.undo.filter fun u => decide (t < u.target))

/-- A run covers a slot. -/
def RunSpec.has (x : RunSpec) (n : Nat) : Bool :=
  decide (x.first ≤ n) && (match x.stop with | some k => decide (n < k) | none => true)

/-- The runs of a channel, the present one first. -/
def ChanRt.runs (r : ChanRt) : List RunSpec := ⟨r.firstSlot, r.stopSlot, r.rate, r.orders⟩ :: r.later

/-- A channel takes part in slot n. -/
def ChanRt.inSlot (r : ChanRt) (n : Nat) : Bool := r.running && r.runs.any (·.has n)

/-- The frame rate code of the run that slot n belongs to. -/
def ChanRt.rateAt (r : ChanRt) (n : Nat) : Nat := ((r.runs.find? (·.has n)).map (·.rate)).getD r.rate

/-- An AU belongs to the present run of its channel. -/
def ChanRt.mine (r : ChanRt) (a : Au) : Bool := decide (r.firstSlot ≤ a.slot) && a.cfg.rate == r.rate

/-- The objects in force for slot n of channel c. -/
def State.forSlot (s : State) (c n : Nat) : State := s.atSlot ((s.chan c).rateAt n) n

/-- Whether channel c is the canvas channel of a canvas cascade. -/
def State.isCanvas (s : State) (c : Nat) : Bool := s.nat 0x2300 1 == 1 && s.nat 0x2300 0xA == c

/-- Flow f feeds a region of the canvas that this position owns (R187). -/
def State.feedsRegion (s : State) (f : Nat) : Bool :=
  (List.range (s.nat 0x2310 1 * s.nat 0x2310 2)).any fun i =>
    s.nat 0x2311 (i + 1) == s.nat 0x2300 3 && s.nat 0x2312 (i + 1) == f

/-- Channels that take part in slot n with f as their primary source; of a canvas, the flows of its own regions. -/
def State.chansOf (s : State) (f n : Nat) : List Nat :=
  (s.chans.filter fun p => p.2.inSlot n &&
    (let v := s.atSlot (p.2.rateAt n) n
     if v.isCanvas p.1 then v.feedsRegion f else v.ch p.1 0 8 == f)).map (·.1)

/-! ### Reduced images -/

/-- A length brought up to a multiple of 64 (R57). -/
def pad64 (n : Nat) : Nat := cdiv n 64 * 64

/-- Luma sample x of an assembled line in pgroup order. -/
def lumaOf (line : List Nat) (x : Nat) : Nat := line.getD (2 * x + 1) 0

/-- One row of the quarter-scale image: four source lines summed in 4 × 4 blocks, the last source column repeated to
the padded width (R57). -/
def reduceRow (width wOut : Nat) (lines : List (Nat → Nat)) : List Nat :=
  (List.range wOut).map fun x =>
    (lines.foldl (fun a f => a + ((List.range 4).foldl (fun b i => b + f (min (4 * x + i) (width - 1))) 0)) 0 + 8) / 16

/-- An empty analysis. -/
def AnaRt.empty : AnaRt := ⟨[], [], [], [], [], [], [], false, 0, (0, 0), false⟩

/-- Source flows keep their analyses by flow and slot. -/
def anaKey (f n : Nat) : Nat := 0x10000000000 * f + n

/-- The stored analysis of a slot. -/
def State.anaGet (s : State) (f n : Nat) : AnaRt := Tab.get AnaRt.empty s.ana (anaKey f n)

/-- A slot's analysis takes a value. -/
def State.anaSet (s : State) (f n : Nat) (a : AnaRt) : State := { s with ana := Tab.put s.ana (anaKey f n) a }

/-- What a slot's analysis reads as: its own, or, for a repeat or an absence, the previous slot's A and C with F, S_F
and G_v zero and no scene cut (R64). -/
def State.anaOf (s : State) (f : Nat) : Nat → Nat → AnaRt
  | 0, n => s.anaGet f n
  | fuel + 1, n =>
    match ((s.flow f).frame n).gift with
    | .present => s.anaGet f n
    | .undecided => s.anaGet f n
    | .repeated _ => { s.anaOf f fuel (n - 1) with field := [], cost := [], gv := (0, 0), cut := false }
    | .absent => { s.anaOf f fuel (n - 1) with field := [], cost := [], gv := (0, 0), cut := false }

/-- How far back a run of unmapped slots is followed. -/
def anaFuel : Nat := 65536

/-- A sample of a reduced image; a position outside takes the nearest edge sample (R60). -/
def imgAt (img : Tab (List Nat)) (w h : Nat) (x y : Int) : Nat :=
  let row := Tab.get [] img (clampI 0 (h - 1) y).toNat
  row.getD (clampI 0 (w - 1) x).toNat 0

/-- The order in which ties fall: smaller cost, then |x| + |y|, then y, then x (R60). -/
def vecBefore (a b : Nat × Int × Int) : Bool :=
  let sa := a.2.1.natAbs + a.2.2.natAbs
  let sb := b.2.1.natAbs + b.2.2.natAbs
  if a.1 ≠ b.1 then decide (a.1 < b.1)
  else if sa ≠ sb then decide (sa < sb)
  else if a.2.2 ≠ b.2.2 then decide (a.2.2 < b.2.2)
  else decide (a.2.1 < b.2.1)

/-- The best of a list of vectors under a cost. -/
def bestVec (cost : Int × Int → Nat) (vs : List (Int × Int)) : Nat × Int × Int :=
  match vs with
  | [] => (0, 0, 0)
  | v :: vs => vs.foldl (fun b v => let c := (cost v, v.1, v.2); if vecBefore c b then c else b) (cost v, v.1, v.2)

/-- Integers from −r to r. -/
def span (r : Nat) : List Int := (List.range (2 * r + 1)).map fun i => (i : Int) - r

/-- All vectors within ±rx, ±ry of a centre. -/
def window (cx cy : Int) (rx ry : Nat) : List (Int × Int) :=
  (span ry).flatMap fun y => (span rx).map fun x => (cx + x, cy + y)

/-- SAD of an n × n block at (x, y) of one image against another displaced by v. -/
def blockSad (n : Nat) (cur ref : Tab (List Nat)) (w h : Nat) (x y : Nat) (v : Int × Int) : Nat :=
  (List.range n).foldl (fun a j => (List.range n).foldl (fun b i =>
    b + ((imgAt cur w h (x + i) (y + j) : Int) - imgAt ref w h (x + i + v.1) (y + j + v.2)).natAbs) a) 0

/-- Activity of the L1 block at (bx, by) (R59). -/
def blockActivity (img : Tab (List Nat)) (w h bx by_ : Nat) : Nat :=
  let q := (List.range 64).map fun i => imgAt img w h (8 * bx + i % 8) (8 * by_ + i / 8)
  let m := (q.sum + 32) / 64
  q.foldl (fun a v => a + ((v : Int) - m).natAbs) 0

/-- Field vector and cost of an L1 block against the previous slot's images (R60): the L2 vector of its L2 block, then
±4 around four times it and around zero. -/
def blockField (cur prev : AnaRt) (w1 h1 bx by_ : Nat) (v2 : Int × Int) : Nat × Int × Int :=
  let first := window (4 * v2.1) (4 * v2.2) 4 4
  let second := (window 0 0 4 4).filter fun v => !first.contains v
  bestVec (blockSad 8 cur.l1 prev.l1 w1 h1 (8 * bx) (8 * by_)) (first ++ second)

/-- The 64-bin histogram of L1 samples (R63). -/
def histogram (img : Tab (List Nat)) : List Nat :=
  img.foldl (fun h r => r.2.foldl (fun h v => h.modify (v / 16) (· + 1)) h) (List.replicate 64 0)

/-- The vector that occurs in the most blocks (R62). -/
def modeVec (vs : List (Int × Int)) : Int × Int :=
  let n := vs.length
  let b := bestVec (fun v => n - vs.count v) vs
  (b.2.1, b.2.2)

/-- The frame of a slot is analysed (R57, R64): it is present, and some channel takes part with the flow as its source. -/
def State.anaDue (s : State) (f n : Nat) : Bool :=
  decide (((s.flow f).frame n).gift = .present) && !(s.chansOf f n).isEmpty

/-- What stands on the analysis of the slots below n waits for (R18, R67): presence of the last of them is decided, and every
one that is analysed has its results. -/
def State.anaSettled (s : State) (f n : Nat) : Bool :=
  (n == 0 || decide (((s.flow f).frame (n - 1)).gift ≠ .undecided) || (s.chansOf f (n - 1)).isEmpty) &&
  (s.flow f).frames.all fun p => decide (n ≤ p.1) || !s.anaDue f p.1 || (s.anaGet f p.1).done

/-- The frame shown for the slot before n, whose images the analysis of n is measured against (R60). There is none for the
first frame (R64); a frame after an absent slot, or after one that was not analysed, counts as a first frame (DESIGN CHOICE,
log 111). -/
def State.anaPrev (s : State) (f n : Nat) : Option AnaRt :=
  match (s.flow f).shown (n - 1) with
  | none => none
  | some m => match Tab.find? s.ana (anaKey f m) with
    | some a => if a.done then some a else none
    | none => none

/-- The complexity of band b: Σ min(S_F, A_b) over its blocks (R61). -/
def bandComplexity (act cost : Tab Nat) (bw b : Nat) : Nat :=
  ((List.range (2 * bw)).map fun i => min (Tab.get 0 cost (2 * b * bw + i)) (Tab.get 0 act (2 * b * bw + i))).sum

/-- The results of one band: reduced rows, activity, field, costs and complexity (R58-R61). A first frame has S_F = 0, and so
C = 0 (DESIGN CHOICE, log 111): R64 gives its F and G_v. -/
def anaBand (r : FlowRec) (lineAt : Nat → List Nat) (a : AnaRt) (prev : Option AnaRt) (band : Nat) : AnaRt :=
  let w1 := pad64 r.width / 4
  let h1 := pad64 r.height / 4
  let w2 := w1 / 4
  let h2 := h1 / 4
  let l1 := (List.range 16).foldl (fun t j =>
    let y := 16 * band + j
    let lines := (List.range 4).map fun i =>
      let line := lineAt (min (4 * y + i) (r.height - 1))
      fun x => lumaOf line x
    Tab.put t y (reduceRow r.width w1 lines)) a.l1
  let l2 := (List.range 4).foldl (fun t j =>
    let y := 4 * band + j
    let lines := (List.range 4).map fun i =>
      let row := Tab.get [] l1 (4 * y + i)
      fun x => row.getD x 0
    Tab.put t y (reduceRow w1 w2 lines)) a.l2
  let a := { a with l1 := l1, l2 := l2, bands := band :: a.bands }
  let bw := w1 / 8
  let blocks := (List.range 2).flatMap fun j => (List.range bw).map fun bx => (bx, 2 * band + j)
  let act := blocks.foldl (fun t b => Tab.put t (b.2 * bw + b.1) (blockActivity l1 w1 h1 b.1 b.2)) a.act
  match prev with
  | none =>
    { a with act := act
             field := blocks.foldl (fun t b => Tab.put t (b.2 * bw + b.1) (0, 0)) a.field
             cost := blocks.foldl (fun t b => Tab.put t (b.2 * bw + b.1) 0) a.cost
             bandC := Tab.put a.bandC band 0 }
  | some p =>
    let v2 (bx : Nat) : Int × Int :=
      let b := bestVec (blockSad 4 l2 p.l2 w2 h2 (4 * (bx / 2)) (4 * band)) (window 0 0 64 32)
      (b.2.1, b.2.2)
    let res := blocks.map fun b => (b, blockField a p w1 h1 b.1 b.2 (v2 b.1))
    let cost := res.foldl (fun t x => Tab.put t (x.1.2 * bw + x.1.1) x.2.1) a.cost
    { a with act := act
             field := res.foldl (fun t x => Tab.put t (x.1.2 * bw + x.1.1) (4 * x.2.2.1, 4 * x.2.2.2)) a.field
             cost := cost, bandC := Tab.put a.bandC band (bandComplexity act cost bw band) }

/-- Frame results at the last band: complexity, global vector and scene cut (R61-R63). -/
def anaFinish (th ts : Nat) (a : AnaRt) (prev : Option AnaRt) : AnaRt :=
  let blocks := a.act.map fun p => (p.2, Tab.get 0 a.cost p.1)
  let c := blocks.foldl (fun n b => n + min b.2 b.1) 0
  match prev with
  | none => { a with done := true, c := c, gv := (0, 0), cut := false }
  | some p =>
    let nq := a.l1.foldl (fun n r => n + r.2.length) 0
    let h := ((histogram a.l1).zip (histogram p.l1)).foldl (fun n x => n + ((x.1 : Int) - x.2).natAbs) 0
    let hv := 256 * h / (2 * nq)
    let sv := 256 * (blocks.filter fun b => decide (b.1 < b.2)).length / blocks.length
    { a with done := true, c := c, gv := modeVec (a.field.map (·.2)), cut := decide (th ≤ hv) && decide (ts ≤ sv) }

/-- Lines of band b of a source. -/
def bandLines (height b : Nat) : List Nat :=
  (List.range 64).filterMap fun i => if 64 * b + i < height then some (64 * b + i) else none

/-- The effect of PRE_ANALYSIS_BAND: every line of the band has closed and its task runs (R58); the last band gives
the frame's results (R61-R63), judged by T_h and T_s as in force for the slot, and what the channels of the source report of
them (R85). The bands of a slot wait for the results of the slot before it. -/
def State.preAnalysis (s : State) (f n b : Nat) : State :=
  let r := s.recAt f n
  let x := (s.flow f).frame n
  let closed := (bandLines r.height b).all fun l =>
    match x.line l with | .closed _ _ => true | .collecting _ => false
  let a := s.anaGet f n
  if !s.anaDue f n ∨ ¬closed ∨ a.bands.contains b ∨ cdiv r.height 64 ≤ b ∨ !s.anaSettled f n then s
  else
    let prev := s.anaPrev f n
    let lineAt := fun l => (s.flow f).lineData n l r.perLine
    let a := anaBand r lineAt a prev b
    if a.bands.length < cdiv r.height 64 then s.anaSet f n a
    else
      let v := s.atSlot r.rate n
      let a := anaFinish (v.nat 0x4010 1) (v.nat 0x4010 2) a prev
      let s := s.anaSet f n a
      (s.chansOf f n).foldl (fun s c =>
        let s := s.setObj (basic c 4) 5 (min 0xFFFFFFFF a.c)
        if a.cut ∧ ¬v.isCanvas c then s.count (basic c 4) 4 else s) s

/-! ### Mapping to a channel (R66, R67) -/

/-- Centres of the L1 blocks of a source, as (block number, channel x, channel y). -/
def blockCentres (ws hs wc hc : Nat) : List (Nat × Nat × Nat) :=
  let bw := pad64 ws / 32
  let bh := pad64 hs / 32
  (List.range (bw * bh)).map fun b =>
    (b, (32 * (b % bw) + 16) * wc / ws, (32 * (b / bw) + 16) * hc / hs)

/-- The blocks whose centres map into a CTU. -/
def blocksIn (ws hs wc hc size cx cy : Nat) : List Nat :=
  ((blockCentres ws hs wc hc).filter fun p =>
    decide (cx * size ≤ p.2.1 ∧ p.2.1 < (cx + 1) * size ∧ cy * size ≤ p.2.2 ∧ p.2.2 < (cy + 1) * size)).map (·.1)

/-- CTU activity (R66). The centre of a CTU that the picture's edge cuts is held to its last sample (DESIGN CHOICE,
log 111). -/
def ctuActivity (a : AnaRt) (ws hs wc hc size cx cy : Nat) : Nat :=
  let bs := blocksIn ws hs wc hc size cx cy
  if bs.isEmpty then
    let xs := min (cx * size + size / 2) (wc - 1) * ws / wc
    let ys := min (cy * size + size / 2) (hc - 1) * hs / hc
    Tab.get 0 a.act ((ys / 32) * (pad64 ws / 32) + xs / 32)
  else (bs.foldl (fun n b => n + Tab.get 0 a.act b) 0) / bs.length

/-- Field vector at a channel position, scaled and truncated towards zero (R66). -/
def fieldAt (a : AnaRt) (ws hs wc hc x y : Nat) : Int × Int :=
  let xs := x * ws / wc
  let ys := y * hs / hc
  let v := Tab.get (0, 0) a.field ((ys / 32) * (pad64 ws / 32) + xs / 32)
  ((v.1 * wc).tdiv ws, (v.2 * hc).tdiv hs)

/-- Bands of the source whose lines map into a CTU row (R67). -/
def bandsOfRow (hs hc size r : Nat) : List Nat :=
  (List.range (cdiv hs 64)).filter fun b =>
    (bandLines hs b).any fun l => decide (r * size ≤ l * hc / hs ∧ l * hc / hs < (r + 1) * size)

end Sys2Proof.Machine
end

