-- ==== Sys2Proof/Machine/Pool.lean ====
section
/-! DEFINITION. Pool.lean: the reference pool: marks, lists, holds, allocation, poison, pins and mark loads (R86-R105). -/

namespace Sys2Proof.Machine

/-- Pool buffer size in bytes of a picture (R86). -/
def poolBytes (width height chroma : Nat) : Nat :=
  let samples := width * height * (if chroma = 0 then 2 else 4)
  cdiv (samples + cdiv width 32 * cdiv height 32 * 32 + cdiv width 16 * cdiv height 16 * 16) 2097152 * 2097152

/-- B of a channel: D + 5 or the override (R87). -/
def poolCount (d override : Nat) : Nat := if override = 0 then d + 5 else override

/-- A buffer nothing uses. -/
def PoolBuf.empty : PoolBuf := ⟨false, false, false, [], [], [], [], false, 0, 0⟩

/-- Entries in the fixed order of R91: short-term by POC descending, long-term by POC descending, the pinned one. -/
def insertPoc (e : PicEntry) : List PicEntry → List PicEntry
  | [] => [e]
  | x :: xs => if x.poc < e.poc then e :: x :: xs else x :: insertPoc e xs

/-- Entries of one mark, POC descending. -/
def marked (m : Mark) (es : List PicEntry) : List PicEntry :=
  (es.filter fun e => e.mark == m).foldr insertPoc []

/-- The mark table in its fixed order (R91). -/
def orderMarks (es : List PicEntry) : List PicEntry :=
  marked .shortTerm es ++ marked .longTerm es ++ marked .pinned es

/-- Whether an entry's buffer carries poison (R91). -/
def ChanRt.isPoisoned (r : ChanRt) (e : PicEntry) : Bool :=
  match e.buf with
  | some b => ((r.bufs[b]?).map (·.poison)).getD false
  | none => false

/-- AUs in flight: decided, not all rows settled, not discarded (R90); a skip AU's rows settle when its substreams are
written. -/
def ChanRt.inFlight (r : ChanRt) : List Au := r.aus.filter fun a => !a.settled && !a.replaced

/-- A buffer is held hard (R90): by an AU in flight as its current picture or an active reference, by an entry that
shares it, or by an export. -/
def ChanRt.hardHeld (r : ChanRt) (b : Nat) : Bool :=
  (r.inFlight.any fun a => a.buf == some b || a.list0.any fun e => e.buf == some b) ||
  (r.marks.any fun e => e.shared && e.buf == some b) || ((r.bufs[b]?).map (·.exporting)).getD false

/-- A buffer is free: no mark refers to it and nothing holds it hard (R90). -/
def ChanRt.isFree (r : ChanRt) (b : Nat) : Bool :=
  !(r.marks.any fun e => e.buf == some b) && !r.hardHeld b

/-- How many entries share a buffer (R105). -/
def ChanRt.aliases (r : ChanRt) (b : Nat) : Nat :=
  (r.marks.filter fun e => e.shared && e.buf == some b).length

/-- The buffer that an allocation takes: the lowest free one without a soft hold, else the lowest free one (R90). -/
def ChanRt.pick (r : ChanRt) : Option Nat :=
  let free := (List.range r.bufs.length).filter r.isFree
  match free.find? fun b => !((r.bufs[b]?).map (·.soft)).getD false with
  | some b => some b
  | none => free.head?

/-- The status word of a buffer (Table 4-3). -/
def ChanRt.bufWord (r : ChanRt) (b : Nat) : Nat :=
  match r.bufs[b]? with
  | none => 0
  | some x =>
    let own := r.marks.find? fun e => !e.shared && e.buf == some b
    let m := match own with
      | none => 0
      | some e => match e.mark with | .shortTerm => 1 | .longTerm => 2 | .pinned => 3
    m + 4 * b2n x.poison + 8 * b2n ((own.map (·.anchor)).getD false) + 16 * b2n (r.hardHeld b) + 32 * b2n x.soft +
      64 * (r.aliases b % 16) + 65536 * (((own.map (·.poc)).getD 0) % 65536)

/-- Poison spreads through AUs in flight until it spreads no further (R98). -/
def ChanRt.spread (r : ChanRt) : Nat → ChanRt
  | 0 => r
  | fuel + 1 =>
    let bad := r.inFlight.filterMap fun a => if a.list0.any r.isPoisoned then a.buf else none
    let r' := { r with bufs := bad.foldl (fun bs b => bs.modify b fun x => { x with poison := true }) r.bufs }
    r'.spread fuel

/-- A buffer is poisoned, and the poison spreads (R97, R98). -/
def ChanRt.poison (r : ChanRt) (b : Nat) : ChanRt :=
  let r := { r with bufs := r.bufs.modify b (fun x => { x with poison := true }), poisoned := true }
  r.spread (r.aus.length + 1)

/-- The reconstruction check value of an entry: its buffer's picture, or the constant source's (R367). -/
def ChanRt.reconOf (r : ChanRt) (e : PicEntry) : Nat :=
  match e.buf with
  | some b => ((r.bufs[b]?).map (·.recon)).getD 0
  | none => e.recon

/-- A mark load's entries that the unit does not hold whole: same POC, equal reconstruction check value, no poison
(R103). -/
def ChanRt.loadFails (r : ChanRt) (l : MarkLoad) : Option Nat :=
  (l.entries.find? fun x => !(r.marks.any fun e => e.poc == x.1 && r.reconOf e == x.2.2.2 && !r.isPoisoned e)).map (·.1)

/-- The marks after a load that succeeds (R103). -/
def ChanRt.loaded (r : ChanRt) (l : MarkLoad) : List PicEntry :=
  l.entries.filterMap fun x => (r.marks.find? fun e => e.poc == x.1).map
    fun e => { e with mark := x.2.1, anchor := x.2.2.1 }

/-- What one run of decide_marks gives (R92). -/
structure MarkResult where
  list0   : List PicEntry
  held    : List PicEntry
  /-- The AU became an IDR picture because nothing active was left. -/
  empty   : Bool
  removed : Nat
  /-- POC of a failed pin order. -/
  pinFail : Option Nat
  marks   : List PicEntry
  deriving DecidableEq, Repr

/-- Ageing (R92): the short-term window and the long-term count. -/
def ageMarks (wst l : Nat) (es : List PicEntry) : List PicEntry :=
  let st := marked .shortTerm es
  let old := (st.drop wst).filterMap fun e => if e.anchor ∧ 0 < l then some { e with mark := .longTerm } else none
  let lt := marked .longTerm (marked .longTerm es ++ old)
  st.take wst ++ lt.take l ++ marked .pinned es

/-- The pin order named for an AU (R102): the entry named becomes pinned, and one pinned before becomes unused. An order that
names the entry already pinned names no short-term or long-term entry: it fails (DESIGN CHOICE, log 112). -/
def applyPin (order : Option PinOrder) (es : List PicEntry) : List PicEntry × Option Nat :=
  match order with
  | none => (es, none)
  | some o =>
    match o.poc with
    | none => (es.filter fun e => e.mark != .pinned, none)
    | some p =>
      if es.any fun e => e.poc == p && e.mark != .pinned then
        ((es.filter fun e => e.mark != .pinned || e.poc == p).map
          fun e => if e.poc = p then { e with mark := .pinned } else e, none)
      else (es, some p)

/-- decide_marks of R92, from poison removal to the pin. `clearBelow` is the POC of a recovery point's sweep start;
`wst` and `l` the window and the long-term count. -/
def ChanRt.decideMarks (r : ChanRt) (es : List PicEntry) (idr : Bool) (clearBelow : Option Nat) (wst l : Nat)
    (pin : Option PinOrder) : MarkResult :=
  let clean := es.filter fun e => !r.isPoisoned e
  let removed := es.length - clean.length
  let es1 := if idr then [] else clean
  let es2 := match clearBelow with
    | some p => es1.filter fun e => decide (p ≤ e.poc)
    | none => es1
  let st := marked .shortTerm es2
  let lt := marked .longTerm es2
  let list0 := st.take wst ++ lt.take l
  let held := lt.drop l ++ marked .pinned es2
  -- an AU that becomes an IDR picture is not the AU that a pin names by its POC (R170)
  if list0.isEmpty then ⟨[], [], !idr, removed, none, []⟩
  else
    let p := applyPin pin es2
    ⟨list0, held, false, removed, p.2, p.1⟩

end Sys2Proof.Machine
end

