-- ==== Sys2Proof/Machine/Rate.lean ====
section
/-! DEFINITION. Rate.lean: rate control as arithmetic: the ceiling, guard sizes, QP, the size model, and the picture, row
and model procedures (R106-R121). -/

namespace Sys2Proof.Machine

/-- BR_s in bit/s (R106). -/
def brS (cap : Nat) : Nat := 64 * (1000 * cap / 64)

/-- τ = ⌊90,000 · Tf⌋ (R106). -/
def tau (rate : Nat) : Nat := 90000 * tfNum rate / tfDen rate

/-- K, the largest AU in bits (R106). -/
def auMax (cap rate : Nat) : Nat := brS cap * tau rate / 90000

/-- H, the header reserve in bits (R106). -/
def hdrReserve (u nr ns : Nat) : Nat := 8 * (512 + 4 * nr * ns + u)

/-- M, the per-AU ceiling; 0 where the reserve takes all (R106). -/
def auCeiling (cap rate u nr ns : Nat) : Nat := auMax cap rate - hdrReserve u nr ns

/-- CPB size Z (R123). -/
def cpbSize (cap rate : Nat) : Nat := 16 * (brS cap * tau rate / 1440000)

/-- Bound b_I of an intra guard CTU in an intra picture (Table 5-1): codec, log2 CTU size, chroma format. -/
def guardI (codec ctu chroma : Nat) : Nat :=
  if codec = 0 then (if ctu = 7 then 288 else 180)
  else if ctu = 6 then (if chroma = 0 then 156 else 180) else (if chroma = 0 then 120 else 144)

/-- Bound b_P of a guard CTU in an inter picture (Table 5-1). -/
def guardP (codec ctu chroma : Nat) : Nat :=
  if codec = 0 then (if ctu = 7 then 309 else 201)
  else if ctu = 6 then (if chroma = 0 then 177 else 201) else (if chroma = 0 then 141 else 165)

/-- Row overhead h, bits (R109). -/
def rowOverhead : Nat := 48

/-- Guard row size g_t (R110). -/
def guardRow (nc b : Nat) : Nat := nc * b + rowOverhead

/-- Qmax (R112). -/
def qMax (codec : Nat) : Nat := if codec = 0 then 63 else 51

/-- Quality QP Qq (R112). -/
def qualityQp (qt : Nat) (offset : Int) (intra : Bool) (qmax : Nat) : Nat :=
  (clampI 0 qmax ((qt / 4 : Nat) + (if intra then offset else 0))).toNat

/-- L(a), a base-2 logarithm in quarter steps (R112). -/
def logQuarter (a : Nat) : Int :=
  let m := Nat.log2 (a + 1)
  4 * (m : Int) + (((a + 1) * 4) / 2 ^ m : Nat) - 4

/-- off(x) of a CTU (R112). -/
def activityOffset (s lim act ref : Nat) : Int :=
  clampI (-(lim : Int)) lim (((s : Int) * (logQuarter act - logQuarter ref) + 8) / 16)

/-- d(x, r) (R112). -/
def ditherQp (x r qt : Nat) : Nat := if (x + r) % 4 < qt % 4 then 1 else 0

/-- Qc of a CTU (R112). -/
def ctuQp (qRow x r qt s lim act ref qmax : Nat) : Nat :=
  (clampI 0 qmax ((qRow : Int) + ditherQp x r qt + activityOffset s lim act ref)).toNat

/-- E[Q] (R113). -/
def sizeScale (q : Nat) : Nat :=
  ([65536, 58386, 52016, 46341, 41285, 36781].getD (q % 6) 0) / 2 ^ (q / 6)

/-- Unsigned 64-bit arithmetic wraps (R113). -/
def u64 (n : Nat) : Nat := n % 0x10000000000000000

/-- P(X, Q) of the size model (R113). -/
def predict (alphaI alphaP xi xp q : Nat) : Nat :=
  u64 ((u64 (xi * alphaI + xp * alphaP) / 65536) * sizeScale q) / 65536

/-- The smallest Q from `q` to `top` that a test passes; `top` if none does. -/
def leastQp (top : Nat) (ok : Nat → Bool) : Nat → Nat → Nat
  | 0, _ => top
  | fuel + 1, q => if q ≥ top then top else if ok q then q else leastQp top ok fuel (q + 1)

/-- The picture decision of R114: Qb, and whether the cap raised it. `xs` are the predicted row complexities. -/
def pictureQp (qq : Nat) (qbPrev : Option Nat) (fall qmax m nr g alphaI alphaP : Nat) (xs : List (Nat × Nat)) :
    Nat × Bool :=
  let qlo := match qbPrev with
    | none => qq
    | some p => max qq (p - fall)
  let budget := ((m - nr * g) * 15) / 16
  let qb := leastQp qmax (fun q => decide (xs.foldl (fun a x => a + predict alphaI alphaP x.1 x.2 q) 0 ≤ budget)) 64 qlo
  (qb, decide (qlo < qb))

/-- A row decision's outcome (R115): guard, Q, A. -/
structure RowChoice where
  guard : Bool
  q     : Nat
  allow : Nat
  deriving DecidableEq, Repr

/-- The row decision of R115. `prevGuard` is guard[r − 1]; `settled` and `charged` the two sums; `x` the row's
complexity and `later` the predicted complexities of the rows after it. -/
def rowChoice (prevGuard : Bool) (m settled charged rowsLeft g qb qhi alphaI alphaP : Nat) (x : Nat × Nat)
    (later : List (Nat × Nat)) : RowChoice :=
  if prevGuard then ⟨true, qb, g⟩
  else
    let f := m - settled - charged - rowsLeft * g
    let need (q : Nat) : Nat := later.foldl (fun a y => a + predict alphaI alphaP y.1 y.2 q)
      (predict alphaI alphaP x.1 x.2 q)
    if f < need qhi then ⟨true, qb, g⟩
    else
      let q := leastQp qhi (fun q => decide (need q ≤ f)) 64 qb
      let a := min f (2 * predict alphaI alphaP x.1 x.2 q + (f - need q) / rowsLeft)
      ⟨false, q, g + a⟩

/-- S, Π_I and Π_P of R119 (each row's term is shifted before the sum, DEDUCED, log 20) over the rows that were coded
normally: settled total, X_I, X_P and Q of each. -/
def modelSums (rows : List (Nat × Nat × Nat × Nat)) : Nat × Nat × Nat :=
  (rows.foldl (fun a x => a + x.1) 0, rows.foldl (fun a x => a + x.2.1 * sizeScale x.2.2.2 / 65536) 0,
   rows.foldl (fun a x => a + x.2.2.1 * sizeScale x.2.2.2 / 65536) 0)

/-- The model update from S, Π_I and Π_P; none where every row was a guard row or guarded (R119). -/
def modelFrom (alphaI alphaP sum pi pp : Nat) : Nat × Nat :=
  let hold (v : Nat) : Nat := min 16777215 (max 256 v)
  let ai := if pp = 0 ∧ 0 < pi then (3 * alphaI + sum * 65536 / pi + 2) / 4 else alphaI
  let ap :=
    if 0 < pp then
      let obs := if sum * 65536 ≤ alphaI * pi then 256 else max ((sum * 65536 - alphaI * pi) / pp) 256
      (3 * alphaP + obs + 2) / 4
    else alphaP
  (hold ai, hold ap)

/-- The model update over rows. -/
def modelStep (alphaI alphaP : Nat) (rows : List (Nat × Nat × Nat × Nat)) : Nat × Nat :=
  let x := modelSums rows
  if rows.isEmpty then (alphaI, alphaP) else modelFrom alphaI alphaP x.1 x.2.1 x.2.2

end Sys2Proof.Machine
end

