-- ==== Sys2Proof/Machine/Channel.lean ====
section
/-! DEFINITION. Channel.lean: a channel's configuration and runtime state, and the access units in flight (R9, R17-R22,
R31-R38, R57, R106). -/

namespace Sys2Proof.Machine

/-- A channel's runtime state takes a value. -/
def State.setChan (s : State) (c : Nat) (r : ChanRt) : State := { s with chans := Tab.put s.chans c r }

/-- A channel's runtime state changes. -/
def State.onChan (s : State) (c : Nat) (f : ChanRt → ChanRt) : State := s.setChan c (f (s.chan c))

/-- The AU of a slot, while the channel holds it. -/
def ChanRt.au? (r : ChanRt) (n : Nat) : Option Au := r.aus.find? fun a => a.slot == n

/-- An AU changes. -/
def ChanRt.onAu (r : ChanRt) (n : Nat) (f : Au → Au) : ChanRt :=
  { r with aus := r.aus.map fun a => if a.slot = n then f a else a }

/-- An AU of a channel changes. -/
def State.onAu (s : State) (c n : Nat) (f : Au → Au) : State := s.onChan c fun r => r.onAu n f

/-- Running channels, in ascending order. -/
def State.runningChans (s : State) : List Nat := (s.chans.filter fun p => p.2.running).map (·.1)

/-! ### Configuration of a channel -/

/-- log2 of the CTU size (Tables 2-4 and 2-5). -/
def ctuLog (codec over_ : Nat) : Nat :=
  if over_ = 0 then (if codec = 0 then 7 else 6) else over_

/-- CTU size in luma samples. -/
def AuCfg.size (a : AuCfg) : Nat := 2 ^ a.ctu
/-- CTU columns. -/
def AuCfg.cols (a : AuCfg) : Nat := cdiv a.width a.size
/-- CTU rows. -/
def AuCfg.rows (a : AuCfg) : Nat := cdiv a.height a.size

/-- Channel c's objects that influence bits, in the order of their tables, for the codec's own functions (R53). -/
def State.bitObjs (s : State) (c : Nat) : List Int :=
  ((List.range 7).map fun i => s.obj (basic c 0) (i + 2)) ++ ((List.range 6).map fun i => s.obj (basic c 2) (i + 1)) ++
  [s.obj (basic c 4) 1] ++ ((List.range 6).map fun i => s.obj (expert c 0) (i + 1)) ++
  ((List.range 8).map fun i => s.obj (expert c 4) (i + 1)) ++ ((List.range 2).map fun i => s.obj (expert c 5) (i + 1)) ++
  ((List.range 10).map fun i => s.obj (basic c 7) (i + 1)) ++ ((List.range 14).map fun i => s.obj (expert c 9) (i + 1)) ++
  [s.obj (basic c 6) 2, s.obj (expert c 8) 3, s.obj (basic c 5) 1]

/-! ### The Graticule (R186) -/

/-- Regions that a position owns, ascending. -/
def State.regionsOf (s : State) (p : Nat) : List Nat :=
  (List.range s.gratRegions).filter fun i => s.nat 0x2311 (i + 1) == p

/-- A member rectangle: columns and rows of the Graticule it spans, first and one past the last. -/
def State.memberCells (s : State) (p : Nat) : Nat × Nat × Nat × Nat :=
  let cs := s.nat 0x2310 1
  let rs := s.regionsOf p
  let cols := rs.map fun i => i % max 1 cs
  let rows := rs.map fun i => i / max 1 cs
  (cols.foldl min 255, cols.foldl max 0 + 1, rows.foldl min 255, rows.foldl max 0 + 1)

/-- Rh and Rv of a picture (R70, Table 3-2): by the code or by size, each replaced by its override. -/
def State.searchRange (s : State) (c w h : Nat) : Nat × Nat :=
  let m := max w h
  let code := s.ch c 4 1
  let row := if code ≠ 0 then code else if m ≤ 2048 then 1 else if m ≤ 4096 then 2 else 3
  let base : Nat × Nat := if row = 1 then (256, 128) else if row = 2 then (512, 256) else (1024, 512)
  (if s.chX c 4 1 = 0 then base.1 else s.chX c 4 1, if s.chX c 4 2 = 0 then base.2 else s.chX c 4 2)

/-- What an AU draws of the configuration (R53) at a position of a canvas, or as a channel of its own; k is the row
lag in force (R50). -/
def State.auCfgAt (s : State) (c p : Nat) : AuCfg :=
  let ctu := ctuLog (s.ch c 0 2) (s.chX c 0 1)
  let size := 2 ^ ctu
  let canvas := s.isCanvas c
  let m := s.memberCells p
  let xs := s.gratX
  let ys := s.gratY
  let x0 := if canvas then xs.getD m.1 0 else 0
  let y0 := if canvas then ys.getD m.2.2.1 0 else 0
  let w := if canvas then xs.getD m.2.1 0 - x0 else s.ch c 0 5
  let h := if canvas then ys.getD m.2.2.2 0 - y0 else s.ch c 0 6
  let cw := if canvas then xs.getLastD 0 else w
  let ch := if canvas then ys.getLastD 0 else h
  { codec := s.ch c 0 2, chroma := s.ch c 0 3, depth := s.ch c 0 4, width := w, height := h
    rate := s.ch c 0 7, source := s.ch c 0 8, ctu := ctu, d := s.ch c 1 1
    k := s.ch c 3 3, cap := s.ch c 6 2, u := s.chX c 8 3, qt := s.ch c 6 1, actS := s.ch c 6 3, lim := s.chX c 8 2
    headroom := s.chX c 8 1, rh := (s.searchRange c cw ch).1, rv := (s.searchRange c cw ch).2, canvas := canvas
    x0 := x0, y0 := y0, cw := cw, ch := ch
    colAt := if canvas then ((List.range (m.2.1 - m.1 + 1)).map fun i => cdiv (xs.getD (m.1 + i) 0 - x0) size)
      else [0, cdiv w size]
    rowAt := if canvas then ((List.range (m.2.2.2 - m.2.2.1 + 1)).map fun i => cdiv (ys.getD (m.2.2.1 + i) 0 - y0) size)
      else [0, cdiv h size]
    regions := if canvas then s.regionsOf p else [0]
    objs := s.bitObjs c ++ (if canvas then (xs ++ ys).map Int.ofNat else []) }

/-- The same at this unit's own position. -/
def State.auCfg (s : State) (c : Nat) : AuCfg := s.auCfgAt c (s.nat 0x2300 3)

/-- Substreams per CTU row. -/
def AuCfg.across (a : AuCfg) : Nat := a.colAt.length - 1

/-- E(n) = T0(n) + D · Tf − 200 µs (Table 1-2). -/
def AuCfg.rescueAt (a : AuCfg) (n : Nat) : Tick := instantT a.rate n a.d 1 (-200000)

/-- W(n) = T0(n) + D · Tf + 32 µs (Table 1-2). -/
def AuCfg.wireAt (a : AuCfg) (n : Nat) : Tick := instantT a.rate n a.d 1 32000

/-- Bounds of a guard CTU of an AU (Table 5-1). -/
def Au.guardBound (a : Au) : Nat :=
  if a.idr then guardI a.cfg.codec a.cfg.ctu a.cfg.chroma else guardP a.cfg.codec a.cfg.ctu a.cfg.chroma

/-- g_t of an AU (R110); a canvas member's row ends as many substreams as it spans columns (R192). -/
def Au.guardRowSize (a : Au) : Nat := guardRow a.cfg.cols a.guardBound + (a.cfg.across - 1) * rowOverhead

/-! ### Samples of a picture -/

/-- Samples of a CTU row of a picture in the coded format. -/
def rowSamples (g : AuCfg) (r : Nat) : Nat :=
  let h := min ((r + 1) * g.size) g.height - r * g.size
  if g.chroma = 1 then 2 * g.width * h else g.width * h + 2 * (g.width / 2 * (h / 2))

/-- The planes Y', Cb and Cr of a picture held as CTU rows, in raster order. -/
def planesOf (g : AuCfg) (rows : Nat → List Nat) : List (List Nat) :=
  let cut (r : Nat) : Nat × Nat :=
    let h := min ((r + 1) * g.size) g.height - r * g.size
    (g.width * h, (g.width / 2) * (if g.chroma = 1 then h else h / 2))
  let part (k r : Nat) : List Nat :=
    let c := cut r
    if k = 0 then (rows r).take c.1 else ((rows r).drop (c.1 + (k - 1) * c.2)).take c.2
  (List.range 3).map fun k => (List.range g.rows).flatMap (part k)

/-- Sample (x, y) of a component among the samples of CTU row r, in the samples of the picture. -/
def rowSample (g : AuCfg) (r : Nat) (row : List Nat) (comp x y : Nat) : Nat :=
  let h := min ((r + 1) * g.size) g.height - r * g.size
  if comp = 0 then row.getD ((y - r * g.size) * g.width + x) 0
  else
    let ch := if g.chroma = 1 then h else h / 2
    let top := if g.chroma = 1 then r * g.size else r * g.size / 2
    row.getD (g.width * h + (comp - 1) * (g.width / 2 * ch) + (y - top) * (g.width / 2) + x) 0

/-- The bytes a reconstruction check value covers: planes in raster order, 16-bit little-endian words (Table 18-1). -/
def reconBytes (planes : List (List Nat)) : List Byte := (planes.flatten).flatMap (leBytes 2)

/-- Mid-grey (R24). -/
def midGrey (depth : Nat) : Nat := if depth = 8 then 128 else 512

/-- The constant source's row. -/
def greyRow (g : AuCfg) (r : Nat) : List Nat := List.replicate (rowSamples g r) (midGrey g.depth)

/-- The reconstruction check value of a picture (R366, R367). -/
def reconValue (c n : Nat) (planes : List (List Nat)) : Nat := foldedCrc 2 c 0xFF 0 (n % 0x100000000) (reconBytes planes)

/-- The constant source's reconstruction check value for a slot. -/
def greyRecon (c n : Nat) (g : AuCfg) : Nat := reconValue c n (planesOf g (greyRow g))

/-! ### Complexities (R113) -/

/-- The most recent slot at or before n whose frame was analysed (R113); where there is none, X̂ and A_ref are 0 (DESIGN
CHOICE, log 111). -/
def State.lastAnalysed (s : State) (f n : Nat) : Option Nat :=
  ((s.ana.filter fun p => decide (anaKey f 0 ≤ p.1 ∧ p.1 ≤ anaKey f n) && p.2.done).getLast?).map
    fun p => p.1 - anaKey f 0

/-- Whether CTU column x of picture i of a sweep of G lies in the intra column (R43). -/
def intraColumn (w : Nat) (sweep : Option (Nat × Nat)) (x : Nat) : Bool :=
  match sweep with
  | none => false
  | some (i, g) => decide (i * w / g ≤ x ∧ x < (i + 1) * w / g)

/-- X_I and X_P of a CTU row of an AU from one analysis (R113). -/
def rowComplexity (a : AnaRt) (ws hs : Nat) (g : AuCfg) (idr : Bool) (sweep : Option (Nat × Nat)) (r : Nat) : Nat × Nat :=
  (List.range g.cols).foldl (fun t x =>
    let bs := blocksIn ws hs g.width g.height g.size x r
    if idr || intraColumn g.cols sweep x then (t.1 + bs.foldl (fun n b => n + Tab.get 0 a.act b) 0, t.2)
    else (t.1, t.2 + bs.foldl (fun n b => n + min (Tab.get 0 a.cost b) (Tab.get 0 a.act b)) 0)) (0, 0)

/-- The region that a canvas point lies in. -/
def State.regionOfPoint (s : State) (x y : Nat) : Option (Nat × RegionGeom) :=
  ((List.range s.gratRegions).map fun i => (i, s.regionAt i)).find? fun p =>
    decide (p.2.x ≤ x ∧ x < p.2.x + p.2.w ∧ p.2.y ≤ y ∧ y < p.2.y + p.2.h)

/-- The L1 blocks whose centres lie in CTU (x, r) of a member rectangle, with their flow. -/
def State.canvasBlocks (s : State) (g : AuCfg) (x r : Nat) : Option (Nat × List Nat) :=
  (s.regionOfPoint (g.x0 + x * g.size) (g.y0 + r * g.size)).map fun p =>
    let q := p.2
    let f := s.flowRec q.flow
    let bw := pad64 f.width / 32
    (q.flow, (List.range (bw * (pad64 f.height / 32))).filter fun b =>
      let cx := 32 * (b % bw) + 16 + q.x
      let cy := 32 * (b / bw) + 16 + q.y
      decide (g.x0 + x * g.size + q.ox ≤ cx ∧ cx < g.x0 + (x + 1) * g.size + q.ox ∧
        g.y0 + r * g.size + q.oy ≤ cy ∧ cy < g.y0 + (r + 1) * g.size + q.oy))

/-- X_I and X_P of a CTU row from the analysis of a slot. -/
def State.rowXs (s : State) (g : AuCfg) (idr : Bool) (sweep : Option (Nat × Nat)) (n r : Nat) : Nat × Nat :=
  if g.canvas then
    (List.range g.cols).foldl (fun t x =>
      match s.canvasBlocks g x r with
      | none => t
      | some (f, bs) =>
        let a := s.anaOf f anaFuel n
        if idr then (t.1 + bs.foldl (fun n b => n + Tab.get 0 a.act b) 0, t.2)
        else (t.1, t.2 + bs.foldl (fun n b => n + min (Tab.get 0 a.cost b) (Tab.get 0 a.act b)) 0)) (0, 0)
  else
    let q := s.recAt g.source n
    rowComplexity (s.anaOf g.source anaFuel n) q.width q.height g idr sweep r

/-- The L1 block that holds the source point of the centre of CTU (x, r) of a member rectangle, with its flow (R66). -/
def State.centreBlock (s : State) (g : AuCfg) (x r : Nat) : Option (Nat × Nat) :=
  let cx := g.x0 + min (x * g.size + g.size / 2) (g.width - 1)
  let cy := g.y0 + min (r * g.size + g.size / 2) (g.height - 1)
  (s.regionOfPoint cx cy).map fun p =>
    let q := p.2
    (q.flow, (cy - q.y + q.oy) / 32 * (pad64 (s.flowRec q.flow).width / 32) + (cx - q.x + q.ox) / 32)

/-- Activity of CTU (x, r) in the frame of a slot (R66). -/
def State.ctuAct (s : State) (g : AuCfg) (n x r : Nat) : Nat :=
  if g.canvas then
    match s.canvasBlocks g x r with
    | some (f, b :: bs) =>
      let a := s.anaOf f anaFuel n
      ((b :: bs).foldl (fun n b => n + Tab.get 0 a.act b) 0) / (b :: bs).length
    | _ => match s.centreBlock g x r with
      | some (f, b) => Tab.get 0 (s.anaOf f anaFuel n).act b
      | none => 0
  else
    let q := s.recAt g.source n
    ctuActivity (s.anaOf g.source anaFuel n) q.width q.height g.width g.height g.size x r

/-- Sum of the CTU activities of a frame, and how many CTUs there are (R112, Table 9-2). -/
def State.actSum (s : State) (g : AuCfg) (n : Nat) : Nat × Nat :=
  (((List.range g.rows).flatMap fun y => (List.range g.cols).map fun x => s.ctuAct g n x y).sum, g.rows * g.cols)

/-- A_ref (R112). -/
def State.actRef (s : State) (g : AuCfg) (n : Nat) : Nat := (s.actSum g n).1 / (s.actSum g n).2

/-- X̂ of every row of an AU, from the slot that supplies its decisions (R113). -/
def State.predicted (s : State) (g : AuCfg) (idr : Bool) (sweep : Option (Nat × Nat)) (basis : Option Nat) :
    List (Nat × Nat) :=
  match basis with
  | none => List.replicate g.rows (0, 0)
  | some n => (List.range g.rows).map (s.rowXs g idr sweep n)

end Sys2Proof.Machine
end

