-- ==== Sys2Proof/Machine/Compose.lean ====
section
/-! DEFINITION. Compose.lean: the compositor: scaling, the colour matrix, Legend blending and the conversion to the
coded format, to the last bit (R144-R153). -/

namespace Sys2Proof.Machine

/-- A picture component as a function of column and row. -/
abbrev Plane := Int → Int → Int

/-- A picture in 4:2:2 at 10 bits, by component: 0 luma, 1 and 2 chroma at half the columns. -/
def Pic : Type := Nat → Int → Int → Int

/-- A picture from its three components. -/
def Pic.of (y cb cr : Plane) : Pic := fun k => if k = 0 then y else if k = 1 then cb else cr

/-- Its components. -/
def Pic.y (p : Pic) : Plane := p 0
def Pic.cb (p : Pic) : Plane := p 1
def Pic.cr (p : Pic) : Plane := p 2

/-- A 10-bit sample. -/
def clip10 (v : Int) : Int := clampI 0 1023 v

/-! ### The scaler (R149) -/

/-- A row of samples; a place outside the extent takes the nearest edge sample. -/
def edge (w : Nat) (f : Int → Int) (i : Int) : Int := f (clampI 0 ((w : Int) - 1) i)

/-- One 2:1 decimation; `cosited` is horizontal chroma. -/
def decimate (cosited : Bool) (w : Nat) (f : Int → Int) (j : Int) : Int :=
  let s := edge w f
  if cosited then (s (2 * j - 1) + 2 * s (2 * j) + s (2 * j + 1) + 2) / 4
  else (s (2 * j - 1) + 3 * s (2 * j) + 3 * s (2 * j + 1) + s (2 * j + 2) + 4) / 8

/-- Pre-decimation while the extent exceeds twice the destination's. -/
def predecimate (cosited : Bool) (wo : Nat) : Nat → Nat → (Int → Int) → Nat × (Int → Int)
  | 0, w, f => (w, f)
  | fuel + 1, w, f =>
    if 2 * wo < w then predecimate cosited wo fuel (cdiv w 2) (decimate cosited w f) else (w, f)

/-- A quotient rounded half away from zero. -/
def roundAway (num den : Int) : Int :=
  if 0 ≤ num then (2 * num + den) / (2 * den) else -((2 * (-num) + den) / (2 * den))

/-- The four filter coefficients at a phase of 64ths (Catmull-Rom), in order −1 to 2. -/
def taps (p : Int) : List Int :=
  let d : Int := 64 * 64 * 64
  let a := roundAway (128 * (-(p * p * p) + 2 * 64 * (p * p) - 64 * 64 * p)) d
  let c := roundAway (128 * (-3 * (p * p * p) + 4 * 64 * (p * p) + 64 * 64 * p)) d
  let e := roundAway (128 * ((p * p * p) - 64 * (p * p))) d
  [a, 256 - a - c - e, c, e]

/-- x_fix of output sample i. -/
def scalePos (cosited : Bool) (w wo : Nat) (i : Int) : Int :=
  if cosited then (i * w * 65536) / wo else ((2 * i + 1) * w * 65536) / (2 * wo) - 32768

/-- One output sample of one dimension. -/
def scale1 (cosited : Bool) (w0 wo : Nat) (f : Int → Int) (i : Int) : Int :=
  let pd := predecimate cosited wo 14 w0 f
  let x := scalePos cosited pd.1 wo i
  let ip := x / 65536
  let c := taps ((x / 1024) % 64)
  let s := edge pd.1 pd.2
  clip10 ((c.getD 0 0 * s (ip - 1) + c.getD 1 0 * s ip + c.getD 2 0 * s (ip + 1) + c.getD 3 0 * s (ip + 2) + 128) / 256)

/-- A plane scaled from a crop of w × h to wo × ho: the horizontal pass first. -/
def scale2 (cosited : Bool) (w h wo ho : Nat) (f : Plane) : Plane := fun x y =>
  scale1 false h ho (fun yy => scale1 cosited w wo (fun xx => f xx yy) x) y

/-- The source lines that output lines lo to hi of a plane of source extent h and destination extent ho read (R146). -/
def lineSpan (h ho : Nat) (lo hi : Int) : Int × Int :=
  let pd := predecimate false ho 14 h id
  let grow : Nat → Int × Int → Int × Int := fun _ p => (2 * p.1 - 1, 2 * p.2 + 2)
  let steps := (List.range 14).filter fun k => decide (2 * ho < cdiv h (2 ^ k))
  let base := (scalePos false pd.1 ho lo / 65536 - 1, scalePos false pd.1 ho hi / 65536 + 2)
  let r := steps.foldl (fun p k => grow k p) base
  (clampI 0 ((h : Int) - 1) r.1, clampI 0 ((h : Int) - 1) r.2)

/-- A picture scaled from a crop. -/
def Pic.scale (p : Pic) (w h wo ho : Nat) : Pic :=
  Pic.of (scale2 false w h wo ho p.y)
    (scale2 true (w / 2) h (wo / 2) ho p.cb)
    (scale2 true (w / 2) h (wo / 2) ho p.cr)

/-- A crop whose origin is (cx, cy). -/
def Pic.crop (p : Pic) (cx cy : Nat) : Pic :=
  Pic.of (fun x y => p.y (x + cx) (y + cy))
    (fun x y => p.cb (x + (cx / 2 : Nat)) (y + cy))
    (fun x y => p.cr (x + (cx / 2 : Nat)) (y + cy))

/-- The picture of a flow's assembled slot. -/
def flowPic (r : FlowRt) (m width : Nat) : Pic :=
  let at_ (x : Nat) (y : Int) : Int := ((r.lineData m y.toNat (2 * width)).getD x 0 : Nat)
  Pic.of (fun x y => at_ (2 * x.toNat + 1) y)
    (fun x y => at_ (4 * x.toNat) y)
    (fun x y => at_ (4 * x.toNat + 2) y)

/-- Black (R148). -/
def blackPic : Pic := Pic.of (fun _ _ => 64) (fun _ _ => 512) (fun _ _ => 512)

/-! ### The colour matrix (R150) -/

/-- Coefficients and offsets in force: presets of Table 7-1, or the custom ones. -/
def State.matrix (s : State) (c : Nat) : List Int :=
  match s.ch c 0xA 1 with
  | 0 => [1024, 0, 0, 0, 1024, 0, 0, 0, 1024, 64, 512, 512]
  | 1 => [1024, 0, 0, 0, 896, -8, 0, 13, 579, 64, 512, 512]
  | 2 => [1024, 0, 0, 0, 1171, 17, 0, -26, 1811, 64, 512, 512]
  | _ => (List.range 12).map fun i => s.obj (expert c 0xA) (i + 1)

/-- One row of the matrix on a sample. -/
def matrixRow (k : List Int) (r : Nat) (y cb cr : Int) : Int :=
  let c (j : Nat) : Int := k.getD (3 * r + j) 0
  clip10 ((c 0 * (y - 64) + c 1 * (cb - 512) + c 2 * (cr - 512) + 512) / 1024 + k.getD (9 + r) 0)

/-- The matrix on a picture; chroma is that of the luma pair's co-sited sample. -/
def Pic.colour (k : List Int) (p : Pic) : Pic :=
  Pic.of (fun x y => matrixRow k 0 (p.y x y) (p.cb (x / 2) y) (p.cr (x / 2) y))
    (fun x y => matrixRow k 1 (p.y (2 * x) y) (p.cb x y) (p.cr x y))
    (fun x y => matrixRow k 2 (p.y (2 * x) y) (p.cb x y) (p.cr x y))

/-- One picture over another inside a rectangle of luma samples (R144). -/
def Pic.over (top p : Pic) (dx dy dw dh : Nat) : Pic :=
  let inside (x y x0 w : Int) : Bool := decide (x0 ≤ x ∧ x < x0 + w ∧ (dy : Int) ≤ y ∧ y < dy + dh)
  Pic.of (fun x y => if inside x y dx dw then top.y (x - dx) (y - dy) else p.y x y)
    (fun x y => if inside x y (dx / 2 : Nat) (dw / 2 : Nat) then top.cb (x - (dx / 2 : Nat)) (y - dy) else p.cb x y)
    (fun x y => if inside x y (dx / 2 : Nat) (dw / 2 : Nat) then top.cr (x - (dx / 2 : Nat)) (y - dy) else p.cr x y)

/-! ### Legend layers (R151-R153) -/

/-- A Legend pixel: Y', Cb, Cr at 10 bits and alpha; outside the slot it is transparent (Table 7-2). -/
def State.legendPixel (s : State) (j : Nat) (u v : Int) : Int × Int × Int × Int :=
  let w := s.nat (0x6100 + j) 2
  let h := s.nat (0x6100 + j) 3
  if u < 0 ∨ v < 0 ∨ (w : Int) ≤ u ∨ (h : Int) ≤ v then (0, 512, 512, 0)
  else
    let i := v.toNat * w + u.toNat
    if s.nat (0x6100 + j) 4 = 0 then
      let b := s.bytesAt (0x6100 + j) 1 (4 * i) 4
      let f (k : Nat) : Int := ((b.getD k 0).toNat : Nat)
      (f 0 * 4, f 1 * 4, f 2 * 4, f 3)
    else
      let n := leNat (s.bytesAt (0x6100 + j) 1 (8 * i) 8)
      ((bits n 9 0 : Nat), (bits n 25 16 : Nat), (bits n 41 32 : Nat), (bits n 55 48 : Nat))

/-- (1 − α) of a blend, in 256ths (R153). -/
def blendKeep (alpha : Int) : Int := 256 - (alpha + alpha / 128)

/-- A Legend slot blended at (lx, ly) (R153). -/
def State.blend (s : State) (j : Nat) (lx ly : Int) (p : Pic) : Pic :=
  let px (x y : Int) := s.legendPixel j (x - lx) (y - ly)
  let chroma (sel : Int × Int × Int × Int → Int) (x y : Int) : Int :=
    (sel (px (2 * x - 1) y) + 2 * sel (px (2 * x) y) + sel (px (2 * x + 1) y) + 2) / 4
  Pic.of (fun x y =>
      let q := px x y
      clip10 (q.1 + (blendKeep q.2.2.2 * p.y x y + 128) / 256))
    (fun x y =>
      clip10 (chroma (·.2.1) x y + (blendKeep (chroma (·.2.2.2) x y) * (p.cb x y - 512) + 128) / 256))
    (fun x y =>
      clip10 (chroma (·.2.2.1) x y + (blendKeep (chroma (·.2.2.2) x y) * (p.cr x y - 512) + 128) / 256))

/-! ### The stack (R144-R146) -/

/-- An Inset's object. -/
def State.insetObj (s : State) (c i k : Nat) : Nat := s.nat (basic c 8) (0x10 * i + k)

/-- The base layer of a canvas: each region's flow, unscaled, from its origin in the flow (R187). -/
def State.canvasBase (s : State) (a : Au) : Pic :=
  let pick (sel : RegionGeom → FlowRt → Nat → Int → Int → Int) (x y : Int) (x1 : Int) (blank : Int) : Int :=
    match s.regionOfPoint x1.toNat y.toNat with
    | none => blank
    | some (_, q) => match (s.flow q.flow).shown a.slot with
      | some m => sel q (s.flow q.flow) m x y
      | none => blank
  let pic (q : RegionGeom) (r : FlowRt) (m : Nat) : Pic :=
    (flowPic r m (s.recAt q.flow m).width).crop q.ox q.oy
  Pic.of (fun x y => pick (fun q r m x y => (pic q r m).y (x - q.x) (y - q.y)) x y x 64)
    (fun x y => pick (fun q r m x y => (pic q r m).cb (x - (q.x / 2 : Nat)) (y - q.y)) x y (2 * x) 512)
    (fun x y => pick (fun q r m x y => (pic q r m).cr (x - (q.x / 2 : Nat)) (y - q.y)) x y (2 * x) 512)

/-- The finished 4:2:2 picture of AU n: base, Insets 0 to 3, Legends 0 to 3. `s` holds the objects of slot n. -/
def State.stack (s : State) (c : Nat) (a : Au) : Pic :=
  let g := a.cfg
  let base := if g.canvas then s.canvasBase a else match (s.flow g.source).shown a.slot with
    | some m =>
      let src := s.recAt g.source m
      (flowPic (s.flow g.source) m src.width).scale src.width src.height g.width g.height
    | none => blackPic
  let k := s.matrix c
  let base := if s.ch c 0xA 2 = 1 then base.colour k else base
  let withInsets := (List.range 4).foldl (fun p i =>
    let o := s.insetObj c i
    let on := o 1 == 1 && o 5 != 0 && o 6 != 0 && o 9 != 0 && o 10 != 0
    if !on then p
    else
      let top := match (a.insetFrames[i]?).join with
        | some (f, m) => ((flowPic (s.flow f) m (s.recAt f m).width).crop (o 3) (o 4)).scale (o 5) (o 6) (o 9) (o 10)
        | none => blackPic
      let top := if o 0xB = 1 then top.colour k else top
      top.over p (o 7) (o 8) (o 9) (o 10)) base
  (List.range 4).foldl (fun p j =>
    match a.legends[j]? with
    | some (_, shown) =>
      if shown = 0xFFFF then p
      else s.blend shown (s.obj (basic c 9) (0x10 * j + 4)) (s.obj (basic c 9) (0x10 * j + 5)) p
    | none => p) withInsets

/-- A sample in the coded depth (R145). -/
def toDepth (depth : Nat) (v : Int) : Nat := if depth = 8 then (min ((v + 2) / 4) 255).toNat else v.toNat

/-- A chroma sample of a 4:2:0 picture from the 4:2:2 column; the edge line repeats (R145). `top` and `h` bound the rectangle
that the unit composes: a canvas member repeats its rectangle's edge line (DESIGN CHOICE, log 116). -/
def chroma420 (top h : Nat) (f : Plane) (x y : Int) : Int :=
  let s (k : Int) : Int := f x (clampI top ((top + h : Nat) - 1) k)
  (s (2 * y - 1) + 3 * s (2 * y) + 3 * s (2 * y + 1) + s (2 * y + 2) + 4) / 8

/-- The samples of CTU row r in the coded format: Y', then Cb, then Cr, each line by line; a canvas member codes its
rectangle. -/
def codedRow (g : AuCfg) (p : Pic) (r : Nat) : List Nat :=
  let y0 := g.y0 + r * g.size
  let y1 := g.y0 + min ((r + 1) * g.size) g.height
  let plane (f : Plane) (x0 w a b : Nat) : List Nat :=
    (List.range (b - a)).flatMap fun y => (List.range w).map fun x =>
      toDepth g.depth (f ((x0 + x : Nat) : Int) ((a + y : Nat) : Int))
  let luma := plane p.y g.x0 g.width y0 y1
  let cx := g.x0 / 2
  let cw := g.width / 2
  if g.chroma = 1 then luma ++ plane p.cb cx cw y0 y1 ++ plane p.cr cx cw y0 y1
  else luma ++ plane (chroma420 g.y0 g.height p.cb) cx cw (y0 / 2) (y1 / 2) ++ plane (chroma420 g.y0 g.height p.cr) cx cw (y0 / 2) (y1 / 2)

/-- First and last line of the stack that CTU row r reads: its own, and in 4:2:0 one more on either side for chroma (R145,
R146). -/
def AuCfg.stackLines (g : AuCfg) (r : Nat) : Nat × Nat :=
  let y0 := g.y0 + r * g.size
  let y1 := g.y0 + min ((r + 1) * g.size) g.height
  if g.chroma = 1 then (y0, y1 - 1) else (max g.y0 (y0 - 1), min (g.y0 + g.height - 1) y1)

/-- Every line that lines lo to hi of the stack read of a layer with a crop of h lines from crop line cy and a destination of ho
lines at line dy has closed (R146); a layer outside them is not read. -/
def State.layerReadable (s : State) (f m : Nat) (cy h dy ho lo hi : Nat) : Bool :=
  let x := (s.flow f).frame m
  let a := clampI 0 ((ho : Int) - 1) ((lo : Int) - dy)
  let b := clampI 0 ((ho : Int) - 1) ((hi : Int) - dy)
  let sp := lineSpan h ho a b
  decide (hi < dy) || decide (dy + ho ≤ lo) ||
  ((List.range (sp.2 - sp.1 + 1).toNat).all fun i =>
    match x.line (cy + sp.1.toNat + i) with | .closed _ _ => true | .collecting _ => false)

/-- Every source line that band r of an AU reads has closed (R146); `v` holds the objects of the slot. -/
def State.linesClosed (v : State) (c : Nat) (a : Au) (r : Nat) : Bool :=
  let g := a.cfg
  let y := g.stackLines r
  (if g.canvas then g.regions.all fun i =>
      let q := v.regionAt i
      (match (v.flow q.flow).shown a.slot with
        | some m => v.layerReadable q.flow m q.oy q.h q.y q.h y.1 y.2
        | none => decide (y.2 < q.y) || decide (q.y + q.h ≤ y.1) || ((v.flow q.flow).frame a.slot).gift = .absent)
   else match (v.flow g.source).shown a.slot with
   | some m => v.layerReadable g.source m 0 (v.recAt g.source m).height 0 g.height y.1 y.2
   | none => false) &&
  (List.range 4).all fun i =>
    let o := v.insetObj c i
    match (a.insetFrames[i]?).join with
    | some (f, m) => v.layerReadable f m (o 4) (o 6) (o 8) (o 10) y.1 y.2
    | none => true

/-- Whether band r of an AU can be composed (R146): presence of every Inset's frame is decided too. -/
def State.composable (v : State) (c : Nat) (a : Au) (r : Nat) : Bool := a.insetWait == 0 && v.linesClosed c a r

/-- The effect of COMPOSITION_BAND: the layer stack of one CTU row is built into the AU's picture buffer (R145, R146). -/
def State.composeBand (s : State) (c n r : Nat) : State :=
  match (s.chan c).au? n with
  | none => s
  | some a =>
    let v := s.atSlot a.cfg.rate n
    if a.skip || a.replaced || decide (a.cfg.rows ≤ r) || (Tab.find? a.bands r).isSome || !v.composable c a r then s
    else s.onAu c n fun a => { a with bands := Tab.put a.bands r (codedRow a.cfg (v.stack c a) r) }

end Sys2Proof.Machine
end

