-- ==== Sys2Proof/Machine/Legend.lean ====
section
/-! DEFINITION. Legend.lean: Legend flips, flip groups, and when a slot is busy (R154-R157). -/

namespace Sys2Proof.Machine

/-- A Legend layer's object of channel c (R158). -/
def State.layerObj (s : State) (c j k : Nat) : Nat := s.nat (basic c 9) (0x10 * j + k)

/-- A layer is ready: (fence of its requested slot − required fence) mod 2³² lies below 2³¹ (R155). -/
def State.layerReady (s : State) (c j : Nat) : Bool :=
  let fence := s.nat (0x6100 + s.layerObj c j 2) 6
  decide ((fence + 0x100000000 - s.layerObj c j 3 % 0x100000000) % 0x100000000 < 0x80000000)

/-- A layer that has shown nothing. -/
def LayerRt.empty : LayerRt := ⟨none, [], none, none⟩

/-- The slot a layer showed before slot n, in the run that slot n belongs to: what the last evaluation before n left. -/
def ChanRt.shownBefore (r : ChanRt) (j n : Nat) : Option Nat :=
  match r.runs.find? (·.has n) with
  | none => none
  | some run =>
    match (r.evals.filter fun p => decide (run.first ≤ p.1 ∧ p.1 < n)).getLast? with
    | none => if run.first = r.firstSlot ∧ run.rate = r.rate then (r.layers[j]?).bind (·.shown) else none
    | some e => match e.2[j]? with
      | some (_, x) => if x = 0xFFFF then none else some x
      | none => none

/-- The members of a flip group that request something for slot n (R156): channel and layer. -/
def State.groupMembers (s : State) (rate n g : Nat) : List (Nat × Nat) :=
  (s.chans.filter fun p => p.2.inSlot n && p.2.rateAt n == rate).flatMap fun p =>
    (List.range 4).filterMap fun j =>
      if s.layerObj p.1 j 1 = 1 ∧ s.layerObj p.1 j 6 = g ∧ p.2.shownBefore j n ≠ some (s.layerObj p.1 j 2) then
        some (p.1, j) else none

/-- Outcome of a layer for slot n (R155-R157): 0 no request, 1 flipped, 2 not ready, 3 held by group; and the slot it
then shows, 0xFFFF for none. `s` holds the objects in force for slot n. -/
def State.layerOutcome (s : State) (c j rate n : Nat) : Nat × Nat :=
  let before := (s.chan c).shownBefore j n
  let req := s.layerObj c j 2
  let kept := before.getD 0xFFFF
  if s.layerObj c j 1 = 0 then (0, 0xFFFF)
  else if before = some req then (0, req)
  else if !s.layerReady c j then (2, kept)
  else
    let g := s.layerObj c j 6
    if g = 0 ∨ (s.groupMembers rate n g).all fun m => s.layerReady m.1 m.2 then (1, req) else (3, kept)

/-- Every channel of one rate has its four layers evaluated for slot n, once, from the state before any of them is
updated, so that the order in which channels decide does not matter (R156). -/
def State.evalLegends (s : State) (rate n : Nat) : State :=
  let v := s.atSlot rate n
  let todo := (s.chans.filter fun p => p.2.inSlot n && p.2.rateAt n == rate && (Tab.find? p.2.evals n).isNone).map (·.1)
  todo.foldl (fun acc c => acc.onChan c fun r =>
    { r with evals := Tab.put r.evals n ((List.range 4).map fun j => v.layerOutcome c j rate n) }) s

/-- The request of a layer in force for slot n, by the slot it came into force with. -/
def LayerRt.requestAt (l : LayerRt) (n : Nat) : Nat := (l.requests.find? fun k => decide (k ≤ n)).getD 0

/-- Counters, events and the slot shown of one layer at a channel's own decision (R157); `v` holds the objects in force for
slot n. -/
def State.applyLayer (s v : State) (c n j : Nat) (out : Nat × Nat) : State :=
  let idx := basic c 9
  let l := ((s.chan c).layers[j]?).getD LayerRt.empty
  let req := l.requestAt n
  let s := s.setObj idx (0x10 * j + 7) out.2
  let l := { l with shown := if out.2 = 0xFFFF then none else some out.2 }
  let put (s : State) (l : LayerRt) : State := s.onChan c fun r => { r with layers := r.layers.set j l }
  if out.1 = 2 then
    let s := s.count idx (0x10 * j + 8)
    if l.notReadyFor = some req then put s l
    else (put s { l with notReadyFor := some req }).raise ⟨0x0107, c, n % 0x100000000, j, v.layerObj c j 2, 0⟩
  else if out.1 = 3 then
    let s := s.count idx (0x10 * j + 9)
    if l.heldFor = some req then put s l
    else (put s { l with heldFor := some req }).raise ⟨0x0108, c, n % 0x100000000, j, v.layerObj c j 6, 0⟩
  else put s l

/-- A channel's four layers at its decision of slot n. -/
def State.applyLegends (s v : State) (c n : Nat) : State :=
  let outs := Tab.get [] (s.chan c).evals n
  let s := (List.range 4).foldl (fun s j => s.applyLayer v c n j (outs.getD j (0, 0xFFFF))) s
  s.onChan c fun r => { r with evals := r.evals.filter fun p => decide (n ≤ p.1 + 16) }

/-- A commit changes what the layers of a running channel request from slot n on (R157). -/
def State.noteRequests (before s : State) (c n : Nat) : State :=
  let new (j : Nat) : Bool := before.layerObj c j 2 != s.layerObj c j 2 || before.layerObj c j 3 != s.layerObj c j 3
  let note (j : Nat) (l : LayerRt) : LayerRt := if new j then { l with requests := n :: l.requests.take 7 } else l
  s.onChan c fun r => { r with layers := r.layers.mapIdx note }

/-- A channel still has AUs to decide. -/
def ChanRt.deciding (r : ChanRt) : Bool :=
  r.running && (match r.stopSlot with | some k => decide (max r.nextSlot r.firstSlot < k) | none => true)

/-- A slot is busy: a layer shows it at the next decision too, or an AU that shows it is not yet composed to its last band
(R154). -/
def State.slotBusy (s : State) (j : Nat) : Bool :=
  s.chans.any fun p => p.2.running &&
    ((p.2.deciding && p.2.layers.any fun l => l.shown == some j) ||
     (p.2.aus.any fun a => !a.replaced && !a.skip && decide (a.bands.length < a.cfg.rows) &&
        a.legends.any fun x => x.2 == j))

end Sys2Proof.Machine
end

