-- ==== Sys2Proof/Machine/Picture.lean ====
section
/-! DEFINITION. Picture.lean: the picture-level decision: refresh, lists, marks, Qb, flips, and the AU it opens
(R18-R25, R39-R45, R89-R103, R114, R132, R148, R155). -/

namespace Sys2Proof.Machine

/-- A row nothing has touched. -/
def RowRt.empty : RowRt := ⟨.waiting, false, 0, 0, 0, false, 0, 0, 0, [], [], false⟩

/-- A row of an AU changes. -/
def Au.onRow (a : Au) (r : Nat) (f : RowRt → RowRt) : Au := { a with rows := a.rows.modify r f }

/-- A row of an AU. -/
def Au.row (a : Au) (r : Nat) : RowRt := (a.rows[r]?).getD RowRt.empty

/-- Accepted Frame writes of a channel take effect at its picture-level decision (R377). -/
def State.applyHeld (s : State) (c : Nat) : State :=
  let mine := s.commit.held.filter fun p =>
    let p' := place (keyIdx p.1) (keySub p.1)
    (decide (p'.base ≥ 0x3000 ∧ p'.base < 0x6000) && p'.inst == c) || keyIdx p.1 == 0x2200
  let s := mine.foldl (fun s p => s.setObj (keyIdx p.1) (keySub p.1) p.2) s
  { s with commit := { s.commit with held := s.commit.held.filter fun p => !(mine.any fun q => q.1 == p.1) } }

/-- The Survey value at a decision (R372): the newest change written at least 1 ms before comes into force. -/
def State.surveyAtDecision (s : State) : State :=
  let due := s.survey.changes.filter fun x => decide (msT 1 + x.1 ≤ s.now)
  match due.getLast? with
  | none => s
  | some x =>
    { s with survey := { value := x.2, changes := s.survey.changes.filter fun y => !(decide (msT 1 + y.1 ≤ s.now)) } }

/-- The slot whose analysis supplies AU n's picture-level decision (R18, R67). -/
def basisSlot (d n : Nat) : Nat := if d = 2 then n - 1 else n

/-- An Inset is on (R147). -/
def State.insetLive (s : State) (c i : Nat) : Bool :=
  s.nat (basic c 8) (0x10 * i + 1) == 1 && [5, 6, 9, 10].all fun k => s.nat (basic c 8) (0x10 * i + k) != 0

/-- Insets that are on and whose flow has not decided its presence for slot n, as a mask; `v` holds the objects of the
slot. -/
def State.insetsOpen (s v : State) (c n : Nat) : Nat :=
  ((List.range 4).filter fun i => v.insetLive c i &&
    (let f := v.nat (basic c 8) (0x10 * i + 2)
     (s.flowRec f).on && decide (((s.flow f).frame n).gift = .undecided))).foldl (fun m i => m + 2 ^ i) 0

/-- The slot that a channel decides next: of its present run, or the first of the run that follows (R488). -/
def ChanRt.upcoming (r : ChanRt) : Nat :=
  if r.deciding then max r.nextSlot r.firstSlot else match r.later with
    | x :: _ => x.first
    | [] => r.nextSlot

/-- The AUs of the present run stand far enough for AU n (R89, R120): AU n − D is complete, AU n − 2 has fully settled. -/
def ChanRt.clearFor (r : ChanRt) (d n : Nat) : Bool :=
  r.aus.all fun a => !r.mine a ||
    ((decide (n < a.slot + d) || a.complete.isSome) && (decide (n < a.slot + 2) || a.modelled))

/-- What must hold before AU n is decided (R18, R19, R89, R120, R148, R222): presence of the source's frame and of the Insets'
frames is decided, AU n − D is complete, AU n − 2 has fully settled, and the analysis that the decision draws on has
settled: of frame n − 1 at D = 2, of frame n at D of 3 or 4. -/
def State.decisionReady (s : State) (c n : Nat) : Bool :=
  let r := s.chan c
  let v := s.forSlot c n
  let g := v.auCfg c
  r.inSlot n && decide (((s.flow g.source).frame n).gift ≠ .undecided) && s.insetsOpen v c n == 0 &&
  (if r.deciding then r.clearFor g.d n else true) && s.anaSettled g.source (basisSlot g.d n + 1)

/-- Key of a position or region at a slot. -/
def posKey (n q : Nat) : Nat := n * 64 + q

/-- Members not lost whose frame report of slot n is missing, as a mask (R191). -/
def State.absentReports (s : State) (n : Nat) : Nat :=
  ((List.range (s.nat 0x2300 4)).filter fun q =>
    !s.casc.lost.testBit q && (Tab.find? s.casc.reports (posKey n q)).isNone).foldl (fun m q => m + 2 ^ q) 0

/-- The frame reports that the canvas decision of AU n draws on are held, or the report close has passed (R191). -/
def State.reportsIn (s : State) (d n : Nat) : Bool :=
  s.absentReports (basisSlot d n) == 0 || (Tab.find? s.casc.closed n).isSome

/-- What a canvas master decides from, in place of its own source's analysis (R191): scene cut, the canvas rows' sums of A_b
and of min(S_F, A_b), the guard reserve of all members in an IDR and in an inter picture, and A_ref. -/
structure CanvasIn where
  cut     : Bool
  xs      : List (Nat × Nat)
  reserve : Nat × Nat
  aRef    : Nat
  deriving DecidableEq, Repr

/-- The refresh causes that fall on AU n, whether they order an IDR picture in either mode, and whether one of them is a pulled
refresh not yet counted (R41, R45, R91, R100, R132). -/
def State.refreshCauses (s : State) (c n : Nat) (first : Bool) (cv : Option CanvasIn) : Nat × Bool × Bool :=
  let r := s.chan c
  let g := s.auCfg c
  let p := s.ch c 2 2
  let scheduled := decide (0 < p ∧ n % p = 0)
  let cut := s.ch c 2 4 == 1 && (match cv with | some x => x.cut | none => (s.anaOf g.source anaFuel (basisSlot g.d n)).cut)
  let orders := r.orders.filter fun o => decide (o.1 ≤ n)
  let forced := orders.foldl (fun m o => m ||| o.2.1) 0
  let pull := r.poisoned && s.chX c 6 2 == 1 && !first
  let m := r.moved.getD ⟨0, false, false⟩
  (b2n scheduled ||| (2 * b2n cut) ||| forced ||| (8 * b2n pull) ||| (16 * b2n first) ||| m.cause,
   first || orders.any (fun o => o.2.2) || m.idr || ((scheduled || bit m.cause 0) && decide (2147418112 ≤ r.nextPoc)),
   pull || m.owed)

/-- The signature of the SEI objects whose change is announced in its target AU (Table 6-4). -/
def State.seiObjs (s : State) (c : Nat) : List Int := (List.range 12).map fun i => s.obj (expert c 9) (i + 1)

/-- Which Insets have a picture at slot n: per Inset the flow and the slot whose assembly it shows, and the absence mask
(R148). An absent one keeps the frame it showed for slot n − 1. `v` holds the objects of the slot. -/
def State.insetFrames (s v : State) (c n : Nat) : List (Option (Nat × Nat)) × Nat :=
  (List.range 4).foldl (fun acc i =>
    if !v.insetLive c i then (acc.1 ++ [none], acc.2)
    else
      let f := v.nat (basic c 8) (0x10 * i + 2)
      match (s.flow f).shown n with
      | some m => (acc.1 ++ [some (f, m)], acc.2)
      | none => (acc.1 ++ [((s.chan c).insets[i]?).join], acc.2 + 2 ^ i)) ([], 0)

/-- Of an absence mask, the Insets that are not waited for. -/
def settledMask (gone wait_ : Nat) : Nat :=
  ((List.range 4).filter fun i => bit gone i && !bit wait_ i).foldl (fun m i => m + 2 ^ i) 0

/-- Insets shown by an earlier frame are counted (R148). -/
def State.countInsets (s : State) (c mask : Nat) : State :=
  (List.range 4).foldl (fun s i => if bit mask i then s.count (basic c 8) (0x10 * i + 0xC) else s) s

/-- Presence is decided for Insets that an AU waits for: they show that frame, or the one before. -/
def State.fillInsets (s : State) (c : Nat) : State :=
  (s.chan c).aus.foldl (fun s a =>
    if a.insetWait = 0 then s
    else
      let v := s.atSlot a.cfg.rate a.slot
      let left := s.insetsOpen v c a.slot
      let now := (List.range 4).filter fun i => bit a.insetWait i && !bit left i
      let ins := s.insetFrames v c a.slot
      let put (l : List (Option (Nat × Nat))) : List (Option (Nat × Nat)) :=
        now.foldl (fun l i => l.set i ((ins.1[i]?).join)) l
      let gone := (now.filter fun i => bit ins.2 i).foldl (fun m i => m + 2 ^ i) 0
      let s := s.onChan c fun r => { r with insets := put r.insets }
      (s.onAu c a.slot fun a =>
        { a with insetFrames := put a.insetFrames, insetWait := left, insetAbsent := a.insetAbsent + gone }).countInsets c gone) s

/-- An AU of slot n of which nothing is decided but its configuration. -/
def Au.blank (g : AuCfg) (n : Nat) : Au :=
  { slot := n, poc := 0, cfg := g, skip := false, idr := false, sweep := none, cause := 0, list0 := [], barred := [], held := [], marks := []
    buf := none, qb := 0, raised := false, alphaI := 0, alphaP := 0, m := 0, aRef := 0, lostMask := 0, basis := none
    paramSets := false, bpDelay := 0, survey := 0, epoch := 0, legends := [], insetAbsent := 0, insetFrames := []
    insetWait := 0, seiChange := 0, bands := [], rows := List.replicate g.rows RowRt.empty, repl := none, replaced := false
    settled := false, modelled := false, complete := none, data := [], check := 0, sliceBits := 0, gate := none
    gated := false, late := false, pinned := 0, packetised := false }

/-- Sweep state after a decision: the next picture's index, G and the POC of picture 0 (R43). -/
def nextSweep (i g poc0 : Nat) : Option (Nat × Nat × Nat) := if i + 1 < g then some (i + 1, g, poc0) else none

/-- A new entry of the mark table for AU n. -/
def newEntry (poc slot : Nat) (anchor : Bool) (buf : Option Nat) (recon : Nat) : PicEntry :=
  ⟨poc, slot, .shortTerm, anchor, buf, false, 0, recon⟩

/-- An entry shares the buffer of list0 index 0 (R96): one that shares resolves to the same root. -/
def PicEntry.sharing (e root : PicEntry) : PicEntry :=
  { e with buf := root.buf, shared := true, rootPoc := if root.shared then root.rootPoc else root.poc
           recon := root.recon }

/-- The root that a skip picture shares: list0 index 0 (R96). -/
def ChanRt.rootBuf (list0 : List PicEntry) : Option Nat := (list0.head?).bind (·.buf)

/-- The objects that report an AU's decision (R112, R124); 0x5008:08 and :09 show the α values that the latest decision read
(DESIGN CHOICE, log 113). -/
def State.reportDecision (s : State) (c : Nat) (a : Au) (m reserve : Nat) : State :=
  let s := s.setObj (basic c 6) 4 m
  let s := s.setObj (basic c 6) 5 reserve
  let s := s.setObj (basic c 6) 0xB a.qb
  let s := s.setObj (expert c 8) 8 a.alphaI
  let s := s.setObj (expert c 8) 9 a.alphaP
  if a.raised then s.count (basic c 6) 0xC else s

/-- M and the α values that AU n's decision reads: those after AU n − 2 has settled (R121). -/
def ChanRt.alphaFor (r : ChanRt) (n : Nat) : Nat × Nat :=
  match (r.alphas.filter fun p => decide (p.1 + 2 ≤ n)).getLast? with
  | some p => p.2
  | none => r.alpha0

/-- A run that a later commit ordered begins (R40, R488): what the run before still has in flight keeps its buffers. -/
def ChanRt.begin_ (r : ChanRt) (x : RunSpec) (b : Nat) (alpha0 : Nat × Nat) : ChanRt :=
  { ChanRt.empty with
    running := true, firstSlot := x.first, rate := x.rate, stopSlot := x.stop, orders := x.orders, nextSlot := x.first
    later := r.later.drop 1, alpha0 := alpha0, bufs := r.bufs ++ List.replicate (b - r.bufs.length) PoolBuf.empty
    layers := List.replicate 4 LayerRt.empty, evals := r.evals, aus := r.aus }

/-- The channel's next run begins where slot n is its first and the run before has decided its last AU. -/
def State.beginRun (s : State) (c n : Nat) : State :=
  let r := s.chan c
  match r.later with
  | [] => s
  | x :: _ =>
    if r.deciding ∨ x.first ≠ n then s
    else
      let v := s.atSlot x.rate n
      let al := (v.chX c 8 6, v.chX c 8 7)
      let s := s.setChan c (r.begin_ x (poolCount (v.ch c 1 1) (v.chX c 6 1)) al)
      (s.setObj (expert c 8) 8 al.1).setObj (expert c 8) 9 al.2

/-- The unit has the standby role for the AU of slot n: the role in force, or, below the slot of a swap, the one before it
(R167, R177). -/
def State.standbyAt (s : State) (rate n : Nat) : Bool :=
  s.nat 0x2200 1 == 1 && (match s.pair.swapped with
    | some (t, was) => if n < slotFrom rate t then was else s.nat 0x2200 3 == 1
    | none => s.nat 0x2200 3 == 1)

/-- The whole picture-level decision of AU n, its conditions met: `v` holds the objects in force for slot n. What the
pair and the cascade add to it they add afterwards. A skip AU before any normal AU has no Qb_prev: its slice QP is Qq, and the
AU after it is decided as the first one (DESIGN CHOICE, log 114). -/
def State.decide_ (s : State) (c n : Nat) (cv : Option CanvasIn) : State :=
  let v := s.forSlot c n
  let g := v.auCfg c
  let s := s.onChan c fun r => r.spread (r.aus.length + 1)
  let r := s.chan c
  let first := r.qbPrev.isNone && r.nextPoc == 0 && n == r.firstSlot
  let skip := cv.isNone && decide (((s.flow g.source).frame n).gift = .absent)
  let gdr := v.ch c 2 1 == 1
  let causes := v.refreshCauses c n first cv
  let wst := v.ch c 2 5 - v.ch c 5 1
  let l := v.ch c 5 1
  -- a mark load named for AU n comes first (R92, R103)
  let load := r.load.filter fun x => x.slot == n
  let failed := load.bind r.loadFails
  let s := ((load.map (·.entries)).getD []).foldl (fun s x =>
    match r.marks.find? fun e => e.poc == x.1 with
    | some e => s.checkValue 2 c e.slot x.2.2.2 (r.reconOf e)
    | none => s) s
  let base := match load, failed with
    | some x, none => r.loaded x
    | _, _ => r.marks
  let pin := r.pins.find? fun o => o.target == n
  -- kind of picture
  let due := causes.1 != 0
  let idrDue := !skip && (causes.2.1 || (due && !gdr))
  let starts := !skip && !idrDue && due && gdr
  let gLen := v.ch c 2 3
  let cont := if skip || idrDue || starts || !gdr then none else r.sweep
  let sweepNow := if starts then some (0, gLen, r.nextPoc) else cont
  let recovery := match sweepNow with | some (i, gl, p0) => if i + 1 = gl then some p0 else none | none => none
  let res := r.decideMarks base idrDue recovery wst l pin
  let idr := idrDue || res.empty
  -- bit 7 of an order only makes the AU a refresh point of the channel's kind (R171)
  let cause := if skip && !idr then 0 else (causes.1 ||| (if res.empty then 16 else 0)) % 128
  let poc := if idr then 0 else r.nextPoc
  let sweep := if idr then none else sweepNow
  let s := if failed.isSome then s.raise ⟨0x0105, c, n % 0x100000000, failed.getD 0, 0, 0⟩ else s
  let s := if res.pinFail.isSome then s.raise ⟨0x0104, c, n % 0x100000000, res.pinFail.getD 0, 0, 0⟩ else s
  let s := s.count (basic c 5) 3 res.removed
  let s := if 0 < res.removed ∧ res.list0.length < v.ch c 2 5 ∧ ¬idrDue then s.count (basic c 5) 5 else s
  let pulled := !first && !(skip && !idr) && (causes.2.2 || res.empty)
  let s := if pulled then s.count (basic c 5) 4 else s
  -- rate control (R114)
  let basis := if cv.isSome then some (basisSlot g.d n) else s.lastAnalysed g.source (basisSlot g.d n)
  let al := r.alphaFor n
  let canvasRows := cdiv g.ch g.size
  let m := auCeiling g.cap g.rate g.u canvasRows (if cv.isSome then v.gratRegions else 1)
  let bI := guardI g.codec g.ctu g.chroma
  let bP := guardP g.codec g.ctu g.chroma
  let gRow := guardRow g.cols (if idr then bI else bP)
  let sw := sweep.map fun x => (x.1, x.2.1)
  let qq := qualityQp g.qt (v.obj (expert c 8) 4) idr (qMax g.codec)
  let qb := if skip then (r.qbPrev.getD qq, false)
    else match cv with
      | some x => pictureQp qq r.qbPrev (v.chX c 8 5) (qMax g.codec) m 1
          (if idr then x.reserve.1 else x.reserve.2) al.1 al.2
          (x.xs.map fun p => if idr then (p.1, 0) else (0, p.2))
      | none =>
        pictureQp qq r.qbPrev (v.chX c 8 5) (qMax g.codec) m g.rows gRow al.1 al.2 (s.predicted g idr sw basis)
  -- the buffer and the entry (R90, R92, R96)
  let r1 := { r with marks := res.marks }
  let buf := if skip then none else r1.pick
  let bufs := match buf with
    | some b => r.bufs.set b { PoolBuf.empty with intra := idr, slot := n }
    | none => r.bufs
  let anchor := idr || recovery.isSome
  let entry := match skip, res.list0 with
    | true, h :: _ => (newEntry poc n anchor none 0).sharing h
    | true, [] => newEntry poc n anchor none (greyRecon c n g)
    | false, _ => newEntry poc n anchor buf 0
  let marks := orderMarks (ageMarks wst l (entry :: res.marks))
  let ins := s.insetFrames v c n
  -- a canvas decision waits on no presence decision; its own regions' Insets wait after it (log 120)
  let open_ := if cv.isSome then s.insetsOpen v c n else 0
  let gone := settledMask ins.2 open_
  let sei := v.seiObjs c
  let au : Au :=
    { Au.blank g n with
      poc := poc, skip := skip, idr := idr, sweep := sw, cause := cause, list0 := res.list0, held := res.held, marks := marks
      buf := buf, qb := qb.1, raised := qb.2, alphaI := al.1, alphaP := al.2, m := m, aRef := (cv.map (·.aRef)).getD 0
      basis := basis, bpDelay := n - r.bps.headD n
      paramSets := idr || sw.any (fun x => x.1 == 0) || v.ch c 7 1 == 1
      survey := v.survey.value, epoch := v.nat 0x2F00 7, insetAbsent := gone, insetFrames := ins.1, insetWait := open_
      seiChange := if r.seiSeen = [] then 0 else b2n (r.seiSeen.take 10 != sei.take 10) + 2 * b2n (r.seiSeen.drop 10 != sei.drop 10)
      modelled := skip
      gated := s.standbyAt g.rate n
      pinned := if idr then 0
        else match pin with | some o => (if o.poc = none then 2 else if res.pinFail = none then 1 else 0) | none => 0 }
  let s := s.setChan c { r with
    nextSlot := n + 1, nextPoc := poc + 1, marks := marks, bufs := bufs, poisoned := false
    qbPrev := if skip then r.qbPrev else some qb.1
    sweep := match sweep with | some (i, gl, p0) => nextSweep i gl p0 | none => none
    moved := if skip && !idr then
        (let m0 := causes.1 % 128 ||| (if r.sweep.isSome && gdr then 4 else 0)
         if m0 = 0 ∧ !causes.2.1 then none else some ⟨m0, causes.2.1, causes.2.2⟩)
      else none
    orders := r.orders.filter fun o => decide (n < o.1)
    pins := if idr then [] else r.pins.filter fun o => o.target != n
    load := r.load.filter fun x => x.slot != n
    insets := ins.1, seiSeen := sei
    bps := if idr || sw.any (fun x => x.1 == 0) then n :: r.bps.take 3 else r.bps
    alphas := r.alphas.drop (r.alphas.length - 16), aus := r.aus.drop (r.aus.length - 16) ++ [au] }
  let s := s.countInsets c gone
  let s := s.evalLegends g.rate n
  let s := s.applyLegends v c n
  let s := s.onAu c n fun a => { a with legends := Tab.get [] (s.chan c).evals n }
  s.reportDecision c au m (g.rows * max (guardRow g.cols bI) (guardRow g.cols bP))

/-- The instant before which AU n is not decided: E(n − D) (R89). -/
def State.decisionAt (s : State) (c n : Nat) : Tick := instantT ((s.chan c).rateAt n) n 0 1 (-200000)

/-- AU n is decided: accepted Frame writes and Survey changes first (R372, R377), and a run that begins with it. -/
def State.decideAu (s : State) (c n : Nat) (cv : Option CanvasIn) : State :=
  (((s.applyHeld c).surveyAtDecision).beginRun c n).decide_ c n cv

end Sys2Proof.Machine
end

