-- ==== Sys2Proof/Machine/Search.lean ====
section
/-! DEFINITION. Search.lean: the motion search: the reference samples and the positions it may read, the candidate list,
integer and sub-sample refinement (R44, R66, R68-R76, R198). -/

namespace Sys2Proof.Machine

/-! ### What a search reads -/

/-- Sample (x, y) of the luma plane of a picture held as CTU rows; a place outside takes the nearest edge sample. -/
def lumaAt (g : AuCfg) (rows : Nat → List Nat) (x y : Int) : Nat :=
  let cx := (clampI 0 ((g.width : Int) - 1) x).toNat
  let cy := (clampI 0 ((g.height : Int) - 1) y).toNat
  (rows (cy / g.size)).getD (cy % g.size * g.width + cx) 0

/-- Luma sample (x, y) of a band segment that holds it (Table 9-2). -/
def segLuma (q : Segment) (x y : Nat) : Nat :=
  let stride := cdiv (cdiv (10 * q.w) 8) 4 * 4
  leNat (slice q.data ((y - q.y) * stride) stride) / 1024 ^ (x - q.x) % 1024

/-- A reference as the search sees it, in canvas samples. -/
structure RefView where
  /-- POC distance d. -/
  d    : Int
  luma : Int → Int → Nat
  /-- Right edge of its clean area where the AU stands in a sweep (R43); a picture before the sweep has none. -/
  clean : Nat
  /-- It may be read at all. -/
  on    : Bool

/-- Luma of a list-0 entry at a canvas sample, edges padded: its own rows, in a canvas the segments held, and the constant
source. -/
def State.refLuma (s : State) (c : Nat) (g : AuCfg) (e : PicEntry) (x y : Int) : Nat :=
  let cx := (clampI 0 ((g.cw : Int) - 1) x).toNat
  let cy := (clampI 0 ((g.ch : Int) - 1) y).toNat
  let own (rows : Nat → List Nat) : Nat := lumaAt g rows ((cx : Int) - g.x0) ((cy : Int) - g.y0)
  match e.buf.bind fun b => (s.chan c).bufs[b]? with
  | none => own (greyRow g)
  | some p =>
    if g.x0 ≤ cx ∧ cx < g.x0 + g.width ∧ g.y0 ≤ cy ∧ cy < g.y0 + g.height then own fun r => Tab.get [] p.rows r
    else match s.casc.segments.find? fun q => q.slot == p.slot && decide (q.x ≤ cx ∧ cx < q.x + q.w ∧ q.y ≤ cy ∧ cy < q.y + q.h) with
      | some q => segLuma q cx cy
      | none => own fun r => Tab.get [] p.rows r

/-- Right edge of the clean area of a picture of POC `poc`, in samples, when picture i of a sweep of G has POC `cur`. -/
def cleanEdge (g : AuCfg) (i gl cur poc : Nat) : Nat :=
  if poc + i < cur then 0 else min g.cw ((poc + i - cur + 1) * g.cols / gl * g.size)

/-- The active references of an AU. -/
def State.refViews (s : State) (c : Nat) (a : Au) : List RefView :=
  a.list0.zipIdx.map fun p =>
    let e := p.1
    { d := (a.poc : Int) - e.poc, luma := s.refLuma c a.cfg e, on := !a.barred.contains p.2
      clean := match a.sweep with
        | some (i, gl) => cleanEdge a.cfg i gl a.poc e.poc
        | none => a.cfg.cw }

/-- The rectangle that a row's references may be read in (R198): the margin rectangle, or the member rectangle of a clamped
row, widened by 64 samples where it meets a canvas edge; for a picture of its own, the picture so widened (R71). First and
last column, first and last line. -/
def readRect (g : AuCfg) (band : Nat) (clamped : Bool) : Int × Int × Int × Int :=
  let m : Nat := if g.canvas && !clamped then band else 0
  let lo (v : Nat) : Int := if v ≤ m then -64 else (v : Int) - m
  let hi (v top : Nat) : Int := if top ≤ v + m then (top : Int) + 63 else (v : Int) + m - 1
  (lo g.x0, hi (g.x0 + g.width) g.cw, lo g.y0, hi (g.y0 + g.height) g.ch)

/-- Columns that luma samples from x0 to x1 at sub-sample steps fx, with their chroma, lie left of a clean edge (R44): in VVC
at or left of it, in HEVC 4 luma samples or 2 chroma columns further. -/
def leftOfClean (codec edge : Nat) (lumaLast chromaLast : Int) : Bool :=
  let m : Int := if codec = 0 then 0 else 4
  decide (lumaLast + m < edge) && decide (chromaLast + m / 2 < (edge : Int) / 2)

/-- What the search of a row draws on. -/
structure SearchEnv where
  g     : AuCfg
  inter : Bool
  refs  : List RefView
  rect  : Int × Int × Int × Int
  /-- First CTU column that is not in the clean area of a sweep (R43), and first one right of its clean boundary. -/
  cleanCols : Nat
  boundary : Nat
  src   : Int → Int → Nat
  /-- Search results of the collocated picture, list-0 index 0, by search block, where it is inter-coded. -/
  col   : Nat → Nat → Option (Int × Int × Int)
  fieldV : Nat → Nat → Int × Int
  gv    : Int × Int

/-- A rectangle of samples of reference i may be read for a block at CTU column `cx`. -/
def SearchEnv.readable (v : SearchEnv) (cx i : Nat) (x0 x1 cr y0 y1 : Int) : Bool :=
  decide (v.rect.1 ≤ x0 ∧ x1 ≤ v.rect.2.1 ∧ v.rect.2.2.1 ≤ y0 ∧ y1 ≤ v.rect.2.2.2) &&
  ((v.refs[i]?).any fun f => f.on) &&
  (decide (v.cleanCols ≤ cx) || (match v.refs[i]? with
    | some f => decide (v.g.cw ≤ f.clean) || leftOfClean v.g.codec f.clean x1 cr
    | none => false))

/-- A vector in quarter samples is a valid position for the w × h block at (x, y) (R71). -/
def SearchEnv.valid (v : SearchEnv) (i : Nat) (x y w h : Nat) (q : Int × Int) : Bool :=
  let fx := q.1 % 4 != 0
  let fy := q.2 % 4 != 0
  let px := (x : Int) + q.1 / 4
  let py := (y : Int) + q.2 / 4
  decide (q.1.natAbs ≤ 4 * v.g.rh ∧ q.2.natAbs ≤ 4 * v.g.rv) &&
  v.readable ((x - v.g.x0) / v.g.size) i (px - if fx then 3 else 0) (px + w - 1 + if fx then 4 else 0)
    (((x : Int) * 4 + q.1) / 8 + w / 2 - 1 + if ((x : Int) * 4 + q.1) % 8 = 0 then 0 else 2)
    (py - if fy then 3 else 0) (py + h - 1 + if fy then 4 else 0)

/-! ### Costs (R73) -/

/-- λ_me, in 1/16 per bit. -/
def lambdaMe (codec depth qp : Nat) : Nat :=
  let l := [12, 14, 15, 17, 19, 22].getD (qp % 6) 0 * 2 ^ (qp / 6)
  if codec = 1 ∧ depth = 8 then l / 4 else l

/-- R(d) in bits. -/
def vectorBits (d : Int × Int) : Nat :=
  (2 * Nat.log2 (d.1.natAbs + 1) + 1) + (2 * Nat.log2 (d.2.natAbs + 1) + 1)

/-- Sum over a w × h rectangle. -/
def sumRect (w h : Nat) (f : Nat → Nat → Nat) : Nat :=
  (List.range h).foldl (fun t y => (List.range w).foldl (fun t x => t + f x y) t) 0

/-- Sign of a Hadamard kernel of 8. -/
def hadSign (a b : Nat) : Int := if popCount 3 (a &&& b) % 2 = 0 then 1 else -1

/-- SATD of a block whose sides are multiples of n: the sum of its n × n Hadamard transforms; n is 8 (R73), or 4 where a rule
names 4 × 4 blocks (R77, R81). -/
def satd (n w h : Nat) (diff : Nat → Nat → Int) : Nat :=
  sumRect (w / n) (h / n) fun bx by_ => sumRect n n fun u v =>
    ((List.range n).foldl (fun t y => (List.range n).foldl (fun t x =>
      t + hadSign u x * hadSign v y * diff (n * bx + x) (n * by_ + y)) t) (0 : Int)).natAbs

/-- A sample at a position in quarter samples. -/
def quarterSample (codec : Nat) (f : Int → Int → Nat) (qx qy : Int) : Nat :=
  let ix := qx / 4
  let iy := qy / 4
  if qx % 4 = 0 ∧ qy % 4 = 0 then f ix iy
  else Config.interpolate codec ((List.range 64).map fun k => f (ix + (k % 8 : Nat) - 3) (iy + (k / 8 : Nat) - 3))
    (qx % 4).toNat (qy % 4).toNat

/-! ### Candidates (R74) -/

/-- Scale(v, d_i, d_s). -/
def scaleVec (v d ds : Int) : Int :=
  (v * d).sign * (((v * d).natAbs + ds.natAbs / 2) / ds.natAbs : Nat)

/-- Key of a stored result: reference and search block. -/
def motionKey (i bx by_ : Nat) : Nat := 65536 * (65536 * i + by_) + bx

/-- A candidate of Table 3-3, in quarter samples, with its source distance; `none` where it is not available. -/
def SearchEnv.slot (v : SearchEnv) (m : Tab (Int × Int × Int)) (bx by_ i k : Nat) : Option ((Int × Int) × Option Int) :=
  let g := v.g
  let across := cdiv g.width 32
  let down := cdiv g.height 32
  let per := g.size / 32
  let own (x y j : Nat) : Option ((Int × Int) × Option Int) := (Tab.find? m (motionKey j x y)).map fun r => ((r.1, r.2.1), none)
  let from_ (x y : Nat) : Option ((Int × Int) × Option Int) := (v.col x y).map fun r => ((r.1, r.2.1), some r.2.2)
  let fld (x y : Nat) : Option ((Int × Int) × Option Int) :=
    let p := v.fieldV (32 * x + 16) (32 * y + 16)
    some ((4 * p.1, 4 * p.2), some 1)
  let fOn := g.objs.getD 24 0 != 0
  match k with
  | 1 => if bx = 0 then none else own (bx - 1) by_ i
  | 2 => if by_ = 0 then none else own bx (by_ - 1) i
  | 3 => if by_ = 0 ∨ across ≤ bx + 1 then none else own (bx + 1) (by_ - 1) i
  | 4 => if bx = 0 ∨ by_ = 0 then none else own (bx - 1) (by_ - 1) i
  | 5 => if bx = 0 ∨ down ≤ by_ + 1 ∨ bx % per ≠ 0 ∨ (by_ + 1) % per = 0 then none else own (bx - 1) (by_ + 1) i
  | 6 => from_ bx by_
  | 7 => if across ≤ bx + 1 ∨ down ≤ by_ + 1 then none else from_ (bx + 1) (by_ + 1)
  | 8 => if fOn then fld bx by_ else none
  | 9 => if fOn && decide (bx + 1 < across) then fld (bx + 1) by_ else none
  | 10 =>
    if !fOn then none
    else if (by_ + 1) % per ≠ 0 then (if by_ + 1 < down then fld bx (by_ + 1) else none)
    else if by_ = 0 then none else fld bx (by_ - 1)
  | 11 => if fOn && decide (0 < bx) then fld (bx - 1) by_ else none
  | 12 => if g.objs.getD 25 0 != 0 then some ((4 * v.gv.1, 4 * v.gv.2), some 1) else none
  | 13 => some ((0, 0), none)
  | k =>
    let j := k - 14
    if j < i then (Tab.find? m (motionKey j bx by_)).map fun r => ((r.1, r.2.1), some r.2.2) else none

/-- The rate predictor: the first available spatial candidate for the same reference, else zero (R73). -/
def SearchEnv.predictor (v : SearchEnv) (m : Tab (Int × Int × Int)) (bx by_ i : Nat) : Int × Int :=
  (([1, 2, 3, 4, 5].filterMap fun k => v.slot m bx by_ i k).head?.map (·.1)).getD (0, 0)

/-- The four steps on a candidate: an integer vector in samples, not yet checked for validity. -/
def SearchEnv.candidate (v : SearchEnv) (i : Nat) (x : (Int × Int) × Option Int) : Int × Int :=
  let d := (v.refs[i]?.map (·.d)).getD 1
  let sc (a : Int) : Int := match x.2 with | some ds => scaleVec a d ds | none => a
  let near (a : Int) : Int := (a + 2) / 4
  (clampI (-(v.g.rh : Int)) v.g.rh (near (sc x.1.1)), clampI (-(v.g.rv : Int)) v.g.rv (near (sc x.1.2)))

/-- The candidate list of a search block, duplicates dropped. -/
def SearchEnv.candidates (v : SearchEnv) (m : Tab (Int × Int × Int)) (bx by_ i : Nat) : List (Int × Int) :=
  (List.range 16).foldl (fun l k =>
    match v.slot m bx by_ i (k + 1) with
    | none => l
    | some x =>
      let p := v.candidate i x
      if v.valid i (v.g.x0 + 32 * bx) (v.g.y0 + 32 * by_) 32 32 (4 * p.1, 4 * p.2) && !l.contains p then l ++ [p] else l) []

/-! ### Refinement (R75, R76) -/

/-- The nine shapes of a search block: offset and size. -/
def searchShapes : List (Nat × Nat × Nat × Nat) :=
  [(0, 0, 32, 32), (0, 0, 32, 16), (0, 16, 32, 16), (0, 0, 16, 32), (16, 0, 16, 32),
   (0, 0, 16, 16), (16, 0, 16, 16), (0, 16, 16, 16), (16, 16, 16, 16)]

/-- The first of the least under a cost. -/
def leastOf {α : Type} (cost : α → Nat) : List α → Option α
  | [] => none
  | a :: l => some (l.foldl (fun b x => if cost x < cost b then x else b) a)

/-- Inserted by cost, after those that cost no more. -/
def insertBy {α : Type} (cost : α → Nat) (a : α) : List α → List α
  | [] => [a]
  | b :: l => if cost a < cost b then a :: b :: l else b :: insertBy cost a l

/-- Ordered by cost, ties in their first order. -/
def sortBy {α : Type} (cost : α → Nat) (l : List α) : List α := l.foldl (fun t a => insertBy cost a t) []

/-- SAD of a shape at an integer vector; the block reads the padded source. -/
def SearchEnv.sad (v : SearchEnv) (f : RefView) (x y w h : Nat) (p : Int × Int) : Nat :=
  sumRect w h fun i j =>
    (((v.src (x + i : Nat) (y + j : Nat) : Nat) : Int) - f.luma ((x + i : Nat) + p.1) ((y + j : Nat) + p.2)).natAbs

/-- SATD of a shape at a vector in quarter samples. -/
def SearchEnv.satdAt (v : SearchEnv) (f : RefView) (x y w h : Nat) (q : Int × Int) : Nat :=
  satd 8 w h fun i j =>
    ((v.src (x + i : Nat) (y + j : Nat) : Nat) : Int) -
      quarterSample v.g.codec f.luma (4 * (x + i : Nat) + q.1) (4 * (y + j : Nat) + q.2)

/-- The eight neighbours, clockwise from the upper left. -/
def eightNeighbours : List (Int × Int) := [(-1, -1), (0, -1), (1, -1), (1, 0), (1, 1), (0, 1), (-1, 1), (-1, 0)]

/-- One sub-sample stage at a step in quarter samples: the centre stays unless a neighbour is cheaper. -/
def refineStage (ok : Int × Int → Bool) (cost : Int × Int → Nat) (step : Int) (q : Int × Int) : Int × Int :=
  (leastOf cost (q :: ((eightNeighbours.map fun n => (q.1 + step * n.1, q.2 + step * n.2)).filter ok))).getD q

/-- The integer positions to evaluate: the windows of the centres in order, each position once (R75). -/
def SearchEnv.positions (v : SearchEnv) (centres : List (Int × Int)) (i x y : Nat) : List (Int × Int) :=
  let w := (v.g.objs.getD 23 8).toNat
  let all := centres.flatMap fun c => (window c.1 c.2 w w).filter fun p => v.valid i x y 32 32 (4 * p.1, 4 * p.2)
  all.foldl (fun l p => if l.contains p then l else l ++ [p]) []

/-- Search of block (bx, by) in reference i (R74-R76): the nine shapes' vectors in quarter samples, their integer vectors, and
those rounded to a multiple of 4 samples; empty where no position is valid. -/
def SearchEnv.block (v : SearchEnv) (lam : Nat) (m : Tab (Int × Int × Int)) (bx by_ i : Nat) : List (Int × Int) :=
  match v.refs[i]? with
  | none => []
  | some f =>
    let x := v.g.x0 + 32 * bx
    let y := v.g.y0 + 32 * by_
    let pred := v.predictor m bx by_ i
    let bitCost (q : Int × Int) : Nat := lam * vectorBits (q.1 - pred.1, q.2 - pred.2) / 16
    let intCost (h : Nat × Nat × Nat × Nat) (p : Int × Int) : Nat :=
      v.sad f (x + h.1) (y + h.2.1) h.2.2.1 h.2.2.2 p + bitCost (4 * p.1, 4 * p.2)
    let whole : Nat × Nat × Nat × Nat := (0, 0, 32, 32)
    let centres := (sortBy (intCost whole) (v.candidates m bx by_ i)).take (v.g.objs.getD 22 4).toNat
    let ps := v.positions centres i x y
    let best (h : Nat × Nat × Nat × Nat) : Option (Int × Int) :=
      leastOf (fun p => intCost h p * 0x10000 + (p.1.natAbs + p.2.natAbs)) ps
    let sub (h : Nat × Nat × Nat × Nat) (p : Int × Int) : Int × Int :=
      let cost (q : Int × Int) : Nat :=
        if q.1 % 4 = 0 ∧ q.2 % 4 = 0 then intCost h (q.1 / 4, q.2 / 4)
        else v.satdAt f (x + h.1) (y + h.2.1) h.2.2.1 h.2.2.2 q + bitCost q
      let ok := v.valid i (x + h.1) (y + h.2.1) h.2.2.1 h.2.2.2
      refineStage ok cost 1 (refineStage ok cost 2 (4 * p.1, 4 * p.2))
    match best whole with
    | none => []
    | some p0 =>
      let ints := searchShapes.map fun h => (best h).getD p0
      ((searchShapes.zip ints).map fun p => sub p.1 p.2) ++ (ints.map fun p => (4 * p.1, 4 * p.2)) ++
        ints.map fun p => ((4 * p.1 + 8) / 16 * 16, (4 * p.2 + 8) / 16 * 16)

/-- Search of a block in every reference in order, its results stored (R68, R69). -/
def SearchEnv.allRefs (v : SearchEnv) (lam bx by_ : Nat) (m : Tab (Int × Int × Int)) :
    List (List (Int × Int)) × Tab (Int × Int × Int) :=
  (List.range v.refs.length).foldl (fun t i =>
    let r := v.block lam t.2 bx by_ i
    (t.1 ++ [r], match r with
      | q :: _ => Tab.put t.2 (motionKey i bx by_) (q.1, q.2, (v.refs[i]?.map (·.d)).getD 0)
      | [] => t.2)) ([], m)

/-- Search blocks of a CTU, in raster order (R68). -/
def AuCfg.searchBlocks (g : AuCfg) (x r : Nat) : List (Nat × Nat) :=
  let per := g.size / 32
  ((List.range (per * per)).map fun k => (x * per + k % per, r * per + k / per)).filter fun b =>
    decide (32 * b.1 < g.width ∧ 32 * b.2 < g.height)

/-- Search of a CTU. -/
def SearchEnv.ctu (v : SearchEnv) (qp x r : Nat) (m : Tab (Int × Int × Int)) :
    List (List (Int × Int)) × Tab (Int × Int × Int) :=
  if v.inter then
    (v.g.searchBlocks x r).foldl (fun t b =>
      let u := v.allRefs (lambdaMe v.g.codec v.g.depth qp) b.1 b.2 t.2
      (t.1 ++ u.1, u.2)) ([], m)
  else ([], m)

/-- The field vector at a sample of an AU's rectangle, from the analysis of its own frame (R66, R67). -/
def State.fieldOf (s : State) (a : Au) (x y : Nat) : Int × Int :=
  let g := a.cfg
  if g.canvas then
    match s.regionOfPoint (min (g.x0 + x) (g.cw - 1)) (min (g.y0 + y) (g.ch - 1)) with
    | some p =>
      let f := s.recAt p.2.flow a.slot
      fieldAt (s.anaOf p.2.flow anaFuel a.slot) f.width f.height f.width f.height (x + g.x0 - p.2.x + p.2.ox)
        (y + g.y0 - p.2.y + p.2.oy)
    | none => (0, 0)
  else
    let f := s.recAt g.source a.slot
    fieldAt (s.anaOf g.source anaFuel a.slot) f.width f.height g.width g.height (min x (g.width - 1)) (min y (g.height - 1))

/-- The vectors of the L1 blocks of a member rectangle, for a slot. -/
def State.memberField (s : State) (g : AuCfg) (n : Nat) : List (Int × Int) :=
  (List.range g.rows).flatMap fun y => (List.range g.cols).flatMap fun x =>
    match s.canvasBlocks g x y with
    | none => []
    | some (f, bs) => bs.map fun b => Tab.get (0, 0) (s.anaOf f anaFuel n).field b

/-- G_v of an AU, from the slot that supplies its decision (R66, R67); a canvas member takes it over its own rectangle
(R191). -/
def State.globalOf (s : State) (a : Au) : Int × Int :=
  let g := a.cfg
  let n := basisSlot g.d a.slot
  if g.canvas then modeVec (s.memberField g n)
  else
    let q := s.recAt g.source n
    let v := (s.anaOf g.source anaFuel n).gv
    ((v.1 * g.width).tdiv q.width, (v.2 * g.height).tdiv q.height)

/-- The motion that a reference's search blocks read as (R69, R96): its own stored results; zero at the distance to its root
where it shares one; none where it is intra-coded or the constant source. -/
def State.storedMotion (s : State) (c : Nat) (e : PicEntry) (x y : Nat) : Option (Int × Int × Int) :=
  if e.shared then some (0, 0, (e.poc : Int) - e.rootPoc)
  else (e.buf.bind fun b => (s.chan c).bufs[b]?).bind fun p =>
    if p.intra then none else Tab.find? p.motion (motionKey 0 x y)

/-- The search environment of row r of an AU. -/
def State.searchEnv (s : State) (c : Nat) (a : Au) (r : Nat) : SearchEnv :=
  let g := a.cfg
  { g := g, inter := !a.idr && decide (a.barred.length < a.list0.length), refs := s.refViews c a
    rect := readRect g (s.nat 0x2310 3) (a.row r).clamped
    cleanCols := match a.sweep with | some (i, gl) => i * g.cols / gl | none => 0
    boundary := match a.sweep with | some (i, gl) => (i + 1) * g.cols / gl | none => 0
    src := fun x y => lumaAt g (fun k => Tab.get [] a.bands k) (x - g.x0) (y - g.y0)
    col := fun x y => (a.list0.head?).bind fun e => s.storedMotion c e x y
    fieldV := s.fieldOf a, gv := s.globalOf a }

end Sys2Proof.Machine
end

