-- ==== Sys2Proof/Machine/Modes.lean ====
section
/-! DEFINITION. Modes.lean: mode decision: the alternatives of a CU, the split tree of a CTU, affine search and the choice of
in-loop filters, residual coding, guard CTUs and the reconstruction (R77-R83, R107, R108). Prediction, transforms and syntax
are the codec's own and stand in Config. -/

namespace Sys2Proof.Machine

/-- λ_md in units of 1/256 (R78). -/
def lambdaMd (codec depth qp : Nat) : Nat :=
  let l := [146, 184, 232].getD (qp % 3) 0 * 2 ^ (qp / 3)
  if codec = 1 ∧ depth = 8 then l / 16 else l

/-- What the decision of a CTU draws on: the search environment of its row and the CTU. -/
structure ModeEnv where
  v : SearchEnv
  i : Config.CtuIn

/-- Codec, 0 VVC, 1 HEVC. -/
def ModeEnv.codec (e : ModeEnv) : Nat := e.v.g.codec

/-- λ_me of the CTU. -/
def ModeEnv.lam (e : ModeEnv) : Nat := lambdaMe e.codec e.v.g.depth e.i.qp

/-- A block of luma samples of the AU's rectangle. -/
structure Block where
  x : Nat
  y : Nat
  w : Nat
  h : Nat
  deriving DecidableEq, Repr

/-- An alternative of a block: its kind, the block, then what the kind adds. -/
def Block.alt (b : Block) (kind : Int) (rest : List Int := []) : List Int := [kind, b.x, b.y, b.w, b.h] ++ rest

/-- The block of an alternative. -/
def altBlock (alt : List Int) : Block := ⟨(alt.getD 1 0).toNat, (alt.getD 2 0).toNat, (alt.getD 3 0).toNat, (alt.getD 4 0).toNat⟩

/-- An inter alternative reads only what the clean area (R44) and the region clamp (R198) allow. -/
def ModeEnv.allowed (e : ModeEnv) (ctx : List (List Int)) (alt : List Int) : Bool :=
  (Config.blockReads e.i ctx alt).all fun q =>
    e.v.readable e.i.col q.1 q.2.1 q.2.2.1 (q.2.2.1 / 2) q.2.2.2.1 q.2.2.2.2

/-- An intra alternative of a clean-area or intra-column block reads nothing right of the clean boundary (R44). -/
def ModeEnv.allowedIntra (e : ModeEnv) (ctx : List (List Int)) (alt : List Int) : Bool :=
  decide (e.v.boundary ≤ e.i.col) || decide (Config.intraReads e.i ctx alt < e.v.boundary * e.v.g.size)

/-! ### Squared error, residual and rate (R78, R82) -/

/-- Source sample (x, y) of a component, in the samples of the AU's rectangle. -/
def ModeEnv.source (e : ModeEnv) (comp x y : Nat) : Nat := rowSample e.v.g e.i.row e.i.source comp x y

/-- The part of a block that a component of the picture holds: first column and line, width and height. -/
def AuCfg.area (g : AuCfg) (b : Block) (comp : Nat) : Nat × Nat × Nat × Nat :=
  let w := min (b.x + b.w) g.width - b.x
  let h := min (b.y + b.h) g.height - b.y
  if comp = 0 then (b.x, b.y, w, h)
  else if g.chroma = 1 then (b.x / 2, b.y, w / 2, h) else (b.x / 2, b.y / 2, w / 2, h / 2)

/-- A quantised level: the deadzone quantiser, with rounding offsets of 171/512 of a step in intra CUs and 85/512 in inter
CUs; `c` in 1/512 of a step. -/
def quantise (intra : Bool) (c : Int) : Int := c.sign * ((c.natAbs + if intra then 171 else 85) / 512 : Nat)

/-- Sign-data hiding applies to a group: its first and last levels lie at least 4 places apart, as the standards have it
(PRESUMED, log 115). -/
def hidesSign (ls : List Int) : Bool :=
  match ls.findIdx? (· ≠ 0), ls.reverse.findIdx? (· ≠ 0) with
  | some a, some b => decide (a + 4 ≤ ls.length - 1 - b)
  | _, _ => false

/-- The parity of a group's levels tells the sign of its first level: even is positive. -/
def signFits (ls : List Int) : Bool :=
  !hidesSign ls || decide ((ls.map Int.natAbs).sum % 2 = if (ls.find? (· ≠ 0)).getD 0 < 0 then 1 else 0)

/-- A group's levels with the sign hidden: where the parity does not match, the level whose change by one adds the least
squared error is changed, the last in scan order among equals. -/
def hideSign (cs ls : List Int) : List Int :=
  if signFits ls then ls
  else
    let tries := (List.range ls.length).flatMap fun k => [(k, (1 : Int)), (k, -1)]
    let put (t : Nat × Int) : List Int := ls.set t.1 (ls.getD t.1 0 + t.2)
    let err (t : Nat × Int) : Int :=
      let c := cs.getD t.1 0
      let l := ls.getD t.1 0
      (512 * (l + t.2) - c) ^ 2 - (512 * l - c) ^ 2
    match (tries.filter fun t => signFits (put t)).foldl (fun (m : Option (Nat × Int)) t => match m with
        | none => some t
        | some b => if err t ≤ err b then some t else m) none with
    | some t => put t
    | none => ls

/-- Whether an alternative carries a residual: not a skip CU, a split or a filter. -/
def hasResidual (alt : List Int) : Bool := decide (2 ≤ alt.headD 0 ∧ alt.headD 0 ≤ 11)

/-- Whether an alternative is intra. -/
def isIntra (alt : List Int) : Bool := decide (9 ≤ alt.headD 0 ∧ alt.headD 0 ≤ 11)

/-- The levels of a component of an alternative, with a mask of 4 × 4 luma blocks that skip the transform and a joint Cb-Cr
mode. -/
def ModeEnv.levels (e : ModeEnv) (ctx : List (List Int)) (alt : List Int) (t : Nat × Nat) (comp : Nat) : List (List Int) :=
  if hasResidual alt then
    (Config.coefficients e.i ctx alt comp t).map fun cs => hideSign cs (cs.map (quantise (isIntra alt)))
  else []

/-- A reconstructed sample of an alternative. -/
def ModeEnv.recon (e : ModeEnv) (ctx : List (List Int)) (alt : List Int) (t : Nat × Nat) (comp x y : Nat) : Nat :=
  let p : Int := Config.predicted e.i ctx alt comp (x, y)
  let r := if hasResidual alt then Config.residual e.i ctx alt comp t (e.levels ctx alt t comp) (x, y) else 0
  (clampI 0 (2 ^ e.v.g.depth - 1) (p + r)).toNat

/-- The luma-plus-chroma squared error of the reconstruction. -/
def ModeEnv.sse (e : ModeEnv) (ctx : List (List Int)) (alt : List Int) (t : Nat × Nat) : Nat :=
  ((List.range 3).map fun k =>
    let r := e.v.g.area (altBlock alt) k
    sumRect r.2.2.1 r.2.2.2 fun x y =>
      (((e.source k (r.1 + x) (r.2.1 + y) : Nat) : Int) - e.recon ctx alt t k (r.1 + x) (r.2.1 + y)).natAbs ^ 2).sum

/-- Cost of a bin in 1/32 bit: round(−32 · log2(k/64)) for a value of probability k/64; 32 for a bypass bin. -/
def binCost : Option Nat → Nat
  | none => 32
  | some k => [0, 192, 160, 141, 128, 118, 109, 102, 96, 91, 86, 81, 77, 74, 70, 67, 64, 61, 59, 56, 54, 51,
   49, 47, 45, 43, 42, 40, 38, 37, 35, 33, 32, 31, 29, 28, 27, 25, 24, 23, 22, 21, 19, 18,
   17, 16, 15, 14, 13, 12, 11, 10, 10, 9, 8, 7, 6, 5, 5, 4, 3, 2, 1, 1, 0].getD k 0

/-- R33: the rate of an alternative in 1/32 bit. -/
def ModeEnv.rate (e : ModeEnv) (ctx : List (List Int)) (alt : List Int) (t : Nat × Nat) : Nat :=
  ((Config.bins e.i ctx alt t ((List.range 3).map (e.levels ctx alt t))).map binCost).sum

/-- J of an alternative with its residual coded one way (R78). -/
def ModeEnv.jWith (e : ModeEnv) (ctx : List (List Int)) (alt : List Int) (t : Nat × Nat) : Nat :=
  u64 (256 * e.sse ctx alt t + lambdaMd e.codec e.v.g.depth e.i.qp * e.rate ctx alt t / 32)

/-- The first of the least under a cost, from a first value on. -/
def leastFrom {α : Type} (cost : α → Nat) (a : α) (l : List α) : α := l.foldl (fun b x => if cost x < cost b then x else b) a

/-- How the residual of an alternative is coded (R82): transform skip against the DCT for each 4 × 4 luma block in turn, then in
VVC the joint Cb-Cr modes against separate coding; ties to the DCT and to separate coding (DESIGN CHOICE, log 115). -/
def ModeEnv.residualMode (e : ModeEnv) (ctx : List (List Int)) (alt : List Int) : Nat × Nat :=
  if !hasResidual alt then (0, 0)
  else
    let blocks := if e.v.g.objs.getD 15 0 = 0 then 0 else Config.luma4 e.i ctx alt
    let ts := (List.range blocks).foldl (fun (m : Nat) k => leastFrom (fun x => e.jWith ctx alt (x, 0)) m [m + 2 ^ k]) 0
    let joint := if e.codec = 0 then [1, 2, 3] else []
    (ts, leastFrom (fun x => e.jWith ctx alt (ts, x)) 0 joint)

/-- J of an alternative after the decisions made so far, its residual coded at least J (R78, R82). -/
def ModeEnv.j (e : ModeEnv) (ctx : List (List Int)) (alt : List Int) : Nat := e.jWith ctx alt (e.residualMode ctx alt)

/-- The decision for an alternative, with how its residual is coded behind it. -/
def ModeEnv.coded (e : ModeEnv) (ctx : List (List Int)) (alt : List Int) : List Int :=
  let t := e.residualMode ctx alt
  if hasResidual alt then alt ++ [(t.1 : Int), (t.2 : Int)] else alt

/-- SATD of an alternative's luma prediction, by transforms of n × n. -/
def ModeEnv.satdOf (e : ModeEnv) (n : Nat) (ctx : List (List Int)) (alt : List Int) : Nat :=
  let b := altBlock alt
  satd n b.w b.h fun x y =>
    ((e.source 0 (b.x + x) (b.y + y) : Nat) : Int) - Config.predicted e.i ctx alt 0 (b.x + x, b.y + y)

/-! ### Vectors of a block (R76, R80) -/

/-- Results of the search block that holds a sample, for reference i. -/
def ModeEnv.found (e : ModeEnv) (x y i : Nat) : List (Int × Int) :=
  let g := e.v.g
  match (g.searchBlocks e.i.col e.i.row).findIdx? fun b => b.1 == x / 32 && b.2 == y / 32 with
  | some k => e.i.vectors.getD (k * e.v.refs.length + i) []
  | none => []

/-- The smallest search shape that contains a block, by its place in `searchShapes`; the whole search block where none
does. -/
def shapeOf (b : Block) : Nat :=
  let ox := b.x % 32
  let oy := b.y % 32
  let fits (h : Nat × Nat × Nat × Nat) : Bool :=
    decide (h.1 ≤ ox ∧ ox + b.w ≤ h.1 + h.2.2.1 ∧ h.2.1 ≤ oy ∧ oy + b.h ≤ h.2.1 + h.2.2.2)
  ((List.range 9).reverse.find? fun k => fits (searchShapes.getD k (0, 0, 0, 0))).getD 0

/-- The vectors that uni-prediction offers for reference i: the quarter-sample one, and in VVC the integer and the 4-sample
precisions. -/
def ModeEnv.uniVectors (e : ModeEnv) (b : Block) (i : Nat) : List (Int × Int) :=
  let f := e.found b.x b.y i
  let k := shapeOf b
  match f[k]? with
  | none => []
  | some q => if e.codec = 0 then [q, f.getD (9 + k) q, f.getD (18 + k) q] else [q]

/-- Uni-prediction alternatives of a block. -/
def ModeEnv.uni (e : ModeEnv) (b : Block) : List (List Int) :=
  (List.range e.v.refs.length).flatMap fun (i : Nat) =>
    (e.uniVectors b i).map fun q => b.alt 4 [(i : Int), q.1, q.2]

/-- Bi-prediction: the two references of the lowest uni J; omitted where both pairs are the same (Table 3-5). -/
def ModeEnv.bi (e : ModeEnv) (ctx : List (List Int)) (b : Block) : List (List Int) :=
  if e.v.g.objs.getD 12 0 = 0 then []
  else
    let one := (List.range e.v.refs.length).filterMap fun (i : Nat) =>
      (leastOf (fun q => e.j ctx (b.alt 4 [(i : Int), q.1, q.2])) (e.uniVectors b i)).map fun q =>
        (i, q, e.j ctx (b.alt 4 [(i : Int), q.1, q.2]))
    match sortBy (fun p => p.2.2) one with
    | p :: q :: _ =>
      if (e.v.refs[p.1]?.map (·.d)) = (e.v.refs[q.1]?.map (·.d)) ∧ p.2.1 = q.2.1 then []
      else [b.alt 5 [(p.1 : Int), p.2.1.1, p.2.1.2, (q.1 : Int), q.2.1.1, q.2.1.2]]
    | _ => []

/-! ### Affine (R77) -/

/-- Control-point vectors v0 and v1, in 1/16 sample. -/
abbrev Affine := (Int × Int) × (Int × Int)

/-- Cost of a pair of control points: SATD over 4 × 4 sub-blocks and the rate of both differences from the block's
translational vector's predictor. -/
def ModeEnv.affineCost (e : ModeEnv) (ctx : List (List Int)) (b : Block) (i : Nat) (pred : Int × Int) (a : Affine) : Nat :=
  let q (p : Int × Int) : Int × Int := (p.1 / 4 - pred.1, p.2 / 4 - pred.2)
  e.satdOf 4 ctx (b.alt 6 [(i : Int), a.1.1, a.1.2, a.2.1, a.2.2]) +
    e.lam * (vectorBits (q a.1) + vectorBits (q a.2)) / 16

/-- The decision of the CU that covers luma sample (x, y), among those of the CTUs and CUs before. -/
def ModeEnv.cuAt (e : ModeEnv) (ctx : List (List Int)) (x y : Int) : Option (List Int) :=
  (e.i.upModes ++ e.i.before ++ ctx).reverse.find? fun d =>
    let b := altBlock d
    decide (1 ≤ d.headD 0 ∧ d.headD 0 ≤ 10) && decide ((b.x : Int) ≤ x ∧ x < b.x + b.w ∧ (b.y : Int) ≤ y ∧ y < b.y + b.h)

/-- The affine-coded CU whose control points a block may inherit: the left one, or failing that the one above. The left one
covers the sample left of the block's last line, the one above the sample above its last column (PRESUMED, log 115). -/
def ModeEnv.affineNeighbour (e : ModeEnv) (ctx : List (List Int)) (b : Block) : Option (List Int) :=
  let affine (d : Option (List Int)) : Option (List Int) := d.filter fun d => d.headD 0 == 6 || d.headD 0 == 7
  (affine (e.cuAt ctx ((b.x : Int) - 1) (b.y + b.h - 1 : Nat))).or (affine (e.cuAt ctx (b.x + b.w - 1 : Nat) ((b.y : Int) - 1)))

/-- The result of affine search of a block in reference i: seeds, model step, and the fine step twice. A control point with no
cheaper neighbour stays (DESIGN CHOICE, log 115). -/
def ModeEnv.affine (e : ModeEnv) (ctx : List (List Int)) (b : Block) (i : Nat) : Option Affine :=
  let ok (a : Affine) : Bool := e.allowed ctx (b.alt 6 [(i : Int), a.1.1, a.1.2, a.2.1, a.2.2])
  let pred := (e.found b.x b.y i).head?.getD (0, 0)
  let cost := e.affineCost ctx b i pred
  let flat := ((e.uniVectors b i).head?.map fun q => (((4 * q.1, 4 * q.2), (4 * q.1, 4 * q.2)) : Affine)).toList
  let inherited := (((e.affineNeighbour ctx b).bind (Config.affineInherited e.i ctx (b.alt 6 [(i : Int)]))).map fun p =>
    (((p.1, p.2.1), (p.2.2.1, p.2.2.2)) : Affine)).toList
  let d := (e.v.refs[i]?.map (·.d)).getD 1
  let f (x y : Nat) : Int × Int := (16 * d * (e.v.fieldV x y).1, 16 * d * (e.v.fieldV x y).2)
  match leastOf cost ((flat ++ inherited ++ [(f b.x b.y, f (b.x + b.w - 1) b.y)]).filter ok) with
  | none => none
  | some seed =>
    let grid := (List.range 25).map fun (k : Nat) =>
      ((seed.1, (seed.2.1 + 4 * ((k % 5 : Nat) : Int) - 8, seed.2.2 + 4 * ((k / 5 : Nat) : Int) - 8)) : Affine)
    let best := (leastOf cost (grid.filter ok)).getD seed
    let move0 (a : Affine) : Affine := (leastOf cost (a :: (eightNeighbours.map fun n =>
      (((a.1.1 + n.1, a.1.2 + n.2), a.2) : Affine)).filter ok)).getD a
    let move1 (a : Affine) : Affine := (leastOf cost (a :: (eightNeighbours.map fun n =>
      ((a.1, (a.2.1 + n.1, a.2.2 + n.2)) : Affine)).filter ok)).getD a
    some (move1 (move0 (move1 (move0 best))))

/-- Affine alternatives of a VVC block: the search result in each reference, and three subblock merge candidates. -/
def ModeEnv.affineAlts (e : ModeEnv) (ctx : List (List Int)) (b : Block) : List (List Int) :=
  let on := e.v.g.objs.getD 17 0 != 0
  let sized := decide (16 ≤ b.w ∧ 16 ≤ b.h ∧ b.w ≤ 64 ∧ b.h ≤ 64)
  if e.codec ≠ 0 ∨ !on then []
  else (if sized && e.v.g.objs.getD 26 0 != 0 then (List.range e.v.refs.length).filterMap fun (i : Nat) =>
      (e.affine ctx b i).map fun a => b.alt 6 [(i : Int), a.1.1, a.1.2, a.2.1, a.2.2] else []) ++
    (List.range 3).map fun (k : Nat) => b.alt 7 [(k : Int)]

/-! ### Alternatives of a CU (R80, R81) -/

/-- Partitions of an HEVC CU in two parts, as the widths or heights in quarters of the first part: asymmetric ones, then
2N × N and N × 2N. -/
def hevcParts (b : Block) : List (Int × Block × Block) :=
  let across (k q : Nat) : Int × Block × Block :=
    (k, ⟨b.x, b.y, b.w, b.h * q / 4⟩, ⟨b.x, b.y + b.h * q / 4, b.w, b.h - b.h * q / 4⟩)
  let down (k q : Nat) : Int × Block × Block :=
    (k, ⟨b.x, b.y, b.w * q / 4, b.h⟩, ⟨b.x + b.w * q / 4, b.y, b.w - b.w * q / 4, b.h⟩)
  if 16 ≤ b.w ∧ b.w ≤ 64 then [across 0 1, across 1 3, down 2 1, down 3 3, across 4 2, down 5 2] else []

/-- Two-part alternatives of an HEVC CU. -/
def ModeEnv.partAlts (e : ModeEnv) (b : Block) : List (List Int) :=
  if e.codec = 0 then []
  else (hevcParts b).flatMap fun p => (List.range e.v.refs.length).filterMap fun (i : Nat) =>
    match (e.uniVectors p.2.1 i).head?, (e.uniVectors p.2.2 i).head? with
    | some q, some r => some (b.alt 8 [p.1, (i : Int), q.1, q.2, r.1, r.2])
    | _, _ => none

/-- SATD with the rate of an intra mode: 3 bits for a most probable mode, 6 otherwise (R81). -/
def ModeEnv.roughCost (e : ModeEnv) (ctx : List (List Int)) (b : Block) (m : Nat) : Nat :=
  let alt := b.alt 9 [(m : Int), 0]
  e.satdOf (if b.w = 4 then 4 else 8) ctx alt + e.lam * (if Config.isMpm e.i ctx alt then 3 else 6) / 16

/-- The intra luma modes that go to full J, best first (R81). -/
def ModeEnv.intraModes (e : ModeEnv) (ctx : List (List Int)) (b : Block) : List Nat :=
  let n := (e.v.g.objs.getD 28 3).toNat
  let cost := e.roughCost ctx b
  if e.codec = 0 then
    let first := sortBy cost ([0, 1] ++ (List.range 33).map fun k => 2 * k + 2)
    let odd := ((first.take 3).filter fun m => decide (2 ≤ m)).flatMap fun m =>
      [m - 1, m + 1].filter fun k => decide (2 ≤ k ∧ k ≤ 66)
    let all := odd.foldl (fun l m => if l.contains m then l else l ++ [m]) first
    (sortBy cost all).take n
  else (sortBy cost (List.range 35)).take n

/-- The luma modes of the four 4 × 4 parts of an N × N intra CU, each by the rough pass and then full J (R81). -/
def ModeEnv.partModes (e : ModeEnv) (ctx : List (List Int)) (b : Block) : List Int :=
  let parts := [(0, 0), (4, 0), (0, 4), (4, 4)].map fun (p : Nat × Nat) => (⟨b.x + p.1, b.y + p.2, 4, 4⟩ : Block)
  (parts.foldl (fun (t : List Int × List (List Int)) p =>
    let alts := (e.intraModes t.2 p).map fun (m : Nat) => p.alt 11 [(m : Int)]
    match leastOf (e.j t.2) alts with
    | some a => (t.1 ++ [a.getD 5 0], t.2 ++ [a])
    | none => t) ([], ctx)).1

/-- Intra alternatives of a CU: the luma modes with DM chroma, reference lines 1 and 2 of the best one in VVC, N × N at 8 × 8
in HEVC, then the chroma modes with the best luma alternative. -/
def ModeEnv.intraAlts (e : ModeEnv) (ctx : List (List Int)) (b : Block) : List (List Int) :=
  let ms := e.intraModes ctx b
  let mrl := if e.codec = 0 then (ms.take 1).flatMap fun (m : Nat) => [b.alt 9 [(m : Int), 1, 0], b.alt 9 [(m : Int), 2, 0]] else []
  let nxn := if e.codec ≠ 0 ∧ b.w = 8 then [b.alt 10 (e.partModes ctx b ++ [0])] else []
  let luma := ((ms.map fun (m : Nat) => b.alt 9 [(m : Int), 0, 0]) ++ mrl ++ nxn).filter (e.allowedIntra ctx)
  let chroma := match leastOf (e.j ctx) luma with
    | none => []
    | some a => (List.range (if e.codec = 0 then 7 else 4)).map fun (k : Nat) => a.dropLast ++ [(k : Int) + 1]
  luma ++ chroma

/-- Every alternative of a CU that goes to full J, in the order of Table 3-5. -/
def ModeEnv.alternatives (e : ModeEnv) (ctx : List (List Int)) (b : Block) : List (List Int) :=
  let vvc := decide (e.codec = 0)
  let merges := if vvc then 6 else 5
  let mmvd := (List.range 64).map fun (k : Nat) => b.alt 3 [(k : Int)]
  let ok := e.allowed ctx
  let inter :=
    ((List.range merges).map fun (k : Nat) => b.alt 1 [(k : Int)]) ++
    ((List.range merges).map fun (k : Nat) => b.alt 2 [(k : Int)]) ++
    (if vvc then (sortBy (e.satdOf 8 ctx) (mmvd.filter ok)).take (e.v.g.objs.getD 27 2).toNat else []) ++
    e.uni b ++ e.bi ctx b ++ e.affineAlts ctx b ++ e.partAlts b
  (if e.i.intra then [] else inter.filter ok) ++ e.intraAlts ctx b

/-! ### The split tree (R79) -/

/-- Splits of a node, in the order of Table 3-4, with their kind (2 quad, 3 and 4 binary, 5 and 6 ternary), the MTT depth of
the children, and the children; no child is under 8 samples on a side. -/
def nodeSplits (codec : Nat) (b : Block) (mtt : Nat) : List (Nat × Nat × List Block) :=
  let at_ (x y w h : Nat) : Block := ⟨b.x + x, b.y + y, w, h⟩
  let hw := b.w / 2
  let hh := b.h / 2
  let qw := b.w / 4
  let qh := b.h / 4
  let quad : Nat × Nat × List Block := (2, 0, [at_ 0 0 hw hh, at_ hw 0 hw hh, at_ 0 hh hw hh, at_ hw hh hw hh])
  if codec ≠ 0 then (if 16 ≤ b.w then [quad] else [])
  else
    let bt := decide (b.w ≤ 64 ∧ b.h ≤ 64 ∧ mtt < 2)
    let tt := decide (b.w ≤ 32 ∧ b.h ≤ 32 ∧ mtt < 2)
    (if b.w = b.h ∧ 32 ≤ b.w ∧ mtt = 0 then [quad] else []) ++
    (if bt && decide (16 ≤ b.h) then [(3, mtt + 1, [at_ 0 0 b.w hh, at_ 0 hh b.w hh])] else []) ++
    (if bt && decide (16 ≤ b.w) then [(4, mtt + 1, [at_ 0 0 hw b.h, at_ hw 0 hw b.h])] else []) ++
    (if tt && decide (32 ≤ b.h) then [(5, mtt + 1, [at_ 0 0 b.w qh, at_ 0 qh b.w hh, at_ 0 (qh + hh) b.w qh])] else []) ++
    (if tt && decide (32 ≤ b.w) then [(6, mtt + 1, [at_ 0 0 qw b.h, at_ qw 0 hw b.h, at_ (qw + hw) 0 qw b.h])] else [])

/-- The least-J decision of a node: its J and the decisions of its CUs; a node outside the picture holds nothing, and one that
crosses the edge is split. -/
def ModeEnv.node (e : ModeEnv) : Nat → List (List Int) → Block → Nat → Option (Nat × List (List Int))
  | 0, _, _, _ => none
  | fuel + 1, ctx, b, mtt =>
    let g := e.v.g
    if g.width ≤ b.x ∨ g.height ≤ b.y then some (0, [])
    else
      let whole := decide (b.x + b.w ≤ g.width ∧ b.y + b.h ≤ g.height)
      let none_ := if whole then (leastOf (e.j ctx) (e.alternatives ctx b)).map fun a => (e.j ctx a, [e.coded ctx a]) else none
      let skipped := match none_ with | some (_, [1 :: _]) => true | _ => false
      let pruned := skipped && g.objs.getD 29 1 != 0
      let splits := (nodeSplits e.codec b mtt).filter fun p => !pruned || p.1 == 2
      splits.foldl (fun best p =>
        let kind : List Int := b.alt (p.1 + 100)
        let tried := p.2.2.foldl (fun t child => t.bind fun u =>
          (e.node fuel (ctx ++ u.2) child p.2.1).map fun r => (u64 (u.1 + r.1), u.2 ++ r.2))
          (some (u64 (lambdaMd e.codec g.depth e.i.qp * e.rate ctx kind (0, 0) / 32), [kind]))
        match best, tried with
        | some x, some y => if y.1 < x.1 then some y else some x
        | none, y => y
        | x, none => x) none_

/-! ### In-loop filters (R83) -/

/-- SAO alternatives of a component: band positions 0 to 31, edge classes 0 to 3, off, merge-left and merge-up. -/
def saoAlts (b : Block) (comp : Nat) : List (List Int) :=
  (List.range 39).map fun (k : Nat) => b.alt 20 [(comp : Int), (k : Int)]

/-- ALF alternatives: off, then the 16 fixed filter sets. -/
def alfAlts (b : Block) : List (List Int) := (List.range 17).map fun (k : Nat) => b.alt 21 [(k : Int)]

/-- The in-loop filter parameters of a CTU after its CUs are decided. -/
def ModeEnv.filters (e : ModeEnv) (b : Block) (cus : List (List Int)) : List (List Int) :=
  let sao := (List.range 3).foldl (fun t k => t ++ (leastOf (e.j t) (saoAlts b k)).toList) cus
  if e.codec = 0 ∧ e.v.g.objs.getD 16 0 ≠ 0 then sao ++ (leastOf (e.j sao) (alfAlts b)).toList else sao

/-! ### Guard CTUs (R107, R108) -/

/-- SAO is off in a component of the CTU at (x, y), by the decisions so far: place 36 is off, 37 and 38 take the left and the
upper CTU's; a guard CTU has it off. -/
def saoOff (size : Nat) (ds : List (List Int)) (comp : Nat) : Nat → Nat → Nat → Bool
  | 0, _, _ => false
  | fuel + 1, x, y =>
    if ds.any fun d => d.headD 0 == 22 && d.getD 1 (-1) == (x : Int) && d.getD 2 (-1) == (y : Int) then true
    else match ds.find? fun d => d.headD 0 == 20 && d.getD 1 (-1) == (x : Int) && d.getD 2 (-1) == (y : Int) && d.getD 5 (-1) == (comp : Int) with
      | none => false
      | some d =>
        d.getD 6 0 == 36 || (d.getD 6 0 == 37 && saoOff size ds comp fuel (x - size) y) ||
          (d.getD 6 0 == 38 && saoOff size ds comp fuel x (y - size))

/-- How a guard CTU codes SAO off: 0 merge-left, 1 merge-up, 2 explicitly. A CTU across a region edge is not there to merge
with. -/
def ModeEnv.guardSao (e : ModeEnv) (b : Block) : Int :=
  let g := e.v.g
  let ds := e.i.upModes ++ e.i.before
  let off (x y : Nat) : Bool := (List.range 3).all fun k => saoOff g.size ds k (e.i.row + e.i.col + 2) x y
  if !g.colAt.contains e.i.col && off (b.x - g.size) b.y then 0
  else if !g.rowAt.contains e.i.row && off b.x (b.y - g.size) then 1 else 2

/-- The merge index of a skip guard CTU: the lowest whose candidate is a zero vector to list-0 index 0, in both lists where it
uses both. -/
def ModeEnv.zeroMerge (e : ModeEnv) (b : Block) : Option Nat :=
  (Config.mergeList e.i [] (b.alt 1)).findIdx? fun c => !c.isEmpty && c.all fun v => v == (0, 0, 0)

/-- A guard CTU is intra: in an intra picture, in the intra column or the clean area of a sweep, or with no zero candidate. -/
def ModeEnv.guardIntra (e : ModeEnv) (b : Block) : Bool :=
  e.i.intra || decide (e.i.col < e.v.boundary) || (e.zeroMerge b).isNone

/-- The content of a guard CTU: one CU, with no residual: a skip CU, or luma DC, reference line 0, chroma DM; SAO off, ALF
off. -/
def ModeEnv.guard (e : ModeEnv) (b : Block) : List (List Int) :=
  let cu := if e.guardIntra b then b.alt 12 [1, 0, 0] else b.alt 1 [((e.zeroMerge b).getD 0 : Int)]
  [cu, b.alt 22 [e.guardSao b], b.alt 21 [0]]

/-! ### The decision of a CTU -/

/-- The block of a CTU. -/
def ctuBlock (g : AuCfg) (x r : Nat) : Block := ⟨x * g.size, r * g.size, g.size, g.size⟩

/-- The mode decision of a CTU: its CUs, then its filters (R78-R83). -/
def decideCtu (v : SearchEnv) (i : Config.CtuIn) : List (List Int) :=
  let e : ModeEnv := ⟨v, i⟩
  let b := ctuBlock v.g i.col i.row
  match e.node 8 [] b 0 with
  | some r => e.filters b r.2
  | none => []

/-- What R107 and R108 make of a guard CTU. -/
def guardCtu (v : SearchEnv) (i : Config.CtuIn) : List (List Int) := ModeEnv.guard ⟨v, i⟩ (ctuBlock v.g i.col i.row)

/-! ### Reconstruction -/

/-- Sample (x, y) of a component of a CTU, before in-loop filtering, from its decisions: of an intra guard CTU the DC value of
its upper and left neighbours, of a skip guard CTU the co-located reference sample `ref`, else prediction and residual.
`left` gives the samples left of the CTU. -/
def ctuSample (e : ModeEnv) (modes : List (List Int)) (guarded : Bool) (ref : Nat → Nat → Nat → Nat)
    (above left : Nat → List Nat) (comp x y : Nat) : Nat :=
  if guarded then
    (if (modes.headD []).headD 0 = 12 then Config.dcValue e.codec e.v.g.depth (above comp) (left comp) else ref comp x y)
  else
    let covers (d : List Int) : Bool :=
      let r := e.v.g.area (altBlock d) comp
      decide (1 ≤ d.headD 0 ∧ d.headD 0 ≤ 10) && decide (r.1 ≤ x ∧ x < r.1 + r.2.2.1 ∧ r.2.1 ≤ y ∧ y < r.2.1 + r.2.2.2)
    match modes.findIdx? covers with
    | none => 0
    | some k =>
      let d := modes.getD k []
      let n := d.length - 2
      let alt := if hasResidual d then d.take n else d
      let t := if hasResidual d then ((d.getD n 0).toNat, (d.getD (n + 1) 0).toNat) else (0, 0)
      e.recon (modes.take k) alt t comp x y

end Sys2Proof.Machine
end

