-- ==== Sys2Proof/Machine/Coding.lean ====
section
/-! DEFINITION. Coding.lean: row decisions, row coding within the allowance, guard rows, and the model update
(R48, R51, R67, R72, R107-R121). What the codec's own syntax gives stands in Config. -/

namespace Sys2Proof.Machine

/-- The bands of the source that row r draws on have settled (R67); a repeat or an absence reads the results of a slot that the
decision waited for, or that this wait covers. -/
def State.rowAnalysed (s : State) (a : Au) (r : Nat) : Bool :=
  if a.cfg.canvas then a.cfg.regions.all fun i =>
    let q := s.regionAt i
    s.anaSettled q.flow a.slot &&
    match ((s.flow q.flow).frame a.slot).gift with
    | .present => (List.range (cdiv (s.recAt q.flow a.slot).height 64)).all fun b =>
        decide (q.y + 64 * (b + 1) ≤ a.cfg.y0 + r * a.cfg.size + q.oy) ||
        decide (a.cfg.y0 + (r + 1) * a.cfg.size + q.oy ≤ q.y + 64 * b) || (s.anaGet q.flow a.slot).bands.contains b
    | _ => true
  else
    let f := a.cfg.source
    s.anaSettled f a.slot &&
    let h := (s.recAt f a.slot).height
    match ((s.flow f).frame a.slot).gift with
    | .present => (bandsOfRow h a.cfg.height a.cfg.size r).all fun b => (s.anaGet f a.slot).bands.contains b
    | _ => true

/-- Regions of a canvas AU whose frame is absent for its slot (R187). -/
def State.absentRegions (s : State) (a : Au) : List Nat :=
  if a.cfg.canvas then
    a.cfg.regions.filter fun i => decide (((s.flow (s.regionAt i).flow).frame a.slot).gift = .absent)
  else []

/-- The region that lies at column index k and CTU row r of a member rectangle. -/
def AuCfg.regionIn (g : AuCfg) (k r : Nat) : Nat :=
  g.regions.getD ((g.rowAt.drop 1).countP (fun y => decide (y ≤ r)) * g.across + k) 0

/-- Every region across row r is absent: the row is coded as a guard row (R187). -/
def State.absentRow (s : State) (a : Au) (r : Nat) : Bool :=
  a.cfg.canvas && (List.range a.cfg.across).all fun k => (s.absentRegions a).contains (a.cfg.regionIn k r)

/-- Key of a row of a slot. -/
def rowKey (n r : Nat) : Nat := 65536 * n + r

/-- The presence of a canvas row's bands is decided (R197); other rows need none. -/
def State.bandsDecided (s : State) (a : Au) (r : Nat) : Bool :=
  !a.cfg.canvas || (Tab.find? s.casc.presence (rowKey a.slot r)).isSome

/-- X[r] of an AU, from the bands of its own frame (R113). -/
def State.rowX (s : State) (a : Au) (r : Nat) : Nat × Nat := s.rowXs a.cfg a.idr a.sweep a.slot r

/-- Settled and charged sums at row r's decision (R115). -/
def Au.sums (a : Au) (r : Nat) : Nat × Nat :=
  let k := a.cfg.k
  let sum (f : RowRt → Nat) (lo hi : Nat) : Nat :=
    (List.range (hi - lo)).foldl (fun t i => t + f (a.row (lo + i))) 0
  let cut := r + 1 - k
  (sum (·.total) 0 cut, sum (·.allow) cut r)

/-- Row r has a guard row in some region: it was decided as one, or a region across it is absent (R118, R187). -/
def State.guardedRow (s : State) (a : Au) (r : Nat) : Bool :=
  (a.row r).guard ||
    (a.cfg.canvas && (List.range a.cfg.across).any fun k => (s.absentRegions a).contains (a.cfg.regionIn k r))

/-- The effect of ROW_DECISION (R115, R118): row r − 1 is decided, row r − k has settled, and the row's bands have
settled. The AU's first guard row raises the event. -/
def State.rowDecision (s : State) (c n r : Nat) : State :=
  match (s.chan c).au? n with
  | none => s
  | some a =>
    let k := a.cfg.k
    let ready := !a.skip && !a.replaced && decide (r < a.rows.length) && decide ((a.row r).stage = .waiting) &&
      (r == 0 || decide ((a.row (r - 1)).stage ≠ .waiting)) &&
      (decide (r < k) || decide ((a.row (r - k)).stage = .settled)) && s.rowAnalysed a r && s.bandsDecided a r
    if !ready then s
    else
      let sm := a.sums r
      let g := a.guardRowSize
      let qhi := min (a.qb + a.cfg.headroom) (qMax a.cfg.codec)
      let later := (s.predicted a.cfg a.idr a.sweep a.basis).drop (r + 1)
      let x := s.rowX a r
      let prev := (List.range r).any fun j => (a.row j).guard && !s.absentRow a j
      let absent := s.absentRow a r
      let ch := rowChoice (prev || absent) a.m sm.1 sm.2 (a.rows.length - r) g a.qb qhi a.alphaI a.alphaP x later
      let first := !((List.range r).any fun j => s.guardedRow a j)
      let s := s.onAu c n fun a => a.onRow r fun w =>
        { w with stage := .decided, guard := ch.guard, q := ch.q, allow := ch.allow, xi := x.1, xp := x.2 }
      if ch.guard || s.guardedRow a r then
        let s := s.count (basic c 6) 7
        if first then (s.count (basic c 6) 6).raise ⟨0x0102, c, n % 0x100000000, a.poc, r, 0⟩ else s
      else s

/-- Luma line of a picture down to which row r reads its references (R72, R197). -/
def reachLine (g : AuCfg) (top height r : Nat) : Nat :=
  min (height - 1) (top + (r + 1) * g.size + g.rv + 71)

/-- The samples of a reference that row r may read: its rows down to the reach (R72), and in a canvas the band segments
held, unless the row is clamped (R198). -/
def State.refSamples (s : State) (c : Nat) (a : Au) (r : Nat) (e : PicEntry) : List Nat :=
  let g := a.cfg
  let last := reachLine g 0 g.height r / g.size
  match e.buf with
  | none => []
  | some b => match (s.chan c).bufs[b]? with
    | none => []
    | some p =>
      let own := (p.rows.filter fun x => decide (x.1 ≤ last)).flatMap (·.2)
      if g.canvas ∧ ¬(a.row r).clamped then
        own ++ (s.casc.segments.filter fun x =>
          x.slot == p.slot && decide (x.y ≤ reachLine g g.y0 g.ch r)).flatMap fun x => x.data.map (·.toNat)
      else own

/-- What a row draws on of the row above in its region: the decisions of the rows above, the samples of the row above before
in-loop filtering, and the context states that it left, one for each region across (R48). -/
structure RowAbove where
  modes  : List (List Int)
  raw    : List Nat
  starts : List (List Byte)
  deriving DecidableEq, Repr

/-- A region's first row has nothing above it. -/
def RowAbove.none_ : RowAbove := ⟨[], [], []⟩

/-- What row r of an AU finds above it. -/
def State.rowAbove (s : State) (c : Nat) (a : Au) (r : Nat) : RowAbove :=
  if a.cfg.rowAt.contains r then RowAbove.none_
  else
    let top := (a.cfg.rowAt.filter fun y => decide (y ≤ r)).getLastD 0
    match a.buf.bind fun b => (s.chan c).bufs[b]? with
    | none => ⟨[], [], (a.row (r - 1)).ctxs⟩
    | some p => ⟨(p.modes.filter fun x => decide (top ≤ x.1 ∧ x.1 < r)).flatMap (·.2), Tab.get [] p.raw (r - 1),
        (a.row (r - 1)).ctxs⟩

/-- The column index of the region that CTU column x lies in. -/
def AuCfg.spanOf (g : AuCfg) (x : Nat) : Nat := (g.colAt.drop 1).countP fun e => decide (e ≤ x)

/-- What temporal motion vector prediction reads: off in a sweep (R44) and in a canvas (R189); of an entry that shares its root,
a zero vector everywhere, at the distance to the root (R96). Row r reads row r of the collocated picture. -/
def State.colModes (s : State) (c : Nat) (a : Au) (r : Nat) : List (List Int) :=
  if a.cfg.canvas ∨ a.sweep.isSome then []
  else match a.list0.head? with
    | none => []
    | some e =>
      if e.shared then [[50, (e.poc : Int) - e.rootPoc]]
      else match e.buf.bind fun b => (s.chan c).bufs[b]? with
        | some p => if p.intra then [] else Tab.get [] p.modes r
        | none => []

/-- What an engine draws on to code a CTU, before its search and its mode decision (R52). A row of guard CTUs draws on no samples,
no search and no QP of its own (R107). -/
def State.ctuBase (s : State) (c : Nat) (a : Au) (r x : Nat) (up : RowAbove) : Config.CtuIn :=
  let ref := match a.basis with
    | none => 0
    | some b => if a.cfg.canvas then a.aRef else s.actRef a.cfg b
  let qpOf (k : Nat) : Nat :=
    if (a.row r).guard then (a.row r).q
    else ctuQp (a.row r).q k r a.cfg.qt a.cfg.actS a.cfg.lim (s.ctuAct a.cfg a.slot k r) ref (qMax a.cfg.codec)
  let sampled (l : List Nat) : List Nat := if (a.row r).guard then [] else l
  { chan := c, setup := a.cfg.objs, poc := a.poc
    intra := a.idr || decide (a.list0.length ≤ a.barred.length) || intraColumn a.cfg.cols a.sweep x, row := r, col := x
    qp := qpOf x, qps := (List.range a.cfg.cols).map qpOf
    source := sampled (Tab.get [] a.bands r)
    refs := a.list0.map fun e => sampled (s.refSamples c a r e)
    vectors := [], colModes := s.colModes c a r, before := [], modes := []
    upModes := up.modes, up := sampled up.raw, start := up.starts.getD (a.cfg.spanOf x) []
    clamped := (a.row r).clamped, absent := s.absentRegions a }

/-- A CTU is coded as a guard CTU from the start: of a guard row, or of a region whose frame is absent (R187). -/
def State.ctuGuarded (s : State) (a : Au) (r x : Nat) : Bool :=
  (a.row r).guard || (a.cfg.canvas && (s.absentRegions a).contains (a.cfg.regionIn (a.cfg.spanOf x) r))

/-- The CTUs of a row as the engine takes them, left to right: each with its search results and its decision, which the later
ones draw on; and the search results stored (R68, R69, R79). CTUs from `limit` on are guard CTUs; the first of them was tried, and
so searched (R116). -/
def State.rowIns (s : State) (c : Nat) (a : Au) (r : Nat) (up : RowAbove) (limit : Nat) :
    List Config.CtuIn × Tab (Int × Int × Int) :=
  let v := s.searchEnv c a r
  let stored := match a.buf.bind fun b => (s.chan c).bufs[b]? with
    | some p => p.motion
    | none => []
  let res := (List.range a.cfg.cols).foldl (fun (t : List Config.CtuIn × List (List Int) × Tab (Int × Int × Int)) x =>
    let base := s.ctuBase c a r x up
    let found := if s.ctuGuarded a r x ∨ limit < x then ([], t.2.2) else v.ctu base.qp x r t.2.2
    let i := { base with vectors := found.1, before := t.2.1 }
    let i := { i with modes := if s.ctuGuarded a r x ∨ limit ≤ x then guardCtu v i else decideCtu v i }
    (t.1 ++ [i], t.2.1 ++ i.modes, found.2)) ([], [], stored)
  (res.1, res.2.2)

/-- Coding of CTUs x onward within an allowance (R116, R129): how many are coded normally, and their bits. A CTU that
would pass the allowance, or the row's share of bins, ends normal coding. -/
def codeCtus (bits bins : Nat → Nat) (share nc b over_ allow : Nat) : Nat → Nat → Nat → Nat → Nat × Nat
  | 0, x, used, _ => (x, used)
  | fuel + 1, x, used, binsUsed =>
    if nc ≤ x then (x, used)
    else if allow < used + bits x + (nc - 1 - x) * b + over_ then (x, used)
    else if share < binsUsed + bins x then (x, used)
    else codeCtus bits bins share nc b over_ allow fuel (x + 1) (used + bits x) (binsUsed + bins x)

/-- A coded row: CTUs coded normally, and the length in bytes of the substream of each run of CTU columns. -/
def codedLengths (bits bins guardB : Nat → Nat) (share nc b allow flush : Nat) (guard : Bool) (colAt : List Nat) :
    Nat × List Nat :=
  let across := colAt.length - 1
  let coded := if guard then 0 else (codeCtus bits bins share nc b (across * rowOverhead) allow nc 0 0 0).1
  (coded, (List.range across).map fun i =>
    let lo := colAt.getD i 0
    let hi := colAt.getD (i + 1) 0
    cdiv (((List.range (hi - lo)).foldl (fun t j =>
      t + if lo + j < coded then bits (lo + j) else min b (guardB (lo + j))) 0) + min 33 flush) 8)

/-- Bytes of a substream after its own emulation prevention (R141): behind two zeros no byte but 0x03 lies below 0x04. -/
def prevented : Nat → List Byte → List Byte
  | _, [] => []
  | z, b :: bs =>
    let b := if 2 ≤ z ∧ b.toNat ≤ 3 then 3 else b
    b :: prevented (if b = 0 then z + 1 else 0) bs

/-- Substream bytes of a row; the last is not zero (R141). -/
def substream (i : Config.CtuIn) (first coded len : Nat) : List Byte :=
  prevented 0 ((List.range len).map fun p =>
    let b := Config.substreamByte i first coded p
    if p + 1 = len ∧ b = 0 then 0x80 else b)

/-- A reference row is final down to the line that row r needs (R72). -/
def State.refsFinal (s : State) (c : Nat) (a : Au) (r : Nat) : Bool :=
  let g := a.cfg
  let last := min (g.rows - 1) (reachLine g 0 g.height r / g.size)
  a.list0.all fun e => match e.buf with
    | none => true
    | some b => match (s.chan c).bufs[b]? with
      | none => true
      | some p => (List.range (last + 1)).all fun y => (Tab.find? p.rows y).isSome

/-- A row as coded: CTUs coded normally, the CTUs' inputs and decisions, search results, the substreams, and the context states
it leaves. -/
structure RowOut where
  coded  : Nat
  ins    : List Config.CtuIn
  motion : Tab (Int × Int × Int)
  subs   : List (List Byte)
  ctxs   : List (List Byte)
  deriving DecidableEq, Repr

/-- The context states for the row below: after the first CTU of each region's part in VVC, after the second in HEVC (R48). -/
def contextsOf (g : AuCfg) (ins : List Config.CtuIn) : List (List Byte) :=
  (List.range g.across).map fun k =>
    let lo := g.colAt.getD k 0
    let at_ := if g.codec = 0 then lo else min (lo + 1) (g.colAt.getD (k + 1) 0 - 1)
    match ins[at_]? with
    | some i => Config.contextState i
    | none => []

/-- A row's coding (R116, R117): the CTUs coded normally as far as the allowance reaches, guard CTUs behind them. -/
def State.codeRow (s : State) (c : Nat) (a : Au) (r : Nat) (up : RowAbove) : RowOut :=
  let g := a.cfg
  let w := a.row r
  let trial := (s.rowIns c a r up g.cols).1
  let safe := (s.rowIns c a r up 0).1
  let at_ (l : List Config.CtuIn) (x : Nat) : Config.CtuIn := (l[x]?).getD (s.ctuBase c a r x up)
  let bitsOf (x : Nat) : Nat := if s.ctuGuarded a r x then min a.guardBound (Config.guardBits (at_ trial x))
    else Config.ctuBits (at_ trial x)
  let res := codedLengths bitsOf (fun x => Config.ctuBins (at_ trial x)) (fun x => Config.guardBits (at_ safe x))
    (Config.binShare g.objs) g.cols a.guardBound w.allow (Config.flushBits (at_ trial 0)) w.guard g.colAt
  let fin := s.rowIns c a r up res.1
  let last := at_ fin.1 (g.cols - 1)
  { coded := res.1, ins := fin.1, motion := fin.2, ctxs := contextsOf g fin.1
    subs := (List.range res.2.length).map fun k =>
      let lo := g.colAt.getD k 0
      substream last lo (if s.ctuGuarded a r lo then 0 else res.1) (res.2.getD k 0) }

/-- The samples of a CTU row before in-loop filtering, Y', Cb, Cr (R108). -/
def State.rawRow (s : State) (c : Nat) (a : Au) (r : Nat) (up : RowAbove) (o : RowOut) : List Nat :=
  let g := a.cfg
  let v := s.searchEnv c a r
  let ref (comp x y : Nat) : Nat := match (a.list0.head?).bind fun e => e.buf.bind fun b => (s.chan c).bufs[b]? with
    | some p => rowSample g r (Tab.get [] p.rows r) comp x y
    | none => midGrey g.depth
  let f := (List.range g.cols).foldl (fun (f : Nat → Nat → Nat → Nat) x =>
    let e : ModeEnv := ⟨v, (o.ins[x]?).getD (s.ctuBase c a r x up)⟩
    let part (comp : Nat) := g.area (ctuBlock g x r) comp
    let above (comp : Nat) : List Nat := if up.raw.isEmpty then [] else
      (List.range (part comp).2.2.1).map fun i => rowSample g (r - 1) up.raw comp ((part comp).1 + i) ((part comp).2.1 - 1)
    let left (comp : Nat) : List Nat := if g.colAt.contains x then [] else
      (List.range (part comp).2.2.2).map fun i => f comp ((part comp).1 - 1) ((part comp).2.1 + i)
    fun comp px py => if px < (part comp).1 then f comp px py
      else ctuSample e e.i.modes (s.ctuGuarded a r x || decide (o.coded ≤ x)) ref above left comp px py) fun _ _ _ => 0
  (List.range 3).flatMap fun comp =>
    let q := g.area ⟨0, r * g.size, g.width, g.size⟩ comp
    (List.range q.2.2.2).flatMap fun y => (List.range q.2.2.1).map fun x => f comp x (q.2.1 + y)

/-- A row is final once it and, unless it is its region's last, the row below have settled: it is filtered (R72, R196). -/
def PoolBuf.finish (g : AuCfg) (p : PoolBuf) (y : Nat) : PoolBuf :=
  let last := g.rowAt.contains (y + 1)
  if (Tab.find? p.raw y).isNone ∨ ¬(last ∨ (Tab.find? p.raw (y + 1)).isSome) then p
  else
    let first := g.rowAt.contains y
    let raw (k : Nat) (there : Bool) : List Nat := if there then Tab.get [] p.raw k else []
    let ms := (if first then [] else Tab.get [] p.modes (y - 1)) ++ Tab.get [] p.modes y ++
      if last then [] else Tab.get [] p.modes (y + 1)
    { p with rows := Tab.put p.rows y ((List.range (rowSamples g y)).map
        (Config.filtered g.objs true ms (raw (y - 1) (!first)) (raw y true) (raw (y + 1) (!last)))) }

/-- The effect of ROW_CODING (R48, R72, R116, R117): the row above has settled, the band is composed, the references
are final, and the replacement AU stands ready (R24). -/
def State.rowCoding (s : State) (c n r : Nat) : State :=
  match (s.chan c).au? n with
  | none => s
  | some a =>
    let ready := !a.skip && !a.replaced && a.repl.isSome && decide ((a.row r).stage = .decided) &&
      (r == 0 || decide ((a.row (r - 1)).stage = .settled)) && (Tab.find? a.bands r).isSome && s.refsFinal c a r
    if !ready then s
    else
      let up := s.rowAbove c a r
      let o := s.codeRow c a r up
      let raw := s.rawRow c a r up o
      let tail := !(a.row r).guard && decide (o.coded < a.cfg.cols)
      let s := s.onAu c n fun a => a.onRow r fun w =>
        { w with stage := .settled, total := (o.subs.map fun b => 8 * b.length + 8).sum, tail := tail, coded := o.coded
                 subs := o.subs, ctxs := o.ctxs }
      let store (p : PoolBuf) : PoolBuf :=
        { p with raw := Tab.put p.raw r raw, motion := o.motion
                 modes := Tab.put p.modes r (o.ins.flatMap Config.CtuIn.modes) }
      let s := match a.buf with
        | none => s
        | some b => s.onChan c fun q =>
          { q with bufs := q.bufs.modify b fun p => ((store p).finish a.cfg (r - 1)).finish a.cfg r }
      let s := s.onAu c n fun a => { a with settled := a.rows.all fun w => decide (w.stage = .settled) }
      let s := if tail then s.count (basic c 6) 8 else s
      match (s.chan c).au? n, a.buf with
      | some a, some b =>
        if a.settled then s.onChan c fun q => { q with bufs := q.bufs.modify b fun p =>
          { p with recon := reconValue c n (planesOf a.cfg fun r => Tab.get [] p.rows r) } }
        else s
      | _, _ => s

/-- The effect of MODEL_UPDATE (R119, R120): once AU m has fully settled and the model stands after AU m − 1. Values that a
diverged standby has taken from the active stand (R171). -/
def State.modelUpdate (s : State) (c m : Nat) : State :=
  let r := s.chan c
  match r.au? m with
  | none => s
  | some a =>
    if !a.settled || a.modelled || a.replaced || r.aus.any (fun b => r.mine b && decide (b.slot < m) && !b.modelled) then s
    else if !r.mine a then s.setChan c (r.onAu m fun a => { a with modelled := true })
    else
      let prev := match (r.alphas.filter fun p => decide (p.1 < m)).getLast? with
        | some p => p.2
        | none => r.alpha0
      let rows := a.rows.filterMap fun w => if w.guard ∨ w.tail then none else some (w.total, w.xi, w.xp, w.q)
      s.setChan c { r.onAu m (fun a => { a with modelled := true }) with
        alphas := if (Tab.find? r.alphas m).isSome then r.alphas else Tab.put r.alphas m (modelStep prev.1 prev.2 rows) }

end Sys2Proof.Machine
end

