-- ==== Sys2Proof/Machine/Headers.lean ====
section
/-! DEFINITION. Headers.lean: what the parameter sets, picture and slice headers and timing SEI of an AU hold, syntax element by
syntax element (R35, R37, R38, R43, R44, R93, R123, R130-R136, R189). How the codec's standard writes the elements stands in
Config. -/

namespace Sys2Proof.Machine

/-- Syntax elements with their values, in order. -/
abbrev Syntax := List (String × Int)

/-- Elements that all have one value. -/
def allOf (v : Int) (names : List String) : Syntax := names.map fun n => (n, v)

/-- Elements present under a condition. -/
def given (p : Bool) (s : Syntax) : Syntax := if p then s else []

/-- A flag's value. -/
def flagOf (b : Bool) : Int := if b then 1 else 0

/-! ### Parameter sets (R130-R132) -/

/-- Profile, tier and level as admitted (R35, R36), with the general constraint flags of HEVC Main 4:2:2 10; a VVC canvas is
signalled at level 15.5, Main tier (Table 9-3). -/
def State.profileSyntax (v : State) (c : Nat) (g : AuCfg) : Syntax :=
  let idc := v.ch c 0 9
  [("general_profile_idc", (idc : Int)), ("general_tier_flag", (v.ch c 0 0xB : Int)), ("general_level_idc", (v.ch c 0 0xA : Int))] ++
  given (g.codec == 1 && idc == 4)
    (allOf 1 ["general_max_12bit_constraint_flag", "general_max_10bit_constraint_flag", "general_max_422chroma_constraint_flag",
       "general_lower_bit_rate_constraint_flag"] ++
     allOf 0 ["general_max_8bit_constraint_flag", "general_max_420chroma_constraint_flag",
       "general_max_monochrome_constraint_flag", "general_intra_constraint_flag", "general_one_picture_only_constraint_flag"])

/-- num_units_in_tick and time_scale of a frame rate (Table 5-2). -/
def tickSyntax (rate : Nat) : Syntax :=
  if tfNum rate = 1001 then [("num_units_in_tick", 1001), ("time_scale", (tfDen rate : Int))]
  else [("num_units_in_tick", 1000), ("time_scale", ((1000 * tfDen rate / tfNum rate : Nat) : Int))]

/-- HRD parameters (Table 5-2). -/
def hrdSyntax (g : AuCfg) : Syntax :=
  [("nal_hrd_parameters_present_flag", 1), ("vcl_hrd_parameters_present_flag", 0)] ++ tickSyntax g.rate ++
  [("fixed_pic_rate_general_flag", 1), ("fixed_pic_rate_within_cvs_flag", 1), ("elemental_duration_in_tc_minus1", 0),
   ("sub_pic_hrd_params_present_flag", 0), ("bit_rate_scale", 0), ("bit_rate_value_minus1", ((brS g.cap / 64 : Nat) : Int) - 1),
   ("cpb_size_scale", 0), ("cpb_size_value_minus1", ((cpbSize g.cap g.rate / 16 : Nat) : Int) - 1), ("cbr_flag", 0),
   ("low_delay_hrd_flag", 0)]

/-- VUI (R131): colour description from 0x3007:07 to :0A. -/
def State.vuiSyntax (v : State) (c : Nat) (g : AuCfg) : Syntax :=
  [("vui_parameters_present_flag", 1), ("aspect_ratio_idc", 1), ("progressive_source_flag", 1), ("interlaced_source_flag", 0),
   ("field_seq_flag", 0), ("frame_field_info_present_flag", 0), ("colour_primaries", (v.ch c 7 7 : Int)),
   ("transfer_characteristics", (v.ch c 7 8 : Int)), ("matrix_coeffs", (v.ch c 7 9 : Int)),
   ("full_range_flag", (v.ch c 7 0xA : Int))] ++
  given (g.chroma == 0) [("chroma_sample_loc_type", 0)]

/-- Picture size and format. -/
def formatSyntax (g : AuCfg) : Syntax :=
  [("chroma_format_idc", if g.chroma = 0 then 1 else 2), ("pic_width_luma_samples", (g.cw : Int)),
   ("pic_height_luma_samples", (g.ch : Int)), ("bit_depth_minus8", (g.depth : Int) - 8)]

/-- POC and picture buffer (R93, R131). -/
def poolSyntax : Syntax :=
  [("log2_max_pic_order_cnt_lsb_minus4", 12), ("max_dec_pic_buffering_minus1", 5), ("max_num_reorder_pics", 0),
   ("max_latency_increase_plus1", 0), ("max_sub_layers_minus1", 0)]

/-- The Graticule's subpictures in CTUs (Table 9-3). -/
def State.subpicSyntax (v : State) (g : AuCfg) : Syntax :=
  let ns := v.gratRegions
  [("sps_subpic_info_present_flag", 1), ("sps_num_subpics_minus1", (ns : Int) - 1), ("sps_independent_subpics_flag", 0),
   ("sps_subpic_same_size_flag", 0)] ++
  ((List.range ns).flatMap fun i =>
    let q := v.regionAt i
    [("sps_subpic_ctu_top_left_x", ((q.x / g.size : Nat) : Int)), ("sps_subpic_ctu_top_left_y", ((q.y / g.size : Nat) : Int)),
     ("sps_subpic_width_minus1", ((cdiv q.w g.size : Nat) : Int) - 1),
     ("sps_subpic_height_minus1", ((cdiv q.h g.size : Nat) : Int) - 1),
     ("sps_subpic_treated_as_pic_flag", 0), ("sps_loop_filter_across_subpic_enabled_flag", 0)]) ++
  [("sps_subpic_id_len_minus1", max 0 (((if ns ≤ 1 then 0 else Nat.log2 (ns - 1) + 1 : Nat) : Int) - 1)),
   ("sps_subpic_id_mapping_explicitly_signalled_flag", 0)]

/-- The settings of Table 2-4. -/
def State.vvcTools (v : State) (c : Nat) (g : AuCfg) : Syntax :=
  [("sps_log2_ctu_size_minus5", (g.ctu : Int) - 5), ("sps_log2_min_luma_coding_block_size_minus2", 1),
   ("min_qt_leaf_intra", 16), ("min_qt_leaf_inter", 16), ("sps_max_mtt_hierarchy_depth_intra_slice_luma", 2),
   ("sps_max_mtt_hierarchy_depth_inter_slice", 2), ("max_bt_size", 64), ("max_tt_size", 32),
   ("sps_qtbtt_dual_tree_intra_flag", 0), ("sps_max_luma_transform_size_64_flag", 1),
   ("sps_transform_skip_enabled_flag", (v.chX c 0 2 : Int)), ("max_transform_skip_size", 4)] ++
  allOf 1 ["sps_joint_cbcr_enabled_flag", "sps_sign_data_hiding_enabled_flag"] ++
  allOf 0 ["sps_dep_quant_enabled_flag", "sps_mts_enabled_flag", "sps_lfnst_enabled_flag", "sps_sbt_enabled_flag"] ++
  [("sps_sao_enabled_flag", 1), ("sps_alf_enabled_flag", (v.chX c 0 3 : Int))] ++
  allOf 0 ["sps_ccalf_enabled_flag", "sps_lmcs_enabled_flag"] ++ allOf 1 ["sps_mrl_enabled_flag", "sps_cclm_enabled_flag"] ++
  allOf 0 ["sps_isp_enabled_flag", "sps_mip_enabled_flag", "sps_bdpcm_enabled_flag"] ++
  [("sps_temporal_mvp_enabled_flag", 1), ("sps_sbtmvp_enabled_flag", 0), ("sps_amvr_enabled_flag", 1),
   ("sps_mmvd_enabled_flag", 1), ("sps_six_minus_max_num_merge_cand", 0), ("sps_affine_enabled_flag", (v.chX c 0 4 : Int)),
   ("sps_6param_affine_enabled_flag", 0), ("sps_affine_amvr_enabled_flag", 1), ("sps_affine_prof_enabled_flag", 0),
   ("sps_five_minus_max_num_subblock_merge_cand", 2)] ++
  allOf 0 ["sps_bdof_enabled_flag", "sps_dmvr_enabled_flag", "sps_smvd_enabled_flag", "sps_bcw_enabled_flag",
    "sps_ciip_enabled_flag", "sps_gpm_enabled_flag", "sps_weighted_pred_flag", "sps_weighted_bipred_flag",
    "sps_palette_enabled_flag", "sps_act_enabled_flag", "sps_ibc_enabled_flag", "sps_ref_pic_resampling_enabled_flag",
    "sps_explicit_scaling_list_enabled_flag"] ++
  allOf 1 ["sps_long_term_ref_pics_flag", "sps_entropy_coding_sync_enabled_flag", "sps_entry_point_offsets_present_flag"] ++
  [("sps_gdr_enabled_flag", flagOf (v.ch c 2 1 == 1)), ("sps_virtual_boundaries_enabled_flag", flagOf (v.ch c 2 1 == 1)),
   ("sps_virtual_boundaries_present_flag", 0)]

/-- The settings of Table 2-5. -/
def State.hevcTools (v : State) (c : Nat) (g : AuCfg) : Syntax :=
  [("log2_ctb_size", (g.ctu : Int)), ("log2_min_luma_coding_block_size_minus3", 0),
   ("log2_min_luma_transform_block_size_minus2", 0), ("log2_max_luma_transform_block_size", 5),
   ("max_transform_hierarchy_depth_intra", 1), ("max_transform_hierarchy_depth_inter", 1), ("amp_enabled_flag", 1),
   ("sample_adaptive_offset_enabled_flag", 1), ("strong_intra_smoothing_enabled_flag", 1),
   ("sps_temporal_mvp_enabled_flag", 1), ("long_term_ref_pics_present_flag", 1), ("num_long_term_ref_pics_sps", 0),
   ("num_short_term_ref_pic_sets", 0), ("pcm_enabled_flag", 0), ("scaling_list_enabled_flag", 0),
   ("sps_range_extension_flag", 0), ("transform_skip_enabled_flag", (v.chX c 0 2 : Int))]

/-- The VPS (HEVC). -/
def State.vpsSyntax (v : State) (c : Nat) (g : AuCfg) : Syntax :=
  [("vps_video_parameter_set_id", 0)] ++ v.profileSyntax c g ++ poolSyntax

/-- The SPS. -/
def State.spsSyntax (v : State) (c : Nat) (g : AuCfg) : Syntax :=
  [("sps_seq_parameter_set_id", 0), ("sps_video_parameter_set_id", 0)] ++ v.profileSyntax c g ++ formatSyntax g ++ poolSyntax ++
  (if g.codec = 0 then v.vvcTools c g ++ (if g.canvas then v.subpicSyntax g else [("sps_subpic_info_present_flag", 0)])
   else v.hevcTools c g) ++
  v.vuiSyntax c g ++ hrdSyntax g

/-- The tiles of a canvas: one for each region, columns and rows of the Graticule in CTUs (Table 9-3). -/
def State.tileSyntax (v : State) (g : AuCfg) : Syntax :=
  let cuts (l : List Nat) : List Nat := (l.zip (l.drop 1)).map fun p => cdiv p.2 g.size - cdiv p.1 g.size
  ((cuts v.gratX).map fun w => ("tile_column_width", (w : Int))) ++ ((cuts v.gratY).map fun h => ("tile_row_height", (h : Int)))

/-- The PPS. -/
def State.ppsSyntax (v : State) (g : AuCfg) : Syntax :=
  [("pps_pic_parameter_set_id", 0), ("pps_seq_parameter_set_id", 0), ("init_qp_minus26", 0)] ++
  (if g.codec = 0 then
    allOf 1 ["pps_rpl_info_in_ph_flag", "pps_sao_info_in_ph_flag", "pps_alf_info_in_ph_flag", "pps_dbf_info_in_ph_flag",
      "pps_deblocking_filter_override_enabled_flag", "pps_cu_qp_delta_enabled_flag"] ++
    [("pps_qp_delta_info_in_ph_flag", 0)] ++
    (if g.canvas then
      v.tileSyntax g ++ [("pps_loop_filter_across_tiles_enabled_flag", 0), ("pps_rect_slice_flag", 1),
        ("pps_single_slice_per_subpic_flag", 1), ("pps_loop_filter_across_slices_enabled_flag", 0)]
     else [("pps_no_pic_partition_flag", 1)])
   else
    [("sign_data_hiding_enabled_flag", 1), ("weighted_pred_flag", 0), ("weighted_bipred_flag", 0),
     ("constrained_intra_pred_flag", 0), ("entropy_coding_sync_enabled_flag", 1), ("cu_qp_delta_enabled_flag", 1),
     ("diff_cu_qp_delta_depth", 0), ("deblocking_filter_override_enabled_flag", 1),
     ("tiles_enabled_flag", flagOf g.canvas)] ++
    given g.canvas ([("uniform_spacing_flag", 0)] ++ v.tileSyntax g ++
      [("loop_filter_across_tiles_enabled_flag", 0), ("pps_loop_filter_across_slices_enabled_flag", 0)]))

/-- What the partition syntax of a canvas may add to P1: half as much again for emulation prevention (R129). -/
def State.canvasExtra (v : State) (g : AuCfg) : Nat :=
  if g.canvas then
    cdiv (3 * Config.canvasSyntaxBits g.codec ((if g.codec = 0 then v.subpicSyntax g else []) ++ v.tileSyntax g)) 16
  else 0

/-! ### Picture and slice headers (R133, R134, Table 6-3) -/

/-- Whether an AU's picture 0 starts a sweep. -/
def Au.sweepStart (a : Au) : Bool := a.sweep.any fun x => x.1 == 0

/-- The coded reference structure (R92, R93): active entries, then held ones; long-term and pinned entries as long-term with
their POC MSBs. -/
def Au.refSyntax (a : Au) : Syntax :=
  let entry (used : Bool) (e : PicEntry) : Syntax :=
    [("used_by_curr_pic", flagOf used), ("long_term", flagOf (e.mark != .shortTerm))] ++
    (if e.mark = .shortTerm then [("delta_poc", (a.poc : Int) - e.poc)]
     else [("poc_lsb_lt", ((e.poc % 65536 : Nat) : Int)), ("delta_poc_msb_present_flag", 1),
       ("delta_poc_msb_cycle", ((a.poc / 65536 : Nat) : Int) - (e.poc / 65536 : Nat))])
  if a.idr then []
  else [("num_ref_entries", ((a.list0.length + a.held.length : Nat) : Int)), ("num_ref_idx_active_minus1", (a.list0.length : Int) - 1)] ++
    a.list0.flatMap (entry true) ++ a.held.flatMap (entry false)

/-- Coded as a replacement (R134): headers without recovery and virtual boundary, filters off. A skip AU has these headers
too (R22). -/
def Au.plain (a : Au) (repl : Bool) : Bool := repl || a.skip

/-- In-loop filters in the header (Table 6-3, R134). -/
def State.filterSyntax (v : State) (c : Nat) (a : Au) (repl : Bool) : Syntax :=
  let on := flagOf !(a.plain repl)
  [("sao_luma_used_flag", on), ("sao_chroma_used_flag", on)] ++
  given (a.cfg.codec == 0) [("alf_enabled_flag", on * v.chX c 0 3), ("num_alf_aps_ids_luma", 0), ("alf_cb_enabled_flag", 0),
    ("alf_cr_enabled_flag", 0)] ++
  [("deblocking_filter_override_flag", flagOf (a.plain repl)), ("deblocking_filter_disabled_flag", flagOf (a.plain repl)),
   ("beta_offset_div2", 0), ("tc_offset_div2", 0)]

/-- Temporal motion vector prediction: off in sweep pictures and in a canvas, else from list-0 index 0. -/
def Au.tmvpSyntax (a : Au) : Syntax :=
  given (!a.idr) (if a.sweep.isSome ∨ a.cfg.canvas then [("temporal_mvp_enabled_flag", 0)]
    else [("temporal_mvp_enabled_flag", 1), ("collocated_from_l0_flag", 1), ("collocated_ref_idx", 0)])

/-- The clean boundary of a sweep picture: the right edge of its intra column (R43). -/
def Au.cleanBoundary (a : Au) : Nat :=
  match a.sweep with
  | some (i, g) => (i + 1) * a.cfg.cols / g * a.cfg.size
  | none => 0

/-- The VVC picture header. -/
def State.phSyntax (v : State) (c : Nat) (a : Au) (repl : Bool) : Syntax :=
  let gdr := a.sweepStart && !a.plain repl
  [("ph_gdr_or_irap_pic_flag", flagOf (a.idr || gdr)), ("ph_gdr_pic_flag", flagOf gdr), ("ph_inter_slice_allowed_flag", flagOf !a.idr),
   ("ph_pic_parameter_set_id", 0), ("ph_pic_order_cnt_lsb", ((a.poc % 65536 : Nat) : Int))] ++
  given gdr [("ph_recovery_poc_cnt", (((a.sweep.map (·.2)).getD 1 : Nat) : Int) - 1)] ++
  given (a.sweep.isSome && !a.plain repl) [("ph_virtual_boundaries_present_flag", 1), ("ph_num_ver_virtual_boundaries", 1),
    ("ph_virtual_boundary_pos_x", (a.cleanBoundary : Int)), ("ph_num_hor_virtual_boundaries", 0)] ++
  a.refSyntax ++ a.tmvpSyntax ++ v.filterSyntax c a repl

/-- The slice header up to the entry-point syntax, of the slice of region i in a canvas. -/
def State.sliceSyntax (v : State) (c : Nat) (a : Au) (repl : Bool) (i : Nat) : Syntax :=
  let g := a.cfg
  let q := v.regionAt i
  let kind : Int := if a.idr then 2 else if v.ch c 2 6 = 1 then 0 else 1
  let addr : Nat := q.y / g.size * cdiv g.cw g.size + q.x / g.size
  if g.codec = 0 then
    given g.canvas [("sh_subpic_id", (i : Int))] ++ [("sh_slice_type", kind), ("sh_qp_delta", (a.qb : Int) - 26)]
  else
    [("first_slice_segment_in_pic_flag", flagOf (!g.canvas || i == 0)), ("slice_pic_parameter_set_id", 0)] ++
    given (g.canvas && i != 0) [("slice_segment_address", (addr : Int))] ++ [("slice_type", kind)] ++
    given (!a.idr) [("slice_pic_order_cnt_lsb", ((a.poc % 65536 : Nat) : Int))] ++ a.refSyntax ++ a.tmvpSyntax ++
    given (!a.idr) [("five_minus_max_num_merge_cand", 0)] ++ [("slice_qp_delta", (a.qb : Int) - 26)] ++
    v.filterSyntax c a repl

/-! ### Timing SEI (Table 5-2, R126, R135) -/

/-- Buffering period. -/
def bufferingSyntax (g : AuCfg) : Syntax :=
  [("nal_initial_cpb_removal_delay", (tau g.rate : Int)), ("nal_initial_cpb_removal_offset", 0), ("concatenation_flag", 1)]

/-- Picture timing: the CPB removal delay in frame periods from the last buffering period AU, 24 bits. -/
def Au.timingSyntax (a : Au) : Syntax :=
  [("cpb_removal_delay_length", 24), ("cpb_removal_delay", ((a.bpDelay % 16777216 : Nat) : Int)), ("dpb_output_delay", 0)]

/-- Drop-frame counting: at 29.97 and 59.94 Hz (R136). -/
def dropFrame (rate : Nat) : Bool := tfNum rate == 1001 && (tfDen rate == 30000 || tfDen rate == 60000)

/-- One clock timestamp with hours, minutes, seconds and frames, the frames counted within the second (R136). -/
def clockSyntax (rate : Nat) (t : Nat × Nat × Nat × Nat) : Syntax :=
  [("num_clock_ts", 1), ("clock_timestamp_flag", 1), ("units_field_based_flag", 0), ("counting_type", 4), ("full_timestamp_flag", 1),
   ("cnt_dropped_flag", flagOf (dropFrame rate)), ("n_frames", ((t.2.2.2 % cdiv (tfDen rate) (tfNum rate) : Nat) : Int)),
   ("seconds_value", (t.2.2.1 : Int)), ("minutes_value", (t.2.1 : Int)), ("hours_value", (t.1 : Int))]

end Sys2Proof.Machine
end

