-- ==== Sys2Proof/Machine/Bitstream.lean ====
section
/-! DEFINITION. Bitstream.lean: bit strings, emulation prevention, NAL units, SEI and the joining of substreams
(R125-R142). The codec's own syntax of the elements stands in Config, cut to the bounds of Table 6-2. -/

namespace Sys2Proof.Machine

/-! ### Bit strings -/

/-- The low `n` bits of a number, most significant first. -/
def bitsOf (n v : Nat) : List Bool := (List.range n).map fun i => v.testBit (n - 1 - i)

/-- An unsigned Exp-Golomb code, ue(v). -/
def ueBits (v : Nat) : List Bool :=
  let m := Nat.log2 (v + 1)
  List.replicate m false ++ bitsOf (m + 1) (v + 1)

/-- Bits packed into bytes after one stop bit and zeros: byte_alignment(). -/
def packBits (bs : List Bool) : List Byte :=
  let all := bs ++ [true]
  (List.range (cdiv all.length 8)).map fun i =>
    BitVec.ofNat 8 (((all.drop (8 * i)).take 8 ++ List.replicate (8 - ((all.drop (8 * i)).take 8).length) false).foldl
      (fun n b => 2 * n + b2n b) 0)

/-- Emulation prevention: 0x03 before any byte 0x00 to 0x03 that follows two zeros; `z` zeros stand before. -/
def emulate : Nat → List Byte → List Byte
  | _, [] => []
  | z, b :: bs =>
    if 2 ≤ z ∧ b.toNat ≤ 3 then 3 :: b :: emulate (if b = 0 then 1 else 0) bs
    else b :: emulate (if b = 0 then z + 1 else 0) bs

/-! ### NAL units (R125-R127) -/

/-- A four-byte start code. -/
def startCode : List Byte := [0, 0, 0, 1]

/-- The two-byte NAL header: nuh_layer_id 0, temporal_id_plus1 1 (R125). -/
def nalHeader (codec type_ : Nat) : List Byte :=
  if codec = 0 then [0, BitVec.ofNat 8 (8 * type_ + 1)] else [BitVec.ofNat 8 (2 * type_), 1]

/-- A NAL unit with its start code. -/
def nal (codec type_ : Nat) (payload : List Byte) : List Byte :=
  startCode ++ nalHeader codec type_ ++ emulate 0 payload

/-- NAL unit types of Table 6-1. -/
structure NalTypes where
  aud : Nat
  vps : Nat
  sps : Nat
  pps : Nat
  prefixSei : Nat
  ph : Nat
  suffixSei : Nat
  deriving DecidableEq, Repr

/-- Table 6-1 for a codec: 0 VVC, 1 HEVC. -/
def nalTypes (codec : Nat) : NalTypes :=
  if codec = 0 then ⟨20, 14, 15, 16, 23, 19, 24⟩ else ⟨35, 32, 33, 34, 39, 19, 40⟩

/-- The slice NAL unit type (R127). -/
def sliceType (codec : Nat) (idr sweepStart : Bool) : Nat :=
  if codec = 0 then (if idr then 8 else if sweepStart then 10 else 0) else (if idr then 20 else 1)

/-- The AUD of an AU (R127): `pic` is 0, 1 or 2 for intra-only, P and B. -/
def audNal (codec pic : Nat) (irapOrGdr : Bool) : List Byte :=
  nal codec (nalTypes codec).aud
    (packBits (if codec = 0 then irapOrGdr :: bitsOf 3 pic else bitsOf 3 pic))

/-- A NAL unit of the codec's own syntax from its elements, within its bound of Table 6-2. -/
def codecNal (codec type_ bound : Nat) (elements : Syntax) : List Byte :=
  (nal codec type_ (Config.nalBytes codec type_ elements)).take bound

/-! ### Joins (R141) -/

/-- A join between two substreams: the first with the byte that R141 inserts into it, how many bytes that counts, and the
second. -/
def joinPair (a b : List Byte) : List Byte × Nat × List Byte :=
  let x := a.drop (a.length - 2)
  match x, b with
  | [0, 0], c :: _ => if c.toNat ≤ 3 then (a ++ [3], 1, b) else (a, 0, b)
  | [_, 0], c :: d :: rest => if c = 0 ∧ d.toNat ≤ 3 then (a, 1, c :: 3 :: d :: rest) else (a, 0, b)
  | _, _ => (a, 0, b)

/-- The subsets of a slice after its joins, with their lengths: an inserted byte belongs to the one before the join,
also where it stands behind the next one's first byte. -/
def joinAll : List (List Byte) → List (List Byte × Nat)
  | [] => []
  | a :: rest =>
    match rest, joinAll rest with
    | b :: _, (bb, n) :: more =>
      let j := joinPair a b
      (j.1, a.length + j.2.1) :: ((if j.2.2 = b then bb else bb.take 1 ++ 3 :: bb.drop 1), n) :: more
    | _, _ => [(a, a.length)]

/-! ### Slices (R133, R142) -/

/-- A slice: its header's elements up to the entry points, and its substreams in row order. -/
structure SliceIn where
  elements : Syntax
  subs     : List (List Byte)
  deriving DecidableEq, Repr

/-- A slice NAL unit as written: its bytes, header bytes, bits of entry-point syntax, bytes of slice data. -/
structure SliceOut where
  bytes : List Byte
  head  : Nat
  entryBits : Nat
  data  : Nat
  deriving DecidableEq, Repr

/-- The entry-point syntax of a slice (R128, R142). -/
def entryPoints (codec : Nat) (lens : List Nat) : List Bool :=
  let offs := lens.dropLast
  if offs.isEmpty then (if codec = 0 then [] else ueBits 0)
  else
    let top := offs.foldl (fun m n => max m (n - 1)) 0
    let n := max 1 (if top = 0 then 0 else Nat.log2 top + 1)
    (if codec = 0 then [] else ueBits offs.length) ++ ueBits (n - 1) ++ offs.flatMap fun l => bitsOf n (l - 1)

/-- One slice NAL unit. -/
def sliceNal (codec type_ bound : Nat) (s : SliceIn) : SliceOut :=
  let subs := joinAll s.subs
  let entry := entryPoints codec (subs.map (·.2))
  let fixed := (Config.sliceHeaderBits codec s.elements).take (8 * (bound - 7))
  let head := startCode ++ nalHeader codec type_ ++ emulate 0 (packBits (fixed ++ entry))
  let data := subs.flatMap (·.1)
  let j := joinPair head data
  ⟨j.1 ++ j.2.2, j.1.length, entry.length, j.2.2.length⟩

/-! ### SEI (R135-R140) -/

/-- A payload with its type and size bytes, after emulation prevention. No payload type of Table 6-4 in the second SEI
NAL unit lies below 4, so one payload's prevention does not depend on the next. -/
def seiMsg (type_ : Nat) (payload : List Byte) : List Byte :=
  let p := payload.take 254
  emulate 0 (BitVec.ofNat 8 type_ :: BitVec.ofNat 8 p.length :: p)

/-- UUID of the Survey payload (Table 6-5). -/
def surveyUuid : List Byte :=
  [0x5C, 0x7A, 0x0E, 0x31, 0x9B, 0xD2, 0x44, 0x06, 0xA1, 0x3F, 0x70, 0x88, 0xE5, 0x2B, 0xC9, 0x14]

/-- The Survey payload (Table 6-5). -/
def surveyPayload (c survey epoch : Nat) : List Byte :=
  surveyUuid ++ [1, BitVec.ofNat 8 c] ++ beBytes 4 survey ++ beBytes 4 epoch

/-- Mastering display colour volume: primaries G, B, R as x then y, white point, maximum and minimum luminance. -/
def State.masteringPayload (s : State) (c : Nat) : List Byte :=
  ((List.range 8).flatMap fun i => beBytes 2 (s.chX c 9 (i + 1))) ++ beBytes 4 (s.chX c 9 9) ++ beBytes 4 (s.chX c 9 0xA)

/-- Content light level. -/
def State.lightPayload (s : State) (c : Nat) : List Byte :=
  beBytes 2 (s.chX c 9 0xB) ++ beBytes 2 (s.chX c 9 0xC)

/-- An SEI NAL unit over payloads already written, or nothing when it carries none. -/
def seiNal (codec type_ : Nat) (payloads : List Byte) : List Byte :=
  if payloads.isEmpty then [] else startCode ++ nalHeader codec type_ ++ payloads ++ [0x80]

/-- A payload with its type and size bytes, before emulation prevention. -/
def seiRaw (type_ : Nat) (payload : List Byte) : List Byte :=
  BitVec.ofNat 8 type_ :: BitVec.ofNat 8 payload.length :: payload

/-- The timing SEI NAL unit, within its bound of Table 6-2: buffering period where one is due, then picture timing (R126). -/
def timingNal (codec : Nat) (buffering : Option Syntax) (timing : Syntax) : List Byte :=
  let bp := match buffering with
    | some e => seiRaw 0 ((Config.seiPayload codec 0 e).take 254)
    | none => []
  seiNal codec (nalTypes codec).prefixSei ((emulate 0 (bp ++ seiRaw 1 ((Config.seiPayload codec 1 timing).take 254))).take 33)

/-- recovery_poc_cnt as se(v), exact_match_flag 1, broken_link_flag 0 (R43). -/
def recoveryPayload (g : Nat) : List Byte :=
  packBits (ueBits (2 * (g - 1) - 1) ++ [true, false])

/-- The decoded picture hash (R137): hash_type 1, in VVC the byte of dph_sei_single_component_flag 0, and a CRC-16 for each
component. -/
def hashPayload (codec depth : Nat) (planes : List (List Nat)) : List Byte :=
  [1] ++ (if codec = 0 then [0] else []) ++ planes.flatMap fun p => beBytes 2 (crc16 (Config.hashBytes depth p))

/-- The suffix SEI NAL unit with the hash of a picture (R137). -/
def hashSuffix (codec depth : Nat) (planes : List (List Nat)) : List Byte :=
  seiNal codec (nalTypes codec).suffixSei (seiMsg 132 (hashPayload codec depth planes))

/-- An ancillary packet as user_data_registered_itu_t_t35 (R139): country 0xB5, provider 0x0031, "DTG1" for AFD; "GA94" and
user_data_type_code 0x03 for captions. -/
def ancPayload (did : Nat) (data : List Byte) : List Byte :=
  [0xB5, 0x00, 0x31] ++
  if did = 0x41 then [0x44, 0x54, 0x47, 0x31] ++ Config.afdData data
  else [0x47, 0x41, 0x39, 0x34, 0x03] ++ Config.ccData data

/-! ### A whole AU (Table 6-1) -/

/-- What an AU is laid out from. -/
structure AuIn where
  codec : Nat
  pic   : Nat
  irapOrGdr : Bool
  sliceType : Nat
  /-- VPS, SPS and PPS, where they are sent (R130). -/
  sets  : Option (Syntax × Syntax × Syntax)
  /-- What the partition of a canvas may add to the parameter sets (R129). -/
  extra : Nat
  buffering : Option Syntax
  timing : Syntax
  header : Syntax
  /-- SEI payloads of the second prefix SEI NAL unit before the ancillary ones, those themselves, and Survey's. -/
  sei   : List Byte
  anc   : List Byte
  tail  : List Byte
  slices : List SliceIn
  deriving DecidableEq, Repr

/-- An AU laid out up to its suffix SEI: its bytes, and how many of them lie outside slice data, in P2 and in P3 (R128). -/
structure AuOut where
  bytes : List Byte
  outside : Nat
  p2    : Nat
  p3    : Nat
  deriving DecidableEq, Repr

/-- An AU with its suffix SEI. -/
def AuOut.close (o : AuOut) (suffix : List Byte) : AuOut :=
  { o with bytes := o.bytes ++ suffix, outside := o.outside + suffix.length }

/-- P2: the entry-point syntax of the first slice, and the whole headers of the others (R128). -/
def p2Of : List SliceOut → Nat
  | [] => 0
  | x :: rest => cdiv x.entryBits 8 + (rest.map (·.head)).sum

/-- The NAL units of an AU in the order of Table 6-1, but for the suffix SEI. -/
def layOut (x : AuIn) : AuOut :=
  let t := nalTypes x.codec
  let vvc := x.codec = 0
  let aud := audNal x.codec x.pic x.irapOrGdr
  let sets := match x.sets with
    | none => []
    | some (vps, sps, pps) =>
      let a := codecNal x.codec t.sps (136 + x.extra) sps
      (if vvc then [] else codecNal x.codec t.vps 40 vps) ++ a ++
        codecNal x.codec t.pps (32 + (x.extra - (a.length - 136))) pps
  let timing := timingNal x.codec x.buffering x.timing
  let other := seiNal x.codec t.prefixSei (x.sei ++ x.anc ++ x.tail)
  let ph := if vvc then codecNal x.codec t.ph 56 x.header else []
  let slices := x.slices.map (sliceNal x.codec x.sliceType (if vvc then 20 else 72))
  let head := aud ++ sets ++ timing ++ other ++ ph
  ⟨head ++ slices.flatMap (·.bytes), head.length + (slices.map (·.head)).sum, p2Of slices, x.anc.length⟩

end Sys2Proof.Machine
end

