-- ==== Sys2Proof/Machine/Assembly.lean ====
section
/-! DEFINITION. Assembly.lean: replacement AUs, AU assembly, completion and the deadline rescue (R12, R22-R29, R96, R98,
R130-R142). -/

namespace Sys2Proof.Machine

/-- A code for a mark (Table 8-3). -/
def Mark.code : Mark → Nat
  | .shortTerm => 1
  | .longTerm => 2
  | .pinned => 3

/-- The ancillary packets of an AU's slot (R139). -/
def State.ancOf (s : State) (v : State) (c n : Nat) : List AncPacket :=
  let f := v.ch c 7 0xD
  if f = 0xFFFF then [] else (Tab.get [] (s.flow f).anc n).flatMap (·.2)

/-- The ancillary flow of an AU's slot has closed, or there is none (R140). -/
def State.ancReady (s : State) (v : State) (c n : Nat) : Bool :=
  let f := v.ch c 7 0xD
  f == 0xFFFF || !(s.recAt f n).on || (s.flow f).ancClosed.contains n

/-- SEI payloads before the ancillary ones, in the order of Table 6-4. `pkts` are the slot's ancillary packets;
`repl` a replacement in place of the AU. -/
def State.seiBefore (v : State) (c : Nat) (a : Au) (repl : Bool) (pkts : List AncPacket) : List Byte :=
  let start := a.idr || (a.sweepStart && !repl)
  let rec6 := if a.cfg.codec = 1 ∧ a.sweepStart ∧ ¬repl then seiMsg 6 (recoveryPayload ((a.sweep.map (·.2)).getD 1)) else []
  let atc := pkts.find? fun p => p.did == 0x60 && p.sdid == 0x60
  let stamp (x : Nat × Nat × Nat × Nat) : List Byte :=
    seiMsg 136 ((Config.seiPayload a.cfg.codec 136 (clockSyntax a.cfg.rate x)).take 8)
  let tc := match v.ch c 7 3 with
    | 0 => []
    | 1 => if repl then [] else match atc with
      | some p => stamp (Config.atcClock p.data)
      | none => []
    | _ =>
      let t := t0 a.cfg.rate a.slot
      stamp (Config.st2059Clock (1000000000 * tickSecs t + tickNanos t) (v.obj 0x2701 0xB) (v.obj (expert c 9) 0xD) a.cfg.rate)
  let mast := if v.chX c 9 9 ≠ 0 ∧ (start ∨ (bit a.seiChange 0)) then seiMsg 137 (v.masteringPayload c) else []
  let light := if (v.chX c 9 0xB ≠ 0 ∨ v.chX c 9 0xC ≠ 0) ∧ (start ∨ (bit a.seiChange 1))
    then seiMsg 144 (v.lightPayload c) else []
  let alt := if v.chX c 9 0xE ≠ 0 ∧ start then seiMsg 147 (beBytes 1 (v.chX c 9 0xE)) else []
  rec6 ++ tc ++ mast ++ light ++ alt

/-- The Survey payload, the last of the second SEI NAL unit. -/
def State.seiSurvey (v : State) (c : Nat) (a : Au) : List Byte :=
  if v.ch c 7 4 = 1 then seiMsg 5 (surveyPayload c a.survey a.epoch) else []

/-- Ancillary payloads in the order of R140: AFD, then captions, each with its DID, SDID and bytes; several of one kind in the
order of their arrival (DESIGN CHOICE, log 119). -/
def State.ancPayloads (v : State) (c : Nat) (pkts : List AncPacket) : List (Nat × Nat × List Byte) :=
  let take_ (on : Bool) (did sdid : Nat) : List (Nat × Nat × List Byte) :=
    if on then (pkts.filter fun p => p.did == did && p.sdid == sdid).map fun p =>
      (did, sdid, seiMsg 4 (ancPayload did p.data)) else []
  take_ (v.ch c 7 6 == 1) 0x41 0x05 ++ take_ (v.ch c 7 5 == 1) 0x61 0x01

/-- Those that fit in U, and those omitted (R140). -/
def fitAnc : Nat → List (Nat × Nat × List Byte) → List Byte × List (Nat × Nat × Nat)
  | _, [] => ([], [])
  | room, (d, sd, b) :: rest =>
    if b.length ≤ room then
      let r := fitAnc (room - b.length) rest
      (b ++ r.1, r.2)
    else
      let r := fitAnc room rest
      (r.1, (d, sd, b.length) :: r.2)

/-- The AU as the guard-coding task sees it: before its row 0 starts, with nothing of its references coded that it could wait for;
so no collocated motion enters its merge lists (DESIGN CHOICE, log 118). -/
def Au.blind (a : Au) : Au := { a with list0 := a.list0.map fun e => { e with buf := none, shared := false } }

/-- Rows lo to lo + k − 1 of an AU coded as guard rows, one after the other, from what stands above row lo (R24, R107). -/
def State.guardRows (s : State) (c : Nat) (a : Au) : Nat → Nat → RowAbove → List RowOut
  | _, 0, _ => []
  | lo, k + 1, up =>
    let a := a.onRow lo fun w => { w with guard := true, q := a.qb }
    let up := if a.cfg.rowAt.contains lo then RowAbove.none_ else up
    let o := s.codeRow c a lo up
    o :: s.guardRows c a (lo + 1) k ⟨up.modes ++ o.ins.flatMap Config.CtuIn.modes, [], o.ctxs⟩

/-- The AU as the owner of region i codes it, rows untouched, and where the region stands in the owner's rectangle: its
column index, first CTU row and rows. -/
def State.ownerView (s : State) (c : Nat) (a : Au) (i : Nat) : Au × Nat × Nat × Nat :=
  let p := s.nat 0x2311 (i + 1)
  let g := s.auCfgAt c p
  let m := s.memberCells p
  let cs := max 1 (s.nat 0x2310 1)
  let j := i / cs - m.2.2.1
  ({ a with cfg := g, rows := List.replicate g.rows RowRt.empty }, i % cs - m.1, g.rowAt.getD j 0,
   g.rowAt.getD (j + 1) 0 - g.rowAt.getD j 0)

/-- Rows `from_` onward of region i coded as guard rows, behind a guard row that left `context` (R203); from 0, the whole region. -/
def State.guardRegion (s : State) (c : Nat) (a : Au) (i from_ : Nat) (context : List Byte) : List (List Byte) :=
  let v := s.ownerView c a i
  let me := v.1.blind
  let here (l : List RowOut) : List (List Byte) := l.map fun o => o.subs.getD v.2.1 []
  if from_ = 0 then here (s.guardRows c me v.2.2.1 v.2.2.2 RowAbove.none_)
  else
    let before := s.guardRows c me (v.2.2.1 + from_ - 1) 1 RowAbove.none_
    let modes := before.flatMap fun o => o.ins.flatMap Config.CtuIn.modes
    here (s.guardRows c me (v.2.2.1 + from_) (v.2.2.2 - from_) ⟨modes, [], List.replicate (v.2.1 + 1) context⟩)

/-- Every slice of an AU coded as guard CTUs (R24, R107): one, or one for each region of a canvas (R189); `v` holds the objects
of its slot. -/
def State.guardSlices (s v : State) (c : Nat) (a : Au) (repl : Bool) : List SliceIn :=
  if a.cfg.canvas then (List.range s.gratRegions).map fun (i : Nat) => ⟨v.sliceSyntax c a repl i, s.guardRegion c a i 0 []⟩
  else [⟨v.sliceSyntax c a repl 0, (s.guardRows c a.blind 0 a.rows.length RowAbove.none_).flatMap (·.subs)⟩]

/-- The layout of an AU up to its suffix SEI: `repl` for its replacement, with the ancillary payloads that go into it. -/
def State.auLayout (v : State) (c : Nat) (a : Au) (repl : Bool) (pkts : List AncPacket) (anc : List Byte)
    (slices : List SliceIn) : AuOut :=
  let g := a.cfg
  let start := a.sweepStart && !repl
  layOut
    { codec := g.codec
      pic := if a.idr then 0 else 1 + v.ch c 2 6
      irapOrGdr := a.idr || (start && g.codec == 0)
      sliceType := sliceType g.codec a.idr start
      sets := if a.idr || start || v.ch c 7 1 == 1 then some (v.vpsSyntax c g, v.spsSyntax c g, v.ppsSyntax g) else none
      extra := v.canvasExtra g
      buffering := if a.idr || start then some (bufferingSyntax g) else none
      timing := a.timingSyntax, header := v.phSyntax c a repl
      sei := v.seiBefore c a repl pkts, anc := anc, tail := v.seiSurvey c a
      slices := slices }

/-- The suffix SEI of an AU over the planes of its picture, where the hash is on; a canvas carries none (R137, Table 9-3). -/
def State.auSuffix (v : State) (c : Nat) (a : Au) (planes : List (List Nat)) : List Byte :=
  if v.ch c 7 2 = 1 ∧ ¬a.cfg.canvas then hashSuffix a.cfg.codec a.cfg.depth planes else []

/-- The planes of the picture in a buffer. -/
def State.bufPlanes (s : State) (c : Nat) (g : AuCfg) (b : Nat) : List (List Nat) :=
  planesOf g fun r => ((((s.chan c).bufs[b]?).map (·.rows)).bind fun t => Tab.find? t r).getD []

/-- The planes of the picture that a replacement shows: its root's, or mid-grey (R24, R137). -/
def State.replPlanes (s : State) (c : Nat) (a : Au) : List (List Nat) :=
  match ChanRt.rootBuf a.list0 with
  | some b => s.bufPlanes c a.cfg b
  | none => planesOf a.cfg (greyRow a.cfg)

/-- A replacement's bytes up to its suffix SEI, which waits for the root (R24). -/
def State.replBytes (s : State) (v : State) (c : Nat) (a : Au) (pkts : List AncPacket) (anc : List Byte) : AuOut :=
  v.auLayout c a true pkts anc (s.guardSlices v c a true)

/-- The effect of REPLACEMENT_AU (R24, R134): the replacement stands in DRAM before row 0 starts. A skip AU's rows have settled
with it. -/
def State.replacementAu (s : State) (c n : Nat) : State :=
  match (s.chan c).au? n with
  | none => s
  | some a =>
    if a.repl.isSome ∨ a.replaced ∨ a.complete.isSome then s
    else
      let o := s.replBytes (s.atSlot a.cfg.rate n) c a [] []
      s.onAu c n fun a => { a with repl := some (o.bytes, o.outside), settled := a.settled || a.skip }

/-- AU n's record of completion: length, check value, size and margin objects (R11, R12, R29, R124, R142). A rescued AU sets
neither the margin nor the completion offset 0x5001:03 (DESIGN CHOICE of the latter, log 117). -/
def State.finishAu (s : State) (c n : Nat) (data : List Byte) (outside : Nat) (replaced : Bool) : State :=
  match (s.chan c).au? n with
  | none => s
  | some a =>
    let now := s.now
    let size := 8 * data.length
    let check := foldedCrc 1 c 0xFF 0 (n % 0x100000000) data
    let s := s.onAu c n fun a =>
      { a with complete := some now, data := data, check := check, replaced := a.replaced || replaced }
    let s := s.count (basic c 1) 4
    let s := s.setObj (basic c 6) 9 size
    let s := s.raiseTo (basic c 6) 0xA size
    let s := s.lowerTo (expert c 8) 0xA ((auMax a.cfg.cap a.cfg.rate : Int) - size)
    let s := s.setObj (basic c 7) 0xC outside
    if replaced then s
    else
      let s := s.lowerTo (expert c 1) 1 (((a.cfg.rescueAt n : Int) - now) / 65536)
      s.setObj (expert c 1) 3 (tickNs (now - t0 a.cfg.rate n))

/-- The AUs of the same slots before AU a. -/
def ChanRt.earlier (r : ChanRt) (a : Au) : List Au := r.aus.filter fun b => b.cfg.rate == a.cfg.rate && decide (b.slot < a.slot)

/-- Whether AU n can be assembled: every row has settled, and its replacement stands in DRAM; its ancillary data has closed, and
the AUs before it are complete (R21, R22, R140, R142). -/
def State.assemblyReady (s : State) (v : State) (c : Nat) (a : Au) : Bool :=
  ((s.chan c).earlier a).all (fun b => b.complete.isSome) && a.complete.isNone && !a.replaced && a.settled && a.repl.isSome &&
    s.ancReady v c a.slot && decide (s.now ≤ a.cfg.rescueAt a.slot)

/-- Counts and events of ancillary payloads omitted (R140). -/
def State.omitAnc (s : State) (c n : Nat) (left : List (Nat × Nat × Nat)) : State :=
  left.foldl (fun s x => (s.count (basic c 7) 0xB).raise ⟨0x0106, c, n % 0x100000000, x.1 * 256 + x.2.1, x.2.2, 0⟩) s

/-- The effect of AU_ASSEMBLY outside a canvas (R142). -/
def State.auAssembly (s : State) (c n : Nat) : State :=
  match (s.chan c).au? n with
  | none => s
  | some a =>
    let v := s.atSlot a.cfg.rate n
    if a.cfg.canvas ∨ !s.assemblyReady v c a then s
    else
      let pkts := s.ancOf v c n
      let anc := fitAnc a.cfg.u (v.ancPayloads c pkts)
      let planes := match a.buf with
        | some b => s.bufPlanes c a.cfg b
        | none => s.replPlanes c a
      let slices := if a.skip then s.guardSlices v c a false else [⟨v.sliceSyntax c a false 0, a.rows.flatMap (·.subs)⟩]
      let o := (v.auLayout c a false pkts anc.1 slices).close (v.auSuffix c a planes)
      (s.finishAu c n o.bytes o.outside false).omitAnc c n anc.2

/-- What a rescue of AU a leaves of its entry (R96): it shares its root, or refers to the constant source. Every table and list
that holds the entry takes this form. -/
def rescueEntry (c : Nat) (a : Au) (e : PicEntry) : PicEntry :=
  if e.slot ≠ a.slot then e
  else match a.list0 with
    | h :: _ => e.sharing h
    | [] => { e with buf := none, shared := false, anchor := true, recon := greyRecon c a.slot a.cfg }

/-- The refresh that a rescue moves, or the sweep that it abandons (R24, R25), where the AU's run still decides AUs. -/
def ChanRt.rescueMove (r : ChanRt) (a : Au) : ChanRt :=
  let owed := if a.sweep.any (fun x => 0 < x.1) then 4 else a.cause
  if a.list0 = [] ∨ owed = 0 ∨ !r.mine a then r
  else
    let m := r.moved.getD ⟨0, false, false⟩
    { r with moved := some { m with cause := m.cause ||| owed }, sweep := if a.sweep.isSome then none else r.sweep }

/-- What a rescue does to a channel (R23, R96): the entry changes wherever it stands, the AU's rows and buffer are given up, and
an AU that loses its buffering period is no reference for later delays. -/
def ChanRt.rescued (r : ChanRt) (c : Nat) (a : Au) : ChanRt :=
  let e := rescueEntry c a
  let bufs := match a.buf with
    | some b => r.bufs.modify b fun p => { p with exporting := false }
    | none => r.bufs
  let aus := r.aus.map fun x => { x with list0 := x.list0.map e, held := x.held.map e, marks := x.marks.map e }
  let r := { r with marks := r.marks.map e, bufs := bufs, aus := aus
                    bps := if a.list0 = [] then r.bps else r.bps.filter fun n => n != a.slot }
  r.onAu a.slot fun a =>
    { a with buf := none, replaced := true, modelled := true, bands := [], rows := a.rows.map fun _ => RowRt.empty }

/-- The effect of DEADLINE_RESCUE (R23): at E(n) an AU that is not complete gives way to its replacement. Its rows are
discarded and its buffer released. -/
def State.deadlineRescue (s : State) (c n : Nat) : State :=
  match (s.chan c).au? n with
  | none => s
  | some a =>
    if a.complete.isSome ∨ a.replaced ∨ ((s.chan c).earlier a).any (fun b => b.complete.isNone) then s
    else
      let s := s.until (a.cfg.rescueAt n)
      let v := s.atSlot a.cfg.rate n
      let o := s.replBytes v c a [] []
      let body := a.repl.getD (o.bytes, o.outside)
      let suffix := v.auSuffix c a (s.replPlanes c a)
      let s := s.finishAu c n (body.1 ++ suffix) (body.2 + suffix.length) true
      let s := s.count (expert c 1) 2
      let s := s.onChan c fun r => (r.rescued c a).rescueMove a
      s.raise ⟨0x0101, c, n % 0x100000000, a.poc, 0, 0⟩

end Sys2Proof.Machine
end

