-- ==== Sys2Proof/Machine/Atlas.lean ====
section
/-! DEFINITION. Atlas.lean: the monitor raster: pending set and snapshots, apply instants, tiles, lines, underruns and the
freeze detector (R314-R326). -/

namespace Sys2Proof.Machine

/-- Keys of the pending set: the objects marked Frame in Tables 15-3 and 15-4. -/
def atlasKeys : List Nat :=
  ([1, 2, 3, 4, 5, 6, 0xC].map (key 0x2A00)) ++
  ((List.range 16).flatMap fun t => (List.range 11).map fun k => key (0x2A10 + t) (k + 1))

/-- The pending set as it stands: what reads of these objects return (R322). -/
def State.atlasPending (s : State) : Tab Int := s.dict.filter fun p => atlasKeys.contains p.1

/-- A value of a set. -/
def setVal (set : Tab Int) (idx sub : Nat) : Nat := (Tab.get (defaultOf (key idx sub)) set (key idx sub)).toNat

/-- A value of the set in force. -/
def State.atl (s : State) (idx sub : Nat) : Nat := setVal s.atlas.inForce idx sub

/-- Raster width and height, total lines V and vertical blanking Vb (Table 15-1). -/
def rasterW (r : Nat) : Nat := if r = 0 then 1920 else 3840
def rasterH (r : Nat) : Nat := if r = 0 then 1080 else 2160
def rasterV (r : Nat) : Nat := if r = 0 then 1125 else 2250
def rasterVb (r : Nat) : Nat := if r = 0 then 45 else 90

/-- Packets per frame Np (Table 15-1). -/
def rasterNp (r : Nat) : Nat := if r = 0 then 4320 else 17280

/-- Stride of a background buffer, and the size of one (R316). -/
def rasterStride (r : Nat) : Nat := cdiv (2 * rasterW r) 3 * 4
def rasterBytes (r : Nat) : Nat := rasterStride r * rasterH r

/-- The instant of raster line l of frame k: Ta(k) + l · Tf / V (R315). -/
def lineInstant (set : Tab Int) (k l : Nat) : Tick :=
  instantT (setVal set 0x2A00 3) k l (rasterV (setVal set 0x2A00 2)) (setVal set 0x2A00 4)

/-- P(k) (R323) and A(k) (R315). -/
def applyInstant (set : Tab Int) (k : Nat) : Tick := lineInstant set k (setVal set 0x2A00 5)
def frameInstant (set : Tab Int) (k : Nat) : Tick := lineInstant set k (rasterVb (setVal set 0x2A00 2))

/-- The key of a line of a frame in the output line store. -/
def lineKey (k l : Nat) : Nat := 4096 * k + l

/-- The RTP timestamp of Atlas frame k: A(k) on the 90 kHz clock, truncated once (R10). -/
def rasterStamp (set : Tab Int) (k : Nat) : Nat :=
  let code := setVal set 0x2A00 3
  let v := rasterV (setVal set 0x2A00 2)
  let vb := rasterVb (setVal set 0x2A00 2)
  (90000 * (1000000000 * ((k * v + vb) * tfNum code) + setVal set 0x2A00 4 * tfDen code * v) /
    (1000000000 * (tfDen code * v))) % 0x100000000

/-! ### Checks of a commit (R317, R318, R323, R326) -/

/-- The geometry conditions of R147: crop, destination, extents of source and picture. -/
def geometryOk (cx cy cw ch dx dy dw dh sw sh pw ph : Nat) : Bool :=
  cx % 2 == 0 && cw % 2 == 0 && dx % 2 == 0 && dw % 2 == 0 && decide (cx + cw ≤ sw ∧ cy + ch ≤ sh) &&
  decide (dx + dw ≤ pw ∧ dy + dh ≤ ph) && decide (16 ≤ cw ∧ 16 ≤ ch ∧ 16 ≤ dw ∧ 16 ≤ dh) &&
  decide (dw ≤ 16 * cw ∧ dh ≤ 16 * ch)

/-- Whether a tile is enabled with non-zero geometry. -/
def tileOn (set : Tab Int) (t : Nat) : Bool :=
  setVal set (0x2A10 + t) 1 == 1 && [5, 6, 9, 10].all fun k => setVal set (0x2A10 + t) k != 0

/-- A tile's source: kind, and flow or channel. -/
def tileSrc (set : Tab Int) (t : Nat) : Nat × Nat :=
  (bits (setVal set (0x2A10 + t) 2) 31 30, bits (setVal set (0x2A10 + t) 2) 29 16)

/-- A tile meets R317. -/
def State.tileOk (s : State) (set : Tab Int) (t : Nat) : Bool :=
  let o := setVal set (0x2A10 + t)
  let src := tileSrc set t
  let r := setVal set 0x2A00 2
  let g := s.auCfg src.2
  let size := if src.1 = 1 then ((s.flowRec src.2).width, (s.flowRec src.2).height) else (g.x0 + g.width, g.y0 + g.height)
  (match src.1 with
   | 1 => s.isVideo src.2
   | 2 => decide (src.2 < 64) && s.ch src.2 0 1 == 1 && decide (g.x0 ≤ o 3 ∧ g.y0 ≤ o 4)
   | _ => true) &&
  (src.1 == 0 || geometryOk (o 3) (o 4) (o 5) (o 6) (o 7) (o 8) (o 9) (o 0xA) size.1 size.2 (rasterW r) (rasterH r))

/-- Frame rate code of a tile's source. -/
def State.tileRate (s : State) (src : Nat × Nat) : Nat :=
  if src.1 = 1 then (s.flowRec src.2).rate else s.ch src.2 0 7

/-- The fetch load, bytes per second: the exact sum, rounded up once (R318). Every Tf is a whole number of 1/1001. -/
def State.fetchLoad (s : State) (set : Tab Int) : Nat :=
  cdiv (((List.range 16).filter fun t => tileOn set t && (tileSrc set t).1 != 0).foldl (fun n t =>
    let code := s.tileRate (tileSrc set t)
    n + 4 * setVal set (0x2A10 + t) 5 * setVal set (0x2A10 + t) 6 * tfDen code * (1001 / tfNum code)) 0) 1001

/-- The abort code that a commit of a set meets, if any (R317, R318, R323, R326). -/
def State.atlasAbort (s : State) (set : Tab Int) : Option Nat :=
  let r := setVal set 0x2A00 2
  let on := s.atlas.next.isSome
  if on ∧ [2, 3, 4, 5].any (fun k => setVal set 0x2A00 k != s.atl 0x2A00 k) then some 0x08000022
  else if tfNs (setVal set 0x2A00 3) 1 / 2 ≤ setVal set 0x2A00 4 ∨ rasterVb r < setVal set 0x2A00 5 + 16 then some 0x06040043
  else if (List.range 16).any (fun t => tileOn set t && !s.tileOk set t) then some 0x06040043
  else if 32000000000 < s.fetchLoad set then some 0x08000020
  else none

/-! ### Background (R316) -/

/-- Every byte of both background buffers reads black again. -/
def State.blackBackground (s : State) : State :=
  { s with bytes := s.bytes.filter fun p => !(decide (byteKey 0x6205 1 0 ≤ p.1 ∧ p.1 < byteKey 0x6205 3 0)) }

/-- A background buffer may not be written: in force, or named by a commit not yet in force. -/
def State.bufferLocked (s : State) (b : Nat) : Bool :=
  s.atl 0x2A00 6 == b || s.atlas.snaps.any fun x => setVal x.set 0x2A00 6 == b

/-- Sample i of a background line, in pgroup order. -/
def State.backSample (s : State) (buf line i : Nat) : Nat :=
  let w := leNat (s.bytesAt 0x6205 (buf + 1) (line * rasterStride (s.atl 0x2A00 2) + i / 3 * 4) 4)
  (w / 2 ^ (10 * (i % 3))) % 1024

/-! ### Commits (R322, R323) -/

/-- The first frame whose apply instant lies at or after an instant. -/
def firstFrame (set : Tab Int) (t : Tick) : Nat :=
  let k := slotAt (setVal set 0x2A00 3) t
  (((List.range 4).map fun i => k - 1 + i).find? fun k => decide (t ≤ applyInstant set k)).getD (k + 3)

/-- The objects that read 0 while Atlas is off (R326). -/
def State.atlasClear (s : State) : State :=
  let s := [8, 9, 0xA, 0xB, 0xD].foldl (fun s k => s.setObj 0x2A00 k 0) s
  let s := s.setObj 0x4A00 1 0
  (List.range 16).foldl (fun s t => [0xC, 0xD, 0x10, 0x11].foldl (fun s k => s.setObj (0x2A10 + t) k 0) s) s

/-- Atlas starts with a set at an instant: its first frame is the first whose apply instant lies at least 10 ms later
(R323). -/
def State.atlasStart (s : State) (set : Tab Int) (snaps : List AtlasSnap) : State :=
  let k := firstFrame set (msT 10 + s.now)
  let s := { s with atlas := { s.atlas with
    inForce := set, snaps := snaps, next := some k, first := k
    tiles := List.replicate 16 TileRt.reset, raster := FreezeRun.reset } }
  s.setObj 0x2A00 9 0

/-- The effect of ATLAS_COMMIT with its answer: 0, or the abort code. Nothing starts in Standby (R441), while a memory test
is suspended or runs (R398), or under the hold of R449. -/
def State.atlasCommit (s : State) : State × Nat :=
  let set := s.atlasPending
  let on := setVal set 0x2A00 1 == 1
  let testing := s.nat 0x2F00 0x24 == 1 || s.nat 0x2F00 0x24 == 2
  match s.atlasAbort set with
  | some a => (s, a)
  | none =>
    if on ∧ (s.nat 0x2000 2 = 2 ∨ testing) then (s, 0x08000022)
    else
      let s := if setVal set 0x2A00 2 ≠ s.atl 0x2A00 2 then s.blackBackground else s
      let snap : AtlasSnap := ⟨s.atlas.nextSeq, s.now, set⟩
      let a := { s.atlas with nextSeq := s.atlas.nextSeq + 1 }
      if s.atlas.next.isSome then ({ s with atlas := { a with snaps := a.snaps ++ [snap] } }, 0)
      else if on ∧ ¬s.power.hold then (State.atlasStart { s with atlas := a } set [snap], 0)
      else ({ s with atlas := { a with inForce := set, snaps := [] } }, 0)

/-! ### Frames (R319-R325) -/

/-- The picture that a flow tile selects at an instant (R319): by the deadline of its last line. -/
def State.selectFlow (s : State) (f : Nat) (p : Tick) (before : TileSource) : TileSource :=
  let q := s.flowRec f
  if !s.isVideo f then .none
  else
    let t := (p : Int) - (nsT (1000 * q.ac) : Nat)
    let n := slotAt q.rate t.toNat - 1
    match (s.flow f).shown n with
    | some m => .flow f n m
    | none => match before with
      | .flow g a b => if g = f then .flow g a b else .none
      | _ => .none

/-- The latest AU whose E(n) has come (R319), and whether its entry is poisoned. -/
def State.selectRecon (s : State) (c : Nat) (p : Tick) : TileSource :=
  let r := s.chan c
  match (r.aus.filter fun a => decide (a.cfg.rescueAt a.slot ≤ p) && a.complete.isSome).getLast? with
  | none => .none
  | some a =>
    let b := if a.replaced ∨ a.skip then ChanRt.rootBuf a.list0 else a.buf
    if (b.bind fun b => r.bufs[b]?).any (·.poison) then .none else .recon c a.slot b

/-- A soft hold on a pool buffer is set or dropped (R90). -/
def State.softHold (s : State) (t : TileSource) (on : Bool) : State :=
  match t with
  | .recon c _ (some b) => s.onChan c fun r => { r with bufs := r.bufs.modify b fun x => { x with soft := on } }
  | _ => s

/-- The source timestamp of a tile's picture (R325). -/
def State.tileStamp (s : State) (t : TileSource) : Nat :=
  match t with
  | .none => 0
  | .flow f _ m => (((s.flow f).frame m).stamp.getD 0) % 0x100000000
  | .recon c n _ => gridCount (s.ch c 0 7) 90000 n % 0x100000000

/-- The slot instant of a tile's picture. -/
def State.tileT0 (s : State) (t : TileSource) : Tick :=
  match t with
  | .none => 0
  | .flow f n _ => t0 (s.flowRec f).rate n
  | .recon c n _ => t0 (s.ch c 0 7) n

/-- One tile at the apply instant of frame k. A tile that the freeze detector does not watch has no freeze run, and its flag reads 0
(20_object_reference.md, the flow of zeros; log 137). -/
def State.applyTile (s : State) (k t : Nat) : State :=
  let set := s.atlas.inForce
  let p := applyInstant set k
  let old := (s.atlas.tiles[t]?).getD TileRt.reset
  let src := tileSrc set t
  let on := tileOn set t
  let idx := 0x2A10 + t
  let shown := if !on then .none
    else match src.1 with
      | 1 => s.selectFlow src.2 p old.shown
      | 2 => if s.ch src.2 0 1 = 1 then s.selectRecon src.2 p else .none
      | _ => .none
  let watched := setVal set 0x2A00 0xC ≠ 0 ∧ setVal set idx 0xB = 1
  let run := if watched then old.freeze else FreezeRun.reset
  let new := { old with shown := shown, offFrom := none, underBefore := old.offFrom.isSome, freeze := run }
  let s := { s with atlas := { s.atlas with tiles := s.atlas.tiles.set t new } }
  let s := if watched then s else s.setObj idx 0xD 0
  let s := s.softHold shown true
  let s := s.setObj idx 0xC (if !on then 0 else if shown = .none then 2 else 1)
  let s := if on ∧ shown = .none then s.count idx 0x12 else s
  if shown = .none then (s.setObj idx 0x10 0).setObj idx 0x11 0
  else (s.setObj idx 0x10 (s.tileStamp shown)).setObj idx 0x11 (tickNs (frameInstant set k - s.tileT0 shown))

/-- The effect of ATLAS_APPLY (R319, R323, R324): at P(k) the latest snapshot committed before it comes into force for
frame k, and each tile selects its picture. -/
def State.atlasApply (s : State) : State :=
  match s.atlas.next with
  | none => s
  | some k =>
    let p := applyInstant s.atlas.inForce k
    let s := s.until p
    let due := s.atlas.snaps.filter fun x => decide (x.at_ < p)
    let snap := due.getLast?
    let set := (snap.map (·.set)).getD s.atlas.inForce
    let s := { s with atlas := { s.atlas with inForce := set, snaps := s.atlas.snaps.filter fun x => decide (p ≤ x.at_) } }
    let s := s.atlas.tiles.foldl (fun s x => s.softHold x.shown false) s
    if setVal set 0x2A00 1 ≠ 1 then
      let s := { s with atlas := { s.atlas with next := none, tiles := List.replicate 16 TileRt.reset } }
      s.atlasClear
    else
      let count := (s.nat 0x2A00 9 + 1) % 0x100000000
      let s := s.setObj 0x2A00 9 count
      let s := match snap with
        | none => s
        | some x =>
          let s := s.setObj 0x2A00 8 (x.seq % 0x100000000)
          let s := s.setObj 0x2A00 0xA (tickNs (frameInstant set k) % 0x100000000)
          (s.setObj 0x2A00 0xB count).setObj 0x4A00 1 (s.fetchLoad set)
      let kept := s.atlas.lines.filter fun p => decide (lineKey k 0 ≤ p.1 + 4096)
      let watched := setVal set 0x2A00 0xC ≠ 0
      let run := if watched then s.atlas.raster else FreezeRun.reset
      let s := { s with atlas := { s.atlas with next := some (k + 1), frame := k, lines := kept, raster := run } }
      let s := if watched then s else s.setObj 0x2A00 0xD 0
      (List.range 16).foldl (fun s t => s.applyTile k t) s

/-- A reconstruction in 4:2:2 at 10 bits (R317). -/
def State.reconPic (s : State) (c : Nat) (buf : Option Nat) : Pic :=
  let g := s.auCfg c
  let rows := match buf with
    | some b => (((s.chan c).bufs[b]?).map (·.rows)).getD []
    | none => []
  let row (r : Nat) : List Nat := match buf with
    | some _ => Tab.get [] rows r
    | none => greyRow g r
  let up (v : Nat) : Int := if g.depth = 8 then (v * 4 : Nat) else (v : Nat)
  let at_ (k : Nat) (x y : Int) : Int :=
    let h := if k = 0 ∨ g.chroma = 1 then g.size else g.size / 2
    let w := if k = 0 then g.width else g.width / 2
    let r := y.toNat / h
    let lines := min ((r + 1) * g.size) g.height - r * g.size
    let ch := if g.chroma = 1 then lines else lines / 2
    let off := if k = 0 then 0 else g.width * lines + (k - 1) * (g.width / 2 * ch)
    up ((row r).getD (off + (y.toNat % h) * w + x.toNat) 0)
  let chroma (k : Nat) (x y : Int) : Int :=
    if g.chroma = 1 then at_ k x y
    else
      let hc : Int := (g.height / 2 : Nat)
      let e (v : Int) : Int := at_ k x (clampI 0 (hc - 1) v)
      if y % 2 = 0 then (e (y / 2 - 1) + 3 * e (y / 2) + 2) / 4 else (3 * e (y / 2) + e (y / 2 + 1) + 2) / 4
  Pic.of (at_ 0) (chroma 1) (chroma 2)

/-- A tile's scaled picture. -/
def State.tilePic (s : State) (t : Nat) (src : TileSource) : Pic :=
  let o := s.atl (0x2A10 + t)
  let base (p : Pic) : Pic := (p.crop (o 3) (o 4)).scale (o 5) (o 6) (o 9) (o 0xA)
  match src with
  | .none => blackPic
  | .flow f _ m => base (flowPic (s.flow f) m (s.flowRec f).width)
  | .recon c _ b =>
    let p := (s.reconPic c b).crop (o 3 - (s.auCfg c).x0) (o 4 - (s.auCfg c).y0)
    p.scale (o 5) (o 6) (o 9) (o 0xA)

/-- The sample position up to which a tile shows in an active line: its right edge, or where it went off (R321). -/
def TileRt.shownUpTo (x : TileRt) (line right : Nat) : Nat :=
  match x.offFrom with
  | none => right
  | some (l, px) => if line < l then right else if line = l then min px right else 0

/-- Samples of one active line in pgroup order: the background, then each tile that shows there (R317). -/
def State.rasterLine (s : State) (line : Nat) : List Nat :=
  let w := rasterW (s.atl 0x2A00 2)
  let buf := s.atl 0x2A00 6
  let back := (List.range (2 * w)).map (s.backSample buf line)
  (List.range 16).foldl (fun row t =>
    let o := s.atl (0x2A10 + t)
    match s.atlas.tiles[t]? with
    | none => row
    | some x =>
      let right := x.shownUpTo line (o 7 + o 9)
      if x.shown = .none ∨ right ≤ o 7 ∨ line < o 8 ∨ o 8 + o 0xA ≤ line then row
      else
        let p := s.tilePic t x.shown
        let y : Int := (line - o 8 : Nat)
        (List.range (2 * w)).map fun i =>
          let px := i / 2
          if px < o 7 ∨ right ≤ px then row.getD i 0
          else if i % 2 = 1 then (p.y ((px - o 7 : Nat) : Int) y).toNat
          else
            let cx : Int := ((px - o 7) / 2 : Nat)
            if px % 2 = 0 then (p.cb cx y).toNat else (p.cr cx y).toNat) back

/-- The tiles whose FIFO lacks samples of a line as it starts, each with the first position that it lacks (R321): nothing in the
state counts a FIFO, so a free value says (DESIGN CHOICE, log 138). -/
def State.foundShort (s : State) : List (Nat × Nat) :=
  (List.range 16).filterMap fun t =>
    let v := s.draw / 2 ^ (17 * t) % 2 ^ 17
    if v % 2 = 1 then some (t, v / 2) else none

/-- The position from which a tile lacks samples as a line starts, if it does (R321): the one its FIFO is found short at, within its
destination; or 0 where its soft hold has been taken back (R90). -/
def State.shortAt (s : State) (line : Nat) (short : List (Nat × Nat)) (t : Nat) (x : TileRt) : Option Nat :=
  let o := s.atl (0x2A10 + t)
  let lost := match x.shown with
    | .recon c _ (some b) => !((((s.chan c).bufs[b]?).map PoolBuf.soft).getD false)
    | _ => false
  if x.shown = .none ∨ x.offFrom.isSome ∨ o 8 + o 0xA ≤ line then none
  else if lost then some 0
  else (short.find? fun (y : Nat × Nat) => y.1 == t && decide (o 8 ≤ line ∧ o 7 ≤ y.2 ∧ y.2 < o 7 + o 9)).map Prod.snd

/-- A tile that lacks samples of a line is off from there for the rest of the frame (R321). -/
def State.underrunTile (s : State) (line : Nat) (short : List (Nat × Nat)) (t : Nat) : State :=
  match s.atlas.tiles[t]? with
  | none => s
  | some x =>
    match s.shortAt line short t x with
    | none => s
    | some px =>
      let s := { s with atlas := { s.atlas with tiles := s.atlas.tiles.set t { x with offFrom := some (line, px) } } }
      let s := (s.count (0x2A10 + t) 0xE).setObj (0x2A10 + t) 0xC 3
      if x.underBefore then s else s.raiseUnit 0x0604 t line

/-- The signature of a region: luma at every eighth sample of every eighth line (R325). -/
def lumaSignature (w h : Nat) (luma : Nat → Nat → Nat) : Nat :=
  crc32c ((List.range (cdiv h 8)).flatMap fun y => (List.range (cdiv w 8)).flatMap fun x => leBytes 2 (luma (8 * x) (8 * y)))

/-- A comparison of a region's signature (R325): the run after it, whether the frozen flag clears, whether it freezes. -/
def FreezeRun.compare (r : FreezeRun) (n sig stamp : Nat) : FreezeRun × Bool × Bool :=
  match r.sig with
  | none => (⟨some sig, stamp, 0⟩, false, false)
  | some old =>
    if r.stamp = stamp then (r, false, false)
    else if old = sig then (⟨some sig, stamp, r.run + 1⟩, false, n != 0 && r.run + 1 == n)
    else (⟨some sig, stamp, 0⟩, true, false)

/-- The raster's comparison at the end of frame k (R325). -/
def State.freezeRaster (s : State) : State :=
  let n := s.atl 0x2A00 0xC
  let r := s.atl 0x2A00 2
  if n = 0 then s
  else
    let sig := lumaSignature (rasterW r) (rasterH r) fun x y => ((Tab.get [] s.atlas.lines (lineKey s.atlas.frame y)).getD (2 * x + 1) 0)
    let c := s.atlas.raster.compare n sig (rasterStamp s.atlas.inForce s.atlas.frame)
    let s := { s with atlas := { s.atlas with raster := c.1 } }
    let s := if c.2.1 then s.setObj 0x2A00 0xD 0 else s
    if c.2.2 then ((s.setObj 0x2A00 0xD 1).count 0x2A00 0xE).raiseUnit 0x0605 0xFF else s

/-- A tile's comparison, once its last line is fetched: only a tile shown whole is compared (R325). -/
def State.freezeTile (s : State) (t : Nat) (x : TileRt) : State :=
  let n := s.atl 0x2A00 0xC
  if n = 0 ∨ s.atl (0x2A10 + t) 0xB ≠ 1 ∨ x.shown = .none ∨ x.offFrom.isSome then s
  else
    let p := s.tilePic t x.shown
    let sig := lumaSignature (s.atl (0x2A10 + t) 9) (s.atl (0x2A10 + t) 0xA)
      fun a b => (p.y (a : Int) (b : Int)).toNat
    let c := x.freeze.compare n sig (s.tileStamp x.shown)
    let s := { s with atlas := { s.atlas with tiles := s.atlas.tiles.set t { x with freeze := c.1 } } }
    let s := if c.2.1 then s.setObj (0x2A10 + t) 0xD 0 else s
    if c.2.2 then ((s.setObj (0x2A10 + t) 0xD 1).count (0x2A10 + t) 0xF).raiseUnit 0x0605 t else s

/-- The first active line below a tile's destination. -/
def State.tileEnd (s : State) (t : Nat) : Nat := s.atl (0x2A10 + t) 8 + s.atl (0x2A10 + t) 0xA

/-- A tile whose last destination line this is: it is compared, and its soft hold ends, unless another tile still fetches
from the same picture (R319, R325). -/
def State.closeTile (s : State) (line t : Nat) : State :=
  match s.atlas.tiles[t]? with
  | none => s
  | some x =>
    if s.tileEnd t ≠ line + 1 then s
    else
      let s := s.freezeTile t x
      let shared := (List.range 16).any fun u => u != t && decide (line + 1 < s.tileEnd u) &&
        (match s.atlas.tiles[u]? with
         | some y => y.shown == x.shown && y.offFrom.isNone
         | none => false)
      if shared then s else s.softHold x.shown false

/-- The effect of ATLAS_LINE (R315, R321, R325): active line `line` of the frame in force is composed at its start. -/
def State.atlasLine (s : State) (line : Nat) : State :=
  let r := s.atl 0x2A00 2
  if s.atlas.next = none ∨ rasterH r ≤ line ∨ (Tab.find? s.atlas.lines (lineKey s.atlas.frame line)).isSome then s
  else if s.atlas.next ≠ some (s.atlas.frame + 1) then s
  else
    let s := s.until (lineInstant s.atlas.inForce s.atlas.frame (rasterVb r + line))
    let short := s.foundShort
    let s := (List.range 16).foldl (fun s t => s.underrunTile line short t) s.drawn
    let row := s.rasterLine line
    let s := { s with atlas := { s.atlas with lines := Tab.put s.atlas.lines (lineKey s.atlas.frame line) row } }
    let s := (List.range 16).foldl (fun s t => s.closeTile line t) s
    if line + 1 = rasterH r then s.freezeRaster else s

end Sys2Proof.Machine
end

