-- ==== Sys2Proof/Machine/Audio.lean ====
section
/-! DEFINITION. Audio.lean: serial audio ports: indices from the audio frame counter, slips, holds, rate measurement, the
common trigger (R298-R313), and the close of audio and ancillary flows (R225, R139). -/

namespace Sys2Proof.Machine

/-! ### Closes of audio and ancillary flows -/

/-- The effect of AUDIO_SAMPLE_CLOSE (R225): a sample that is not present is filled with the previous sample of its audio
channel, silence where there is none, and counted as concealed for each channel. -/
def State.audioSampleClose (s : State) (f i : Nat) : State :=
  let q := s.recAt f i
  if !(q.on && q.kind == 1) then s
  else
    let s := s.until (q.audioClose i)
    let r := s.flow f
    if (match r.audioNext with | some k => decide (i < k) | none => false) then s
    else
      let got := (Tab.find? r.audio i).getD []
      let frame := (List.range q.width).map fun ch => (got[ch]?).getD (r.lastAudio.getD ch 0)
      let missing := q.width - got.length
      let s := s.setFlow f { r with
        audio := Tab.put (r.audio.filter fun p => decide (i ≤ p.1 + 0x10000)) i frame
        audioNext := some (i + 1), lastAudio := frame }
      let s := s.statFlow f fun t => { t with concealed := sat32 (t.concealed + missing) }
      (s.countLost f i 0).leaveOld f i

/-- The effect of ANCILLARY_CLOSE (R225, R221): the packets of slot n close together; a slot without a packet of its own
has none. -/
def State.ancillaryClose (s : State) (f n : Nat) : State :=
  let q := s.recAt f n
  if !(q.on && q.kind == 2) then s
  else
    let s := s.until (instantT q.rate n 1 1 (1000 * q.ac))
    let r := s.flow f
    if r.ancClosed.contains n then s
    else
      let had := (Tab.find? r.anc n).isSome
      let s := s.setFlow f { r with ancClosed := n :: r.ancClosed.take 63
                                    lastFrame := if had then some (n, n) else r.lastFrame }
      let s := if had then s.setFlow f { s.flow f with run := 0 } else s.unmapped f n
      (s.countLost f n 0).leaveOld f n

/-- A flow's 32-bit sample of a closed index: L16 enters at [31:16], L24 at [31:8] (R299). -/
def State.flowSample (s : State) (f i ch : Nat) : Option Nat :=
  let q := s.recAt f i
  let r := s.flow f
  match r.audioNext, Tab.find? r.audio i with
  | some k, some fr =>
    if i < k then some (if ch < q.width then fr.getD ch 0 * (if q.fmt % 2 = 0 then 0x10000 else 0x100) else 0) else none
  | _, _ => none

/-! ### Ports -/

/-- Port i's object. -/
def State.ap (s : State) (i k : Nat) : Nat := s.nat (0x2900 + i) k

/-- Base rate of the family (R302). -/
def State.audioBase (s : State) : Nat := if s.nat 0x2702 9 = 0 then 48000 else 44100

/-- Sample rates by code (R300). -/
def rateOfCode (code : Nat) : Nat := [44100, 48000, 88200, 96000, 176400, 192000].getD code 48000

/-- A port's rate. -/
def State.portFs (s : State) (i : Nat) : Nat := rateOfCode (s.ap i 6)

/-- C(t) with 16 fraction bits (R302). -/
def audioCounter16 (base : Nat) (t : Int) : Int := (t * (4 * base) * 65536) / (perSec : Nat)

/-- C(t) · fs / 4F in units of 2^-18 sample: exact, since fs is 1, 2 or 4 times F. -/
def audioPlace (base fs : Nat) (t : Int) : Int := audioCounter16 base t * (fs / base : Nat)

/-- The first multiple of 1/F at or after an instant: S, as an instant, and S · F (R305, R306). -/
def startAfter (base : Nat) (t : Tick) : Tick × Nat :=
  let q := cdiv (t * base) perSec
  (perSec * q / base, q)

/-- Output latency L of an output port; a master port's is rounded down to whole master-clock periods, of which the family's clock
has 512 · F in a second (R300, R303). -/
def State.outLatency (s : State) (i : Nat) : Tick :=
  if s.ap i 1 ≠ 2 then 0
  else if s.ap i 7 = 0 then
    let clock := 512 * s.audioBase
    perSec * (s.ap i 0xA * clock / 1000000) / clock
  else usT (s.ap i 0xA)

/-- The index of a frame edge: places averaged over the last edges, rounded half up, after the phase (R303). -/
def edgeIndex (places : List Int) (phase : Int) : Int :=
  let n := places.length
  let sum := (List.range n).foldl (fun t j => t + (places.getD j 0 + (j : Int) * 0x40000)) 0
  (sum / (n : Int) - phase + 0x20000) / 0x40000

/-- A port's runtime state. -/
def State.port? (s : State) (i : Nat) : Option AudioPort := Tab.find? s.audio.ports i

/-- It takes a value. -/
def State.setPort (s : State) (i : Nat) (p : AudioPort) : State :=
  { s with audio := { s.audio with ports := Tab.put s.audio.ports i p } }

/-- A port that has not started. -/
def AudioPort.fresh (start : Option Tick) (now : Tick) : AudioPort :=
  ⟨start, false, none, [], 0, [], [], none, false, none, false, now, none, 0, 0, false, true⟩

/-- Zero words for every slot. -/
def State.silence (s : State) (i : Nat) : List Nat := List.replicate (s.ap i 3) 0

/-- A port's samples are 0: at a wrong rate, and at an output of a unit that has lost its master (R310, R311). -/
def State.portSilent (s : State) (i : Nat) : Bool := s.ap i 0xB == 4 || (s.audio.muted && s.ap i 1 == 2)

/-- One repeated sample frame: counted as repeated, or past the hold limit sent or stored as 0 and counted there
(R307, R309). -/
def State.repeatFrame (s : State) (i : Nat) (index : Int) (out_ : Bool) : State :=
  match s.port? i with
  | none => s
  | some p =>
    let words := if p.zeroed || s.portSilent i then s.silence i else p.last
    let s := s.count (0x2900 + i) (if p.zeroed then 0x10 else 0xE)
    let p := { p with repeating := some (p.repeating.getD s.now) }
    if out_ then (s.setPort i p).say (.audio i index words)
    else s.setPort i { p with samples := Tab.put p.samples index.toNat words }

/-- A live sample frame ends any run of repeats. -/
def State.liveFrame (s : State) (i : Nat) (index : Int) (words : List Nat) (out_ : Bool) : State :=
  match s.port? i with
  | none => s
  | some p =>
    let p := { p with last := words, repeating := none, zeroed := false }
    let s := if s.ap i 0xB = 3 ∨ s.ap i 0xB = 5 then s.setObj (0x2900 + i) 0xB 2 else s
    if out_ then (s.setPort i p).say (.audio i index words)
    else s.setPort i { p with samples := Tab.put (p.samples.filter fun x => decide (index ≤ (x.1 : Int) + 0x10000)) index.toNat words }

/-- What an output port sends for an index: its source's sample of that index, once closed (R304, R312). -/
def State.outputWords (s : State) (i : Nat) (index : Int) : Option (List Nat) :=
  let src := s.ap i 9
  let kind := bits src 31 30
  let id := bits src 29 16
  let first := bits src 15 8
  let slots := List.range (s.ap i 3)
  if index < 0 then none
  else if kind = 0 then some (s.silence i)
  else if kind = 1 then
    if (s.flowSample id index.toNat first).isSome then
      some (slots.map fun k => (s.flowSample id index.toNat (first + k)).getD 0) else none
  else if kind = 2 then
    match s.port? id with
    | none => none
    | some q => if index ≤ q.p then
        (Tab.find? q.samples index.toNat).map fun fr => slots.map fun k => fr.getD (first + k) 0 else none
  else some (s.silence i)

/-- Words of a port cut to its word length (R299). -/
def cutWord (w v : Nat) : Nat := v / 2 ^ (32 - w) * 2 ^ (32 - w)

/-- One index of an output port at a frame edge. -/
def State.sendIndex (s : State) (i : Nat) (index : Int) : State :=
  if s.audio.muted then s.say (.audio i index (s.silence i))
  else if s.ap i 0xB = 4 then s.liveFrame i index (s.silence i) true
  else match s.outputWords i index with
    | some w => s.liveFrame i index (w.map (cutWord (s.ap i 5))) true
    | none => s.repeatFrame i index true

/-- One index of an input port whose frame is stored. -/
def State.storeIndex (s : State) (i : Nat) (index : Int) (words : List Nat) : State :=
  let w := s.ap i 5
  let fr := (List.range (s.ap i 3)).map fun k => (words.getD k 0 % 2 ^ w) * 2 ^ (32 - w)
  if s.ap i 0xB = 4 then s.liveFrame i index (s.silence i) false else s.liveFrame i index fr false

/-- The place of a frame edge on the audio frame counter, in 2^-18 sample: C(t − L) · fs / 4F (R303). -/
def State.edgePlace (s : State) (i : Nat) (edge : Tick) : Int :=
  audioPlace s.audioBase (s.portFs i) ((edge : Int) - (s.outLatency i : Nat))

/-- A port's phase at an edge: as fixed at its first edge, which is this one where none has come; a master port's is 0. -/
def AudioPort.phaseAt (p : AudioPort) (master : Bool) (x : Int) : Int := p.phase.getD (if master then 0 else x % 0x40000)

/-- The places that the index of an edge is averaged over, and the index. An edge that is not the next one begins a new average, and
so does the first one after the clock was lost. -/
def AudioPort.edgeAt (p : AudioPort) (phase x : Int) : List Int × Int :=
  let places := if p.lost then [x] else x :: p.edges.take 63
  if edgeIndex places phase = p.p + 1 then (places, p.p + 1) else ([x], edgeIndex [x] phase)

/-- An edge is taken: the port's phase, places and rate window, and state 2 again after a lost clock (R309, R311). -/
def State.takeEdge (s : State) (i : Nat) (edge : Tick) (p : AudioPort) (phase : Int) (places : List Int) : State :=
  let s := s.setPort i { p with
    phase := some phase, edges := places, lastEdge := some edge, lost := false
    winFirst := some (p.winFirst.getD edge), winLast := edge, winCount := p.winCount + b2n p.winFirst.isSome }
  let s := s.setObj (0x4900 + i) 2 (phase / 4)
  if s.ap i 0xB = 3 then s.setObj (0x2900 + i) 0xB 2 else s

/-- What an index does after the last handled one (Table 14-2). -/
def State.takeIndex (s : State) (i : Nat) (was index : Int) (words : List Nat) : State :=
  if index = was + 1 then (if s.ap i 1 = 2 then s.sendIndex i index else s.storeIndex i index words)
  else if index ≤ was then (if s.ap i 1 = 2 then s.repeatFrame i was true else s.count (0x2900 + i) 0xF)
  else
    let m := (index - was - 1).toNat
    if s.ap i 1 = 2 then (s.count (0x2900 + i) 0xF m).sendIndex i index
    else
      let s := (List.range m).foldl (fun s k => s.repeatFrame i (was + 1 + k) false) s
      s.storeIndex i index words

/-- The last index handled. -/
def State.handled (s : State) (i : Nat) (last : Int) : State :=
  match s.port? i with
  | none => s
  | some q => (s.setPort i { q with p := last }).setObj (0x2900 + i) 0xD last

/-- The effect of AUDIO_FRAME (R303, R307, R309): a frame's FS leading edge at an instant; an input frame carries its
slot words. -/
def State.audioFrame (s : State) (i : Nat) (edge : Tick) (words : List Nat) : State :=
  match s.port? i with
  | none => s
  | some p =>
    if !p.running then s
    else
      let s := s.until edge
      let x := s.edgePlace i edge
      let phase := p.phaseAt (s.ap i 7 == 0) x
      let e := p.edgeAt phase x
      ((s.takeEdge i edge p phase e.1).takeIndex i p.p e.2 words).handled i (max p.p e.2)

/-- The effect of AUDIO_INDEX_CLOSE (R304, R307): every input index up to this one that no frame has filled is filled
with the last stored sample. -/
def State.audioIndexClose (s : State) (i index : Nat) : State :=
  match s.port? i with
  | none => s
  | some p =>
    if !p.running ∨ s.ap i 1 ≠ 1 then s
    else
      let fs := s.portFs i
      let s := s.until (usT 100 + perSec * (index + 2) / fs)
      let m := ((index : Int) - p.p).toNat
      let s := (List.range m).foldl (fun s k => s.repeatFrame i (p.p + 1 + k) false) s
      match s.port? i with
      | none => s
      | some q => s.setPort i { q with p := max q.p index }

/-- The effect of AUDIO_PORT_START (R305): at S the port runs, and its first frame has index S · fs. -/
def State.audioPortStart (s : State) (i : Nat) : State :=
  match s.port? i with
  | none => s
  | some p =>
    match p.start with
    | none => s
    | some t =>
      if p.running then s
      else
        let s := s.until t
        let base := s.audioBase
        let first : Int := (startAfter base t).2 * (s.portFs i / base : Nat)
        let s := s.setPort i { p with running := true, p := first - 1, last := s.silence i
                                      winFrom := s.now, winFirst := none, winCount := 0, winLost := false }
        s.setObj (0x2900 + i) 0xB 2

/-- The effect of PORT_CLOCK_LOST (R309): a slave port has seen no edge for 1 ms. -/
def State.portClockLost (s : State) (i : Nat) : State :=
  match s.port? i with
  | none => s
  | some p =>
    if !p.running ∨ s.ap i 7 ≠ 1 ∨ p.lost then s
    else
      let from_ := p.lastEdge.getD (p.start.getD 0)
      let s := s.until (msT 1 + from_)
      if s.now < msT 1 + from_ then s
      else
        let s := s.setPort i { p with lost := true, winLost := true }
        (s.setObj (0x2900 + i) 0xB 3).raiseUnit 0x0601 i

/-- The effect of HOLD_LIMIT (R309): one sample has been repeated for as long as the hold limit allows. -/
def State.holdLimit (s : State) (i : Nat) : State :=
  match s.port? i with
  | none => s
  | some p =>
    match p.repeating with
    | none => s
    | some t =>
      let limit := s.nat (0x4900 + i) 1
      if limit = 0 ∨ p.zeroed then s
      else
        let s := s.until (t + msT limit)
        (s.setPort i { p with zeroed := true }).setObj (0x2900 + i) 0xB 5

/-- Rates of R300 as mHz. -/
def audioRatesMilli : List Nat := [44100000, 48000000, 88200000, 96000000, 176400000, 192000000]

/-- The nearest of the six rates, as its code. -/
def nearestRate (m : Nat) : Nat :=
  (List.range 6).foldl (fun b k =>
    if ((audioRatesMilli.getD k 0 : Int) - m).natAbs < ((audioRatesMilli.getD b 0 : Int) - m).natAbs then k else b) 0

/-- The effect of RATE_WINDOW (R311): a slave port's 100 ms window ends. -/
def State.rateWindow (s : State) (i : Nat) : State :=
  match s.port? i with
  | none => s
  | some p =>
    if !p.running ∨ s.ap i 7 ≠ 1 then s
    else
      let s := s.until (msT 100 + p.winFrom)
      let fresh := { p with winFrom := msT 100 + p.winFrom, winFirst := none, winCount := 0
                            winLost := p.lost }
      match p.winFirst with
      | none => s.setPort i fresh
      | some f =>
        if p.winLost ∨ p.winLast ≤ f then s.setPort i fresh
        else
          let milli := 1000 * (perSec * p.winCount) / (p.winLast - f)
          let s := s.setObj (0x2900 + i) 0xC milli
          let near := nearestRate milli
          let want := audioRatesMilli.getD (s.ap i 6) 0
          let off := 1000000 * ((milli : Int) - want).natAbs
          if near ≠ s.ap i 6 then
            if s.ap i 0xB = 4 then s.setPort i fresh
            else (((s.setPort i fresh).setObj (0x2900 + i) 0xB 4).count (0x2900 + i) 0x11).raiseUnit 0x0602 i milli
          else
            let s := if s.ap i 0xB = 4 then s.setObj (0x2900 + i) 0xB 2 else s
            if 500 * want < off ∧ p.driftArmed then
              ((s.setPort i { fresh with driftArmed := false }).count (0x2900 + i) 0x11).raiseUnit 0x0603 i milli
            else s.setPort i { fresh with driftArmed := p.driftArmed || decide (off ≤ 250 * want) }

/-! ### The common trigger (R306) -/

/-- The trigger fires at an instant: ports waiting on it start together. -/
def State.fireTrigger (s : State) (t : Tick) : State :=
  let st := (startAfter s.audioBase (msT 1 + t)).1
  let s := { s with audio := { s.audio with
    trigger := none
    ports := s.audio.ports.map fun (p : Nat × AudioPort) =>
      if !p.2.running && p.2.start.isNone && s.ap p.1 8 == 1 then (p.1, { p.2 with start := some st }) else p } }
  let s := s.setObj 0x2908 6 (tickNs st % 0x100000000)
  (s.setObj 0x2908 5 0).count 0x2908 7

/-- The effect of TRIGGER_FIRE for a Meridian trigger: its instant comes. -/
def State.triggerFire (s : State) : State :=
  match s.audio.trigger with
  | some ⟨0, t⟩ =>
    let s := s.until t
    s.fireTrigger t
  | _ => s

end Sys2Proof.Machine
end

