-- ==== Sys2Proof/Machine/Egress.lean ====
section
/-! DEFINITION. Egress.lean: ports, the Destination Table and its ranks, what packets hold, their instants on the timing
wheels and their departure (R13-R16, R208, R209, R231-R254). -/

namespace Sys2Proof.Machine

/-! ### Ports (R208, R209, Table 1-3) -/

/-- Ports of a lane group mode, and the rate of each in Gb/s (Table 10-1). -/
def modePorts : Nat → Nat × Nat
  | 1 => (1, 200)
  | 2 => (1, 100)
  | 3 => (1, 100)
  | 4 => (4, 25)
  | 5 => (4, 10)
  | _ => (0, 0)

/-- The lane group and rate of every port, in port order. -/
def State.portList (s : State) : List (Nat × Nat) :=
  (List.range 4).flatMap fun g => List.replicate (modePorts (s.nat 0x2100 (g + 1))).1 (g, (modePorts (s.nat 0x2100 (g + 1))).2)

/-- Rate of a port in Gb/s; 0 where the modes give no such port. -/
def State.portRate (s : State) (p : Nat) : Nat := ((s.portList[p]?).map (·.2)).getD 0

/-- Slot stagger Δ, ns (Table 1-3). -/
def stagger (rate : Nat) : Nat :=
  64 * (if rate = 200 then 1 else if rate = 100 then 2 else if rate = 25 then 8 else 20)

/-- Whether a port's link is up. -/
def State.portUp (s : State) (p : Nat) : Bool := s.nat 0x2105 (p + 1) == 2

/-! ### The Destination Table (R234, R14) -/

/-- The enabled bit of entry d. -/
def State.destOn (s : State) (d : Nat) : Bool := (s.byteAt 0x6202 1 (32 * d)).toNat % 2 == 1

/-- Entry d as it stands. -/
def State.dest (s : State) (d : Nat) : Dest :=
  let r := s.bytesAt 0x6202 1 (32 * d) 32
  { d := d, pathB := (field r 0 1).testBit 1, stream := field r 1 1, port := field r 2 1 % 8, ip := field r 4 4
    udpDst := field r 8 2, udpSrc := field r 10 2, vlan := field r 12 2 % 4096, pcp := field r 12 2 / 4096 % 8
    mac := field r 14 6 }

/-- The enabled entries, in ascending order. A byte of the table that nothing has written is 0, so an enabled entry's
byte 0 is listed. -/
def State.dests (s : State) : List Dest :=
  s.bytes.filterMap fun p =>
    let off := p.1 - byteKey 0x6202 1 0
    if byteKey 0x6202 1 0 ≤ p.1 ∧ off < 2097152 ∧ off % 32 = 0 ∧ p.2.toNat % 2 = 1 then some (s.dest (off / 32)) else none

/-- Stable insertion by stream number. -/
def insertDest (x : Dest) : List Dest → List Dest
  | [] => [x]
  | y :: ys => if x.stream < y.stream then x :: y :: ys else y :: insertDest x ys

/-- The enabled entries of a port in the order of their ranks: by stream, then by entry (R14). -/
def State.ranked (s : State) (p : Nat) : List Dest :=
  (s.dests.filter fun x => x.port == p).foldl (fun l x => insertDest x l) []

/-- The rank of an entry on its port. -/
def rankOf (l : List Dest) (d : Nat) : Nat := l.findIdx fun x => x.d == d

/-- Pacing guard Tg_p, ns (R245). -/
def guardNs (jp rate : Nat) : Nat := (3 * jp + 2) * stagger rate

/-! ### Streams -/

/-- Stream s's object. -/
def State.str (s : State) (i k : Nat) : Nat := s.nat (0x2500 + i) k

/-- A stream that is enabled. -/
def State.strOn (s : State) (i : Nat) : Bool := s.str i 1 == 1

/-- The runtime state of a stream. -/
def State.stream? (s : State) (i : Nat) : Option StreamRt := Tab.find? s.egress.streams i

/-- It takes a new one. -/
def State.setStream (s : State) (i : Nat) (r : StreamRt) : State :=
  { s with egress := { s.egress with streams := Tab.put s.egress.streams i r } }

/-- A run covers a slot or packet. -/
def StreamRun.has (x : StreamRun) (n : Nat) : Bool :=
  decide (x.first ≤ n) && (match x.stop with | some k => decide (n < k) | none => true)

/-- The run in which a stream sends slot n of channel c (R233). -/
def StreamRt.runOf (r : StreamRt) (c n : Nat) : Option StreamRun :=
  r.runs.find? fun x => decide (x.kind ≤ 1) && x.chan == c && x.has n

/-- Streams of kinds 0 and 1 of channel c that send slot n, with the configuration `v` of that slot. -/
def State.streamsOf (s v : State) (c n : Nat) : List Nat :=
  (s.egress.streams.filter fun p => decide (v.str p.1 2 ≤ 1) && v.str p.1 3 == c && (p.2.runOf c n).isSome).map (·.1)

/-- An audio source object: serial port, number, first channel, count (Table 11-3). -/
def audioSource (w : Nat) : Bool × Nat × Nat × Nat :=
  (w / 0x40000000 == 1, w / 0x10000 % 0x4000, w / 0x100 % 0x100, w % 0x100)

/-- The 32-bit sample of an audio source at an index; silence where it has none. -/
def State.sourceSample (s : State) (w i ch : Nat) : Nat :=
  let a := audioSource w
  if a.1 then
    match s.port? a.2.1 with
    | some p => ((Tab.find? p.samples i).getD p.last).getD (a.2.2.1 + ch) 0
    | none => 0
  else (s.flowSample a.2.1 i (a.2.2.1 + ch)).getD 0

/-! ### TS over RTP (R237-R240) -/

/-- A TS packet's four-byte header. -/
def tsHead (pusi : Bool) (pid afc cc : Nat) : List Byte :=
  [0x47, BitVec.ofNat 8 (0x40 * b2n pusi + pid / 256), BitVec.ofNat 8 pid, BitVec.ofNat 8 (16 * afc + cc % 16)]

/-- One TS packet with a payload of at most 184 bytes, filled by adaptation-field stuffing. -/
def tsPacket (pusi : Bool) (pid cc : Nat) (payload : List Byte) : List Byte :=
  let gap := 184 - payload.length
  if gap = 0 then tsHead pusi pid 1 cc ++ payload
  else
    let af := if gap = 1 then [0] else BitVec.ofNat 8 (gap - 1) :: 0 :: List.replicate (gap - 2) 0xFF
    tsHead pusi pid 3 cc ++ af ++ payload

/-- A PES packet cut into TS packets from continuity counter `cc` on. -/
def tsPes (pid cc : Nat) (pes : List Byte) : List (List Byte) :=
  (List.range (cdiv pes.length 184)).map fun i => tsPacket (i == 0) pid (cc + i) ((pes.drop (184 * i)).take 184)

/-- A section in one TS packet: pointer field 0, and 0xFF behind it. -/
def tsSection (pid cc : Nat) (section_ : List Byte) : List Byte :=
  tsHead true pid 1 cc ++ 0 :: (section_.take 183 ++ List.replicate (183 - min 183 section_.length) 0xFF)

/-- The PCR packet (R238): adaptation field only; the continuity counter does not advance. -/
def tsPcr (pid cc pcr : Nat) : List Byte :=
  let base := pcr / 300
  tsHead false pid 2 (cc + 15) ++ [183, 0x10] ++
    beBytes 6 (base * 0x8000 + 0x7E00 + pcr % 300) ++ List.replicate 176 0xFF

/-- A null packet (R238). -/
def tsNull : List Byte := tsHead false 0x1FFF 1 0 ++ List.replicate 184 0xFF

/-- The five bytes of a PTS. -/
def ptsBytes (t : Nat) : List Byte :=
  [BitVec.ofNat 8 (0x21 + 2 * (t / 0x40000000 % 8))] ++ beBytes 2 (2 * (t / 0x8000 % 0x8000) + 1) ++
    beBytes 2 (2 * (t % 0x8000) + 1)

/-- A PES header of 14 bytes with PTS only (R238, R239): stream_id, PES_packet_length. -/
def pesHead (id len pts : Nat) : List Byte :=
  [0, 0, 1, BitVec.ofNat 8 id] ++ beBytes 2 len ++ [0x84, 0x80, 5] ++ ptsBytes pts

/-- Pair size of ST 302M in bytes (R239). -/
def pairBytes : Nat → Nat
  | 0 => 5
  | 1 => 6
  | _ => 7

/-- The ST 302M PES of audio PID i for slot n (R239). -/
def State.audioPes (s v : State) (st i rate n : Nat) : List Byte :=
  let w := v.str st (0x12 + i)
  let ch := (audioSource w).2.2.2
  let pairs := cdiv ch 2
  let word := v.str st 0x17
  let lo := cdiv (n * tfNum rate * 48000) (tfDen rate)
  let hi := cdiv ((n + 1) * tfNum rate * 48000) (tfDen rate)
  let cut (x : Nat) : Nat := x / 2 ^ (16 - 4 * word)
  let data := (List.range (hi - lo)).flatMap fun k => (List.range pairs).flatMap fun q =>
    let smp (e : Nat) : Nat := if 2 * q + e < ch then cut (s.sourceSample w (lo + k) (2 * q + e)) else 0
    fit (pairBytes word) (Config.aesPair word (smp 0) (smp 1) (lo + k))
  let head := beBytes 4 (data.length * 0x10000 + (pairs - 1) * 0x4000 + word * 0x10)
  pesHead 0xBD (8 + 4 + data.length) (lo * 90000 / 48000 % 0x200000000) ++ head ++ data

/-- The PIDs of a kind 0 stream in the order of R254. -/
def State.pidsOf (v : State) (st : Nat) : List Nat :=
  [0, v.str st 0xB, v.str st 0xC] ++ (List.range (v.str st 0xA)).map fun i => v.str st (0xD + i)

/-- The version of PAT and PMT at slot n (R238). -/
def StreamRt.version (r : StreamRt) (rate n : Nat) : Nat :=
  (((r.psi.find? fun p => decide (slotFrom rate p.1 ≤ n)).map (·.2)).getD 0) % 32

/-- The TS packets of AU n without null packets, and how many each PID takes (R237): the continuity counters start at
`cc`. -/
def State.tsAu (s v : State) (st : Nat) (r : StreamRt) (a : Au) (cc : List Nat) : List (List Byte) × List Nat :=
  let n := a.slot
  let rate := a.cfg.rate
  let pids := v.pidsOf st
  let at_ (k : Nat) : Nat := cc.getD k 0
  let ver := r.version rate n
  let pat := tsSection 0 (at_ 0) (Config.psiSection 0 [ver, 1, pids.getD 1 0])
  let pmt := tsSection (pids.getD 1 0) (at_ 1)
    (Config.psiSection 1 ([ver, pids.getD 2 0, if a.cfg.codec = 0 then 0x33 else 0x24] ++ pids.drop 3))
  let pcr := tsPcr (pids.getD 2 0) (at_ 2) (gridCount rate 27000000 (n - 1) % (0x200000000 * 300))
  let video := tsPes (pids.getD 2 0) (at_ 2) (pesHead 0xE0 0 (gridCount rate 90000 n % 0x200000000) ++ a.data)
  let audio := (List.range (v.str st 0xA)).map fun i =>
    tsPes (pids.getD (3 + i) 0) (at_ (3 + i)) (s.audioPes v st i rate n)
  ([pat, pmt, pcr] ++ video ++ audio.flatten, [1, 1, video.length] ++ audio.map (·.length))

/-- Seven TS packets to a datagram, the last filled with null packets (R237, R240). -/
def tsDatagrams (ps : List (List Byte)) : List (List Byte) :=
  (List.range (cdiv ps.length 7)).map fun i =>
    let x := (ps.drop (7 * i)).take 7
    (x ++ List.replicate (7 - x.length) tsNull).flatten

/-! ### Native RTP (R241) -/

/-- NAL units of a byte stream with four-byte start codes; `cur` holds the unit being read, reversed. -/
def splitNals : List Byte → List Byte → List (List Byte) → List (List Byte)
  | [], cur, acc => (if cur.isEmpty then acc else cur.reverse :: acc).reverse
  | b :: bs, cur, acc =>
    if b = 1 ∧ cur.take 3 = [0, 0, 0] then splitNals bs [] (if (cur.drop 3).isEmpty then acc else (cur.drop 3).reverse :: acc)
    else splitNals bs (b :: cur) acc

/-- Whether a NAL unit is a slice (Table 6-1). -/
def isVcl (codec : Nat) (u : List Byte) : Bool :=
  if codec = 0 then decide (field u 1 1 / 8 < 12) else decide (field u 0 1 / 2 % 64 < 32)

/-- The payloads of one NAL unit: itself, or fragmentation units. `final` marks the last slice of the picture, which the
VVC payload format signals in the P bit of its last fragment (PRESUMED, log 31). -/
def nalPayloads (codec : Nat) (final : Bool) (u : List Byte) : List (List Byte) :=
  if u.length ≤ 1460 then [u]
  else
    let h0 := field u 0 1
    let h1 := field u 1 1
    let body := u.drop 2
    let k := cdiv body.length 1457
    (List.range k).map fun i =>
      let first := i == 0
      let last := i + 1 == k
      let head : List Byte := if codec = 0 then
          [BitVec.ofNat 8 h0, BitVec.ofNat 8 (29 * 8 + h1 % 8),
           BitVec.ofNat 8 (128 * b2n first + 64 * b2n last + 32 * b2n (last && final) + h1 / 8)]
        else
          [BitVec.ofNat 8 (h0 / 128 * 128 + 49 * 2 + h0 % 2), BitVec.ofNat 8 h1,
           BitVec.ofNat 8 (128 * b2n first + 64 * b2n last + h0 / 2 % 64)]
      head ++ (body.drop (1457 * i)).take 1457

/-- The RTP payloads of an AU on a kind 1 stream. -/
def nativePayloads (codec : Nat) (data : List Byte) : List (List Byte) :=
  let us := splitNals data [] []
  let lastVcl := us.length - 1 - (us.reverse.findIdx (isVcl codec))
  (us.zipIdx).flatMap fun p => nalPayloads codec (p.2 == lastVcl) p.1

/-! ### RTP -/

/-- A 12-byte RTP header: marker, payload type, sequence number, timestamp, SSRC. -/
def rtpHead (m : Bool) (pt seq ts ssrc : Nat) : List Byte :=
  [0x80, BitVec.ofNat 8 (128 * b2n m + pt)] ++ beBytes 2 seq ++ beBytes 4 ts ++ beBytes 4 ssrc

/-- The RTP packets of AU n on stream st, from the numbers it begins with. -/
def State.auPackets (s v : State) (st : Nat) (r : StreamRt) (a : Au) (x : AuNumbers) : List (List Byte) :=
  let ts := gridCount a.cfg.rate 90000 a.slot % 0x100000000
  let native := v.str st 2 == 1
  let ps := if native then nativePayloads a.cfg.codec a.data else tsDatagrams (s.tsAu v st r a x.cc).1
  (ps.zipIdx).map fun p =>
    rtpHead (native && p.2 + 1 == ps.length) (v.str st 5) ((x.seq + p.2) % 0x10000) ts (v.str st 4) ++ p.1

/-! ### Sizes and rates (R244-R249) -/

/-- K of a stream's channel, bits. -/
def State.strK (v : State) (st : Nat) : Nat := auMax (v.ch (v.str st 3) 6 2) (v.ch (v.str st 3) 0 7)

/-- V_s, bytes (R244). -/
def State.vs (v : State) (st : Nat) : Nat :=
  let k := v.strK st / 8
  let rate := v.ch (v.str st 3) 0 7
  if v.str st 2 = 0 then
    let per := cdiv (48000 * tfNum rate) (tfDen rate)
    let audio := ((List.range (v.str st 0xA)).map fun i =>
      cdiv (18 + cdiv (audioSource (v.str st (0x12 + i))).2.2.2 2 * pairBytes (v.str st 0x17) * per) 184).sum
    1316 * cdiv (3 + cdiv (k + 14) 184 + audio) 7
  else k + cdiv (3 * k) 1457

/-- t_i of a packet (R246): AU of slot n, rank j, byte count c, on a port of `jp` entries; computed exactly, truncated
once. -/
def paceInstant (rate d n j c v jp portRate : Nat) : Tick :=
  let num : Int := tfNum rate
  let den : Int := tfDen rate
  let ns : Int := ((32000 + j * stagger portRate : Nat) : Int) * v - (c * guardNs jp portRate : Nat)
  (((perSec : Int) * num * (((n + d) * v + c : Nat) : Int) + 65536 * den * ns) / (den * (v : Int))).toNat

/-- Pace rate of a stream on a port of `jp` entries, in kbit/s, truncated (R246). -/
def State.paceKbit (v : State) (st jp portRate : Nat) : Nat :=
  let rate := v.ch (v.str st 3) 0 7
  8000000 * (v.vs st * tfDen rate) / (1000000000 * tfNum rate - guardNs jp portRate * tfDen rate)

/-! ### Numbering (R254) -/

/-- The numbers with which AU n of channel c begins: those after the AU numbered last, or the initial ones where it is the
first of an enabled stream (R233). -/
def StreamRt.next (r : StreamRt) (c n initial : Nat) : Nat × List Nat :=
  let fresh := match r.runOf c n with
    | some x => x.restart && !(r.numbers.any fun y => y.chan == c && decide (x.first ≤ y.slot))
    | none => false
  match r.numbers with
  | x :: _ => if fresh then (initial, List.replicate 8 0) else (x.seqAfter, x.ccAfter)
  | [] => (initial, List.replicate 8 0)

/-- Continuity counters advanced. -/
def addCc (cc adds : List Nat) : List Nat := (List.range 8).map fun i => (cc.getD i 0 + adds.getD i 0) % 16

/-- AU n, just completed, takes its numbers on every stream that sends it. -/
def State.numberAu (s : State) (c n : Nat) : State :=
  match (s.chan c).au? n with
  | none => s
  | some a =>
    let v := s.atSlot a.cfg.rate n
    (s.streamsOf v c n).foldl (fun s st =>
      match s.stream? st with
      | none => s
      | some r =>
        let b := r.next c n (v.str st 6)
        let ts := s.tsAu v st r a b.2
        let native := v.str st 2 == 1
        let pkts := if native then (nativePayloads a.cfg.codec a.data).length else cdiv ts.1.length 7
        let adds := if native then [] else ts.2
        let x : AuNumbers := ⟨c, n, b.1, b.2, pkts, adds, (b.1 + pkts) % 0x10000, addCc b.2 adds⟩
        let s := s.setStream st { r with numbers := x :: r.numbers.take 15 }
        if r.runOf c n = r.runs.head? then s.setObj (0x2500 + st) 0x1C x.seqAfter else s) s

/-- AU n's values give way to the active's (R169), and the later ones follow. -/
def renumber (n seq : Nat) (cc : List Nat) : List AuNumbers → List AuNumbers
  | [] => []
  | x :: rest =>
    if x.slot = n then { x with seqAfter := seq, ccAfter := cc } :: rest
    else
      match renumber n seq cc rest with
      | y :: more =>
        if n < x.slot then
          { x with seq := y.seqAfter, cc := y.ccAfter, seqAfter := (y.seqAfter + x.pkts) % 0x10000
                   ccAfter := addCc y.ccAfter x.adds } :: y :: more
        else x :: y :: more
      | [] => [x]

/-! ### Packetisation (R237-R249) -/

/-- What a stream's packets carry of its objects. -/
def State.streamMark (v : State) (st : Nat) : StreamMark := ⟨v.str st 7, v.str st 8, v.str st 9⟩

/-- The effect of PACKETISATION: AU n's packets are formed for each destination entry and stand in the timing wheel. -/
def State.packetisation (s : State) (c n : Nat) : State :=
  match (s.chan c).au? n with
  | none => s
  | some a =>
    if a.complete = none ∨ a.packetised then s
    else
      let v := s.atSlot a.cfg.rate n
      let s := (s.streamsOf v c n).foldl (fun s st =>
        match s.stream? st with
        | none => s
        | some r =>
          match r.numbers.find? fun x => x.slot == n && x.chan == c with
          | none => s
          | some x =>
            let ps := s.auPackets v st r a x
            let cs := ps.foldl (fun (acc : List Nat × Nat) p => (acc.2 :: acc.1, acc.2 + (p.length - 12))) ([], 0)
            let starts := cs.1.reverse
            (v.dests.filter fun e => e.stream == st).foldl (fun s e =>
              let l := v.ranked e.port
              let j := rankOf l e.d
              let pr := v.portRate e.port
              let items := ((ps.zip starts).zipIdx).map fun q =>
                ({ dest := e, chan := c, mark := v.streamMark st, rank := j, slot := n, i := q.2
                   t := paceInstant a.cfg.rate a.cfg.d n j q.1.2 (v.vs st) l.length pr
                   last := q.2 + 1 == ps.length, bad := false, rtp := q.1.1 } : WheelItem)
              { s with egress := { s.egress with wheel := s.egress.wheel ++ items } }) s) s
      s.onAu c n fun a => { a with packetised := true }

/-! ### Timed streams (R242, R243) -/

/-- Samples and microseconds of a kind 2 packet: its length in 1/8 ms units of 125 µs. -/
def State.packetUs (v : State) (st : Nat) : Nat := if v.str st 0x18 = 0 then 1000 else 125

/-- The rate of an audio source, Hz. -/
def State.sourceRate (v : State) (w : Nat) : Nat :=
  let a := audioSource w
  if a.1 then v.portFs a.2.1 else (v.flowRec a.2.1).clock

/-- The instant at which packet m of an entry of rank j departs, before displacement: kind 2. -/
def State.audioDeparts (v : State) (st j portRate m : Nat) : Tick :=
  let c := v.str st 3
  instantT (v.ch c 0 7) (v.ch c 1 1) 0 1 ((m * v.packetUs st * 1000 + 32000 + j * stagger portRate : Nat) : Int)

/-- The same, kind 3: packet g of all frames (R243). -/
def State.rasterDeparts (v : State) (j portRate g : Nat) : Tick :=
  let set := v.atlas.inForce
  let r := setVal set 0x2A00 2
  let code := setVal set 0x2A00 3
  let np := rasterNp r
  let vr := rasterV r
  let b := vr * np
  instantT code (g / np) ((rasterVb r * np + (g % np) * vr : Nat) : Int) b
    ((setVal set 0x2A00 4 + j * stagger portRate : Nat) : Int)

/-- The RTP packet of a kind 2 stream (R242). -/
def State.audioPacket (s v : State) (st m : Nat) : List Byte :=
  let w := v.str st 0x12
  let per := v.sourceRate w * v.packetUs st / 1000000
  let bytes := if v.str st 0x19 = 0 then 2 else 3
  let data := (List.range per).flatMap fun k => (List.range (audioSource w).2.2.2).flatMap fun ch =>
    beBytes bytes (s.sourceSample w (m * per + k) ch / 2 ^ (32 - 8 * bytes))
  rtpHead false (v.str st 5) (m % 0x10000) (m * per % 0x100000000) (v.str st 4) ++ data

/-- Four samples of 10 bits as one pgroup of 5 bytes. -/
def pgroup (a b c d : Nat) : List Byte := beBytes 5 (((a % 1024 * 1024 + b % 1024) * 1024 + c % 1024) * 1024 + d % 1024)

/-- The RTP packet of a kind 3 stream (R243), and whether its samples had to come from the background (R315). -/
def State.rasterPacket (s v : State) (st g : Nat) : List Byte × Bool :=
  let r := s.atl 0x2A00 2
  let np := rasterNp r
  let perLine := rasterW r / 480
  let k := g / np
  let i := g % np
  let line := i / perLine
  let x := i % perLine * 480
  let held := Tab.find? s.atlas.lines (lineKey k line)
  let smp (q : Nat) : Nat := match held with
    | some row => row.getD (2 * x + q) 0
    | none => s.backSample (s.atl 0x2A00 6) line (2 * x + q)
  let data := (List.range 240).flatMap fun q => pgroup (smp (4 * q)) (smp (4 * q + 1)) (smp (4 * q + 2)) (smp (4 * q + 3))
  let seq := g % 0x100000000
  (rtpHead (i + 1 == np) (v.str st 5) (seq % 0x10000) (rasterStamp s.atlas.inForce k) (v.str st 4) ++
    beBytes 2 (seq / 0x10000) ++ beBytes 2 1200 ++ beBytes 2 line ++ beBytes 2 x ++ data, held.isNone)

/-- The first slot, or packet index, of a stream at or after an instant. -/
def State.streamSlot (s : State) (st : Nat) (t : Tick) : Nat :=
  match s.str st 2 with
  | 2 => cdiv t (usT (s.packetUs st))
  | 3 => firstFrame s.atlas.inForce t * rasterNp (s.atl 0x2A00 2)
  | _ => slotFrom (s.ch (s.str st 3) 0 7) t

/-- The instants from which one configuration after another is in force, newest first, as far as they are held (R236, R382). -/
def State.versions (s : State) : List Tick :=
  let ts : List Tick := s.commit.undo.map (·.target)
  (ts ++ [0]).eraseDups

/-- A packet of a kind 2 or 3 stream: its entry, its index, the version of the configuration it follows, its rank, and the
instant at which it departs, before displacement. -/
structure TimedNext where
  dest : Dest
  m    : Nat
  from_ : Tick
  rank : Nat
  t    : Tick
  deriving DecidableEq, Repr

/-- The key of a timed stream's count on an entry. -/
def timedKey (e : Dest) : Nat := 256 * e.d + e.stream

/-- The next packet of an entry of a kind 2 or 3 stream, by the configuration in force from an instant to the next change. -/
def State.timedOf (s : State) (from_ : Tick) (until_ : Option Tick) (e : Dest) : Option TimedNext :=
  let v := s.atInstant from_
  match s.stream? e.stream with
  | none => none
  | some r =>
    let kind := v.str e.stream 2
    let j := rankOf (v.ranked e.port) e.d
    let pr := s.portRate e.port
    let low := max (v.streamSlot e.stream from_) (Tab.get 0 s.egress.timed (timedKey e))
    let runs := r.runs.filter fun x => x.kind == kind
    let m := if runs.any (·.has low) then low
      else ((runs.map (·.first)).filter fun k => decide (low ≤ k)).foldl min (low + 0x100000000)
    let inTime := match until_ with
      | some t => decide (m < v.streamSlot e.stream t)
      | none => true
    if kind < 2 ∨ !inTime ∨ !runs.any (·.has m) then none
    else if kind = 2 then some ⟨e, m, from_, j, v.audioDeparts e.stream j pr m⟩
    else if s.atlas.next.isNone then none
    else
      let m := max m (s.atlas.first * rasterNp (v.atl 0x2A00 2))
      if runs.any (·.has m) then some ⟨e, m, from_, j, v.rasterDeparts j pr m⟩ else none

/-- The next packet of every entry of the timed streams of a port: of two versions, the earlier one's. -/
def State.timedNext (s : State) (p : Nat) : List TimedNext :=
  let vs := s.versions
  let spans := vs.zip (none :: vs.map some)
  let all := spans.reverse.flatMap fun x =>
    ((s.atInstant x.1).ranked p).filterMap (s.timedOf x.1 x.2)
  all.foldl (fun l x => if l.any fun y => timedKey y.dest == timedKey x.dest then l else l ++ [x]) []

/-! ### Departure (R235, R246, R247, R253, R254) -/

/-- The reserved spans of a port near an instant (R14): the start of each, for every AU that a channel is to send, on the ranks
of its slot. -/
def State.reserved (s : State) (p : Nat) (t : Tick) : List Tick :=
  let dl := stagger (s.portRate p)
  s.chans.flatMap fun q =>
    let c := q.1
    let rates := (q.2.runs.map (·.rate) ++ q.2.aus.map (·.cfg.rate)).eraseDups
    if !q.2.running then [] else rates.flatMap fun rate =>
      let n := slotAt rate t
      (List.range (s.ch c 1 1 + 3)).flatMap fun k =>
        let m := n + 1 - k
        let due := (q.2.inSlot m && q.2.rateAt m == rate) || q.2.aus.any fun a => a.slot == m && a.cfg.rate == rate
        if n + 1 < k ∨ !due then []
        else
          let v := s.atSlot rate m
          let l := v.ranked p
          let sending := s.streamsOf v c m
          (l.filter fun e => sending.contains e.stream).map fun e =>
            instantT rate m (v.ch c 1 1) 1 ((32000 + rankOf l e.d * dl : Nat) : Int)

/-- The start of a packet that would start at t and stays `dur` on the wire: after every reserved span it would
meet. -/
def displace (spans : List Tick) (width dur : Tick) : Nat → Tick → Tick
  | 0, t => t
  | fuel + 1, t =>
    match spans.find? fun a => decide (a < t + dur ∧ t < a + width) with
    | some a => displace spans width dur fuel (a + width)
    | none => t

/-- Time on the wire of so many bytes, preamble and gap among them. -/
def onWire (bytes rate : Nat) : Tick := bytes * 8 * 65536 / rate

/-- Time on the wire: the payload and the 78 bytes around it, and the tag (R240, R249). -/
def wireTime (rtpBytes vlan rate : Nat) : Tick := onWire (wireBytes (rtpBytes + 28) (vlan != 0)) rate

/-! ### Gates (R250, R251) -/

/-- Entry i of a gate list: gate states and interval. -/
def gateEntry (r : List Byte) (i : Nat) : Nat × Nat := (field r (8 * i) 1, field r (8 * i + 4) 4)

/-- The entries of a list's bytes. -/
def gatesOf (r : List Byte) : List (Nat × Nat) := (List.range (r.length / 8)).map (gateEntry r)

/-- The entries of a port's list. -/
def State.gateList (s : State) (idx p n : Nat) : List (Nat × Nat) := gatesOf (s.bytesAt idx 1 (2048 * p) (8 * n))

/-- The cycle of a list. -/
def gateCycle (l : List (Nat × Nat)) : Tick := nsT (l.map (·.2)).sum

/-- What is left of a list from a place in its cycle on: gate states and how long each stands. -/
def gateTail : Tick → List (Nat × Nat) → List (Nat × Tick)
  | _, [] => []
  | at_, x :: xs =>
    if at_ < nsT x.2 then (x.1, nsT x.2 - at_) :: xs.map (fun y => (y.1, nsT y.2)) else gateTail (at_ - nsT x.2) xs

/-- The stretches of a list from an instant on, for one cycle and more. -/
def gatesFrom (l : List (Nat × Nat)) (base t : Tick) : List (Nat × Tick) :=
  gateTail ((t - base) % gateCycle l) l ++ l.map fun y => (y.1, nsT y.2)

/-- How long a queue's gate stays as it is; none: for ever. -/
def gateRun (q : Nat) (is : Bool) : List (Nat × Tick) → Option Tick
  | [] => none
  | x :: xs => if x.1.testBit q == is then (gateRun q is xs).map (x.2 + ·) else some 0

/-- How long from t on a queue's gate stays open, or closed: under the operational list, and from its takeover on under the armed
one. -/
def State.gateFor (s : State) (p q : Nat) (is : Bool) (t : Tick) : Option Tick :=
  let oper := s.gateList 0x6204 p (s.nat (0x4410 + p) 5)
  let run (l : List (Nat × Nat)) (base t : Tick) : Option Tick :=
    if l.isEmpty then (if is then none else some 0) else gateRun q is (gatesFrom l base t)
  let now := run oper (Tab.get 0 s.egress.bases p) t
  match Tab.find? s.egress.armed p with
  | none => now
  | some (takes, bytes, base) =>
    if takes ≤ t then run (gatesOf bytes) base t
    else if (match now with | some d => decide (t + d < takes) | none => false) then now
    else (run (gatesOf bytes) base takes).map (takes - t + ·)

/-- The first instant from t on at which a frame starts that will have left before its queue's gate closes; none where no gate is
open long enough. -/
def State.gateStart (s : State) (p q : Nat) (dur : Tick) : Nat → Tick → Option Tick
  | 0, _ => none
  | fuel + 1, t =>
    match s.gateFor p q true t with
    | none => some t
    | some d =>
      if d ≠ 0 ∧ dur ≤ d then some t
      else
        match s.gateFor p q false (t + d) with
        | some w => s.gateStart p q dur fuel (t + d + w)
        | none => none

/-- The start of a frame of a queue that could start at t: clear of every reserved span, unless it is a first packet, and within
its gate (R247, R250). -/
def State.startAt (s : State) (p q : Nat) (dur : Tick) (first : Bool) : Nat → Tick → Option Tick
  | 0, t => some t
  | fuel + 1, t =>
    let spans := s.reserved p t
    let u := if first then t else displace spans (nsT (stagger (s.portRate p))) dur (2 * spans.length + 8) t
    match s.gateStart p q dur 1032 u with
    | none => none
    | some w => if w = t then some t else s.startAt p q dur first fuel w

/-! ### What leaves -/

/-- The next hop whose MAC address an entry needs by ARP (R235), if any: in the prefix itself, else the gateway. -/
def State.nextHop (s : State) (e : Dest) : Option Nat :=
  if e.mac ≠ 0 ∨ (0xE0000000 ≤ e.ip ∧ e.ip < 0xF0000000) then none
  else
    let span := 2 ^ (32 - s.nat 0x2102 (e.port + 1))
    if e.ip / span = s.nat 0x2101 (e.port + 1) / span then some e.ip else some (s.nat 0x2103 (e.port + 1))

/-- The Ethernet side of a port. -/
def State.ether (s : State) (p : Nat) : PortRt := Tab.get ⟨false, [], none, []⟩ s.ports p

/-- The destination MAC address of an entry; none while unresolved. -/
def State.destMac (s : State) (e : Dest) : Option Nat :=
  if e.mac ≠ 0 then some e.mac
  else match s.nextHop e with
    | none => some (0x01005E000000 + e.ip % 0x800000)
    | some hop => ((s.ether e.port).arp.find? fun a => a.1 == hop).map (·.2)

/-- Whether the paths setting selects an entry (R253). -/
def State.selected (s : State) (e : Dest) : Bool :=
  s.nat 0x2200 1 == 0 || s.nat 0x2200 5 == 2 || (s.nat 0x2200 5 == b2n e.pathB)

/-- A promotion has come far enough for what it unmutes: it is complete, and the wheel slot after it has come (R173, R174). -/
def State.promotedBy (s : State) (t : Tick) : Bool := s.pair.promoting.isNone && decide (s.pair.unmuteAt ≤ t)

/-- Whether an AU may leave at an instant: not in a cascade whose master is lost (R184). In a pair, what stands under a standby's
gate leaves once released, and in hold mode never; any other leaves unless a gate discarded it, and what a promotion released from
the first wheel slot after it (R28, R167, R173, R174, Table 8-5). -/
def State.auMay (s : State) (a : Au) (t : Tick) : Bool :=
  !s.casc.masterLost && (s.nat 0x2200 1 == 0 ||
    (if a.gated then s.nat 0x2200 4 == 0 && a.gate == some true
     else a.gate != some false && (!a.late || s.promotedBy t)))

/-- Whether a packet of a kind 2 or kind 3 stream may leave. In hold mode only the active sends the kinds that are merged between
the units (R232, Table 8-6): the unit whose role it is at the packet's own instant, `at_`. -/
def State.timedMay (s : State) (kind : Nat) (at_ t : Tick) : Bool :=
  let standby := match s.pair.swapped with
    | some (x, was) => if at_ < x then was else s.nat 0x2200 3 == 1
    | none => s.nat 0x2200 3 == 1
  !s.casc.masterLost && (kind == 3 || s.nat 0x2200 1 == 0 || s.nat 0x2200 4 == 0 || (!standby && s.promotedBy t))

/-- Header fields of a packet on an entry (R235). -/
def State.egressHdr (s : State) (e : Dest) (k : StreamMark) (mac : Nat) : EgressHdr :=
  { dstMac := mac, srcMac := Config.mac e.port, vlan := e.vlan, pcp := e.pcp, srcIp := s.nat 0x2101 (e.port + 1)
    dstIp := e.ip, dscp := k.dscp, ttl := k.ttl, srcPort := e.udpSrc, dstPort := e.udpDst }

/-- A packet of entry e due at t: it leaves, or is dropped and counted (R235, R253, R254). The second part is whether it
left. -/
def State.send (s : State) (e : Dest) (k : StreamMark) (t : Tick) (may : Bool) (rtp : List Byte) : State × Bool :=
  if !may ∨ !s.selected e then (s.say (.dropped e.port e.d), false)
  else if !s.portUp e.port then ((s.count 0x4401 (e.port + 1)).say (.dropped e.port e.d), false)
  else match s.destMac e with
    | none => ((s.count 0x4401 (e.port + 9)).say (.dropped e.port e.d), false)
    | some m => (s.say (.packet e.port t (s.egressHdr e k m) rtp), true)

/-- A packet of a stream has left: the packet is counted once however many entries send it, and the AU with its last
packet (log 32). -/
def State.countSent (s : State) (st slot i : Nat) (last : Bool) : State :=
  match s.stream? st with
  | none => s
  | some r =>
    let new := match r.counted with
      | some (n, k) => decide (n < slot ∨ (n = slot ∧ k < i))
      | none => true
    if !new then s
    else
      let s := (s.setStream st { r with counted := some (slot, i), sentSlot := if last then some slot else r.sentSlot }).count
        (0x2500 + st) 0x1A
      if last then s.count (0x2500 + st) 0x1B else s

/-- The entry's table word is on its way back from the working image (R356). -/
def State.holed (s : State) (flow : Bool) (entry : Nat) : Bool :=
  match s.hole with
  | some h => h.flow == flow && h.entry % 65536 == entry && decide (s.now < h.until_)
  | none => false

/-- What may depart next on a port: a wheel packet, a timed one, or another frame of its queues. -/
inductive Candidate where
  | paced (x : WheelItem)
  | timed (x : TimedNext)
  | frame (q : QueuedFrame)
  deriving DecidableEq, Repr

/-- A candidate with its start, its queue, when it joined the queue, its rank and its index. -/
structure Cand where
  start : Tick
  queue : Nat
  due   : Tick
  rank  : Nat
  i     : Nat
  what  : Candidate
  deriving DecidableEq, Repr

/-- The heads of the wheel's entries on a port. -/
def wheelHeads (p : Nat) : List WheelItem → List Nat → List WheelItem
  | [], _ => []
  | x :: xs, seen =>
    if x.dest.port = p ∧ !seen.contains (timedKey x.dest) then x :: wheelHeads p xs (timedKey x.dest :: seen)
    else wheelHeads p xs seen

/-- The heads of the queues of a port beside the wheel. -/
def queueHeads (p : Nat) : List QueuedFrame → List Nat → List QueuedFrame
  | [], _ => []
  | x :: xs, seen =>
    if x.port = p ∧ !seen.contains x.queue then x :: queueHeads p xs (x.queue :: seen) else queueHeads p xs seen

/-- The length of a timed packet's RTP part. -/
def State.timedLength (v : State) (st : Nat) : Nat :=
  if v.str st 2 = 3 then 1220
  else 12 + v.sourceRate (v.str st 0x12) * v.packetUs st / 1000000 * (audioSource (v.str st 0x12)).2.2.2 *
    (if v.str st 0x19 = 0 then 2 else 3)

/-- Every candidate of a port (R247, R250). -/
def State.candidates (s : State) (p : Nat) : List Cand :=
  let free := Tab.get 0 s.egress.wireFree p
  let rate := s.portRate p
  let paced := (wheelHeads p s.egress.wheel []).filterMap fun x =>
    (s.startAt p x.mark.queue (wireTime x.rtp.length x.dest.vlan rate) (x.i == 0) 64 (max x.t free)).map fun t =>
      (⟨t, x.mark.queue, x.t, x.rank, x.i, .paced x⟩ : Cand)
  let timed := (s.timedNext p).filterMap fun x =>
    let v := s.atInstant x.from_
    let q := v.str x.dest.stream 7
    (s.startAt p q (wireTime (v.timedLength x.dest.stream) x.dest.vlan rate) false 64 (max x.t free)).map fun t =>
      (⟨t, q, x.t, x.rank, x.m, .timed x⟩ : Cand)
  let others := (queueHeads p s.queues []).filterMap fun q =>
    (s.startAt p q.queue (onWire q.wire rate) false 64 (max q.since free)).map fun t =>
      (⟨t, q.queue, q.since, 0x10000, 0, .frame q⟩ : Cand)
  paced ++ timed ++ others

/-- The order in which candidates go: the earliest start, of those the highest queue, in a queue the earlier wheel slot, then the
lower rank, then the lower index (R247, R250). -/
def Cand.order (c : Cand) : List Nat := [c.start, 7 - c.queue, c.due / nsT 64, c.rank, c.i]

/-- Lexicographic order. -/
def lexLt : List Nat → List Nat → Bool
  | x :: xs, y :: ys => decide (x < y) || (x == y && lexLt xs ys)
  | _, _ => false

/-- The first of the candidates. -/
def firstCandidate (l : List Cand) : Option Cand :=
  l.foldl (fun best x => match best with
    | none => some x
    | some b => if lexLt x.order b.order then some x else some b) none

/-- An instant on the reference plane of a port's egress (R272). -/
def State.egressAt (s : State) (port : Nat) (pcs : Int) : Int :=
  pcs + (Config.internalLatency false port + s.obj (0x4710 + port) 2)

/-- A one-step event message takes its timestamp as it leaves: whole nanoseconds there, the fraction in its correction; a
Delay_Req's instant is kept as t3 (R269, R273). Other frames leave as they were formed. -/
def State.stamped (s : State) (t : Tick) (o : Out) : State × Out :=
  match o with
  | .ptp port vlan kind dom seq _ _ fields =>
    if 1 < kind then (s, o)
    else
      let x := s.egressAt port (t : Int)
      let s := match s.ptp.delay with
        | some d => if kind = 1 ∧ d.port = port ∧ d.seq = seq then { s with ptp := { s.ptp with delay := some { d with t3 := x } } } else s
        | none => s
      (s, .ptp port vlan kind dom seq (x / 65536 * 65536).toNat (x % 65536) fields)
  | _ => (s, o)

/-- The wire of a port is taken until an instant. -/
def State.holdWire (s : State) (p : Nat) (t : Tick) : State :=
  { s with egress := { s.egress with wireFree := Tab.put s.egress.wireFree p t } }

/-- A paced packet starts at t. -/
def State.departPaced (s : State) (p : Nat) (t : Tick) (x : WheelItem) : State :=
  let s := s.until t
  let s := { s with egress := { s.egress with wheel := s.egress.wheel.erase x } }
  let may := !x.bad && !s.holed false x.dest.d && (match (s.chan x.chan).au? x.slot with | some a => s.auMay a t | none => false)
  let r := s.send x.dest x.mark t may x.rtp
  if r.2 then
    (r.1.holdWire p (t + wireTime x.rtp.length x.dest.vlan (s.portRate p))).countSent x.dest.stream x.slot x.i x.last
  else r.1

/-- A packet of a kind 2 or kind 3 stream starts at t. -/
def State.departTimed (s : State) (p : Nat) (t : Tick) (x : TimedNext) : State :=
  let e := x.dest
  let s := s.until t
  let s := { s with egress := { s.egress with timed := Tab.put s.egress.timed (timedKey e) (x.m + 1) } }
  let v := s.atInstant x.from_
  let kind := v.str e.stream 2
  let pk := if kind = 3 then s.rasterPacket v e.stream x.m else (s.audioPacket v e.stream x.m, false)
  let s := if pk.2 then s.count 0x4A00 2 else s
  let own := if kind = 2 then usT (x.m * v.packetUs e.stream) else x.t
  let r := s.send e (v.streamMark e.stream) t (s.timedMay kind own t && !s.holed false e.d) pk.1
  let s := r.1.setObj (0x2500 + e.stream) 0x1C ((x.m + 1) % 0x10000)
  if r.2 then (s.holdWire p (t + wireTime pk.1.length e.vlan (s.portRate p))).countSent e.stream 0 x.m false else s

/-- Another frame of a port's queues starts at t; on a port that is down it is dropped (DESIGN CHOICE, log 123). -/
def State.departFrame (s : State) (p : Nat) (t : Tick) (q : QueuedFrame) : State :=
  let s := s.until t
  let s := { s with queues := s.queues.erase q }
  if !s.portUp p then s
  else
    let r := s.stamped t q.out
    (r.1.say r.2).holdWire p (t + onWire q.wire (s.portRate p))

/-- The effect of PACKET_DEPARTURE (R247, R250): the next frame of a port reaches its start. While the module is frozen
nothing leaves (R27). -/
def State.packetDeparture (s : State) (p : Nat) : State :=
  if s.power.freeze.isSome ∨ s.power.held.isSome then s
  else match firstCandidate (s.candidates p) with
    | none => s
    | some c => match c.what with
      | .paced x => s.departPaced p c.start x
      | .timed x => s.departTimed p c.start x
      | .frame q => s.departFrame p c.start q

/-! ### ARP (R235) -/

/-- The effect of ARP_REQUEST: a request for the port's own address is answered. -/
def State.arpRequest (s : State) (p target senderIp _senderMac : Nat) : State :=
  if s.portUp p ∧ target = s.nat 0x2101 (p + 1) ∧ target ≠ 0 then s.manage p 28 (.arp p senderIp (Config.mac p)) else s

/-- Every next hop that a port's enabled entries need. -/
def State.hops (s : State) (p : Nat) : List Nat := ((s.ranked p).filterMap s.nextHop).eraseDups

/-- The effect of ARP_REFRESH: the module asks for every next hop, and keeps the answers. It does so every 60 s, and at
once for a hop not yet resolved. -/
def State.arpRefresh (s : State) (p : Nat) (answers : List (Nat × Nat)) : State :=
  let need := s.hops p
  let known := s.ether p
  let open_ := need.any fun h => !(known.arp.any fun a => a.1 == h)
  let s := match known.refreshed with
    | some t => if open_ then s else s.until (secT 60 + t)
    | none => s
  let s := need.foldl (fun s h => s.manage p 28 (.arp p h 0)) s
  let got := if s.portUp p then answers.filter fun a => need.contains a.1 else []
  { s with ports := Tab.put s.ports p { known with arp := got, refreshed := some s.now } }

/-! ### Time-gate lists (R251, R252) -/

/-- The queues that enabled streams use on a port. -/
def State.mediaQueues (s : State) (p : Nat) : List Nat :=
  ((s.ranked p).filter fun e => s.strOn e.stream).map fun e => s.str e.stream 7

/-- Whether every entry of a list opens every media queue of a port (R251). -/
def State.listOpen (s : State) (p : Nat) (l : List (Nat × Nat)) : Bool :=
  l.all fun e => (s.mediaQueues p).all fun q => e.1.testBit q

/-- The effect of GATE_LIST_ARM with its answer (R252): the pending list is checked and armed. The armed list is a copy taken now: a
later write of 0x6203 does not change it (DESIGN CHOICE, log 124). -/
def State.gateListArm (s : State) (p n : Nat) : State × Nat :=
  let disarm (s : State) : State := { s with egress := { s.egress with armed := Tab.erase s.egress.armed p } }
  if 256 < n then (s, 0x06090030)
  else if n = 0 then (((disarm s).setObj (0x4410 + p) 4 0).setObj (0x4410 + p) 6 0, 0)
  else
    let l := s.gateList 0x6203 p n
    if l.any fun e => e.2 % 64 != 0 || decide (e.2 < 64) || decide (1000000000 < e.2) then (s, 0x06090030)
    else if !s.listOpen p l then (s, 0x08000020)
    else
      let cycle := gateCycle l
      let base := secT (s.nat (0x4410 + p) 2) + nsT (s.nat (0x4410 + p) 3)
      let k := if base < msT 1 + s.now then cdiv (msT 1 + s.now - base) cycle else 0
      let s := (s.setObj (0x4410 + p) 4 n).setObj (0x4410 + p) 6 1
      ({ s with egress := { s.egress with armed := Tab.put s.egress.armed p (base + k * cycle, s.bytesAt 0x6203 1 (2048 * p) (8 * n), base) } }, 0)

/-- The effect of GATE_LIST_TAKEOVER (R252): the armed list becomes the operational one. -/
def State.gateListTakeover (s : State) (p : Nat) : State :=
  match Tab.find? s.egress.armed p with
  | none => s
  | some (t, list, base) =>
    let s := s.until t
    let s := s.putBytes 0x6204 1 (2048 * p) list
    let s := ((s.setObj (0x4410 + p) 5 (list.length / 8 : Nat)).setObj (0x4410 + p) 6 0).count (0x4410 + p) 7
    { s with egress := { s.egress with armed := Tab.erase s.egress.armed p, bases := Tab.put s.egress.bases p base } }

end Sys2Proof.Machine
end

