-- ==== Sys2Proof/Machine/Links.lean ====
section
/-! DEFINITION. Links.lean: lanes, Ethernet port links, and the device links: configuration, bring-up, frames and rate
matching (R258, R284-R297). -/

namespace Sys2Proof.Machine

/-! ### Which lanes a link has (R159, R181, R182) -/

/-- The unit takes part in a cascade (R181). -/
def State.inCascade (s : State) : Bool :=
  s.nat 0x2300 1 != 0 && s.nat 0x2300 3 == s.nat 0x2300 2 && decide (s.nat 0x2300 3 < s.nat 0x2300 4)

/-- The unit has a lower, or an upper link (R182). -/
def State.hasLower (s : State) : Bool := s.inCascade && (s.nat 0x2300 5 == 1 || s.nat 0x2300 3 != 0)
def State.hasUpper (s : State) : Bool := s.inCascade && (s.nat 0x2300 5 == 1 || s.nat 0x2300 3 + 1 != s.nat 0x2300 4)

/-- Whether the group of a lane runs the device link. -/
def State.linkGroup (s : State) (lane : Nat) : Bool := s.nat 0x2100 (lane / 4 + 1) == 6

/-- Physical lanes of link k: 0 lower, 1 upper, 2 mirror (Table 13-7). -/
def State.linkLanes (s : State) (k : Nat) : List Nat :=
  let n := s.nat 0x2300 6
  let l := match k with
    | 0 => if s.hasLower then (List.range n).map (8 + ·) else []
    | 1 => if s.hasUpper then (List.range n).map (12 + ·) else []
    | _ => if s.nat 0x2200 1 = 1 then [s.nat 0x2200 6] else []
  if l.all s.linkGroup then l else []

/-- The rate code of link k. -/
def State.linkRate (s : State) (k : Nat) : Nat := if k = 2 then s.nat 0x2200 7 else s.nat 0x2300 7

/-- Link k's object. -/
def State.lk (s : State) (k i : Nat) : Nat := s.nat (0x2810 + k) i

/-- Whether link k is Up (Table 13-4). -/
def State.linkUp (s : State) (k : Nat) : Bool := s.lk k 1 == 6

/-- Time of `n` characters of 10 bits on a lane at 6.25, 10.3125 or 12.5 Gbaud. -/
def charTime (rate n : Nat) : Tick := n * 655360000000 / [6250000, 10312500, 12500000].getD rate 10312500

/-- The runtime state of link k. -/
def LinkRt.empty : LinkRt := ⟨[], 0, 0, false, false, [], []⟩
def State.link (s : State) (k : Nat) : LinkRt := Tab.get LinkRt.empty s.links k
def State.setLink (s : State) (k : Nat) (r : LinkRt) : State := { s with links := Tab.put s.links k r }

/-- Every lane of a list takes a lane state (0x2800+l:09). -/
def State.laneStates (s : State) (lanes : List Nat) (v : Nat) : State :=
  lanes.foldl (fun s l => s.setObj (0x2800 + l) 9 v) s

/-- The training set that a link sends on logical lane i of n (Table 13-2): /C/, D21.5, lane, link kind, lane count, sender state,
strap position, D5.6. -/
def State.trainingBytes (s : State) (k i n st : Nat) : List Byte :=
  [0xBC, 0xB5].map (BitVec.ofNat 8) ++
    [i, (k + 1) % 3, n, if st = 5 then 5 else 3, s.nat 0x2300 3, 0xC5].map (BitVec.ofNat 8)

/-- From now on every configured lane of a link sends training sets, back to back (R290, R294). -/
def State.sendTraining (s : State) (k st : Nat) : State :=
  let lanes := (s.link k).lanes
  { s with out := s.out ++ (lanes.zipIdx).map fun p => .training p.1 (s.trainingBytes k p.2 lanes.length st) }

/-- Link k enters a bring-up state. While it is not Up it sends training sets (R294). -/
def State.enterLink (s : State) (k st : Nat) : State :=
  let s := (s.setObj (0x2810 + k) 1 st).setLink k { s.link k with since := s.now }
  if st = 6 then s else s.sendTraining k st

/-- The lanes of a device link receive without inversion, until training finds that they must (R295). -/
def State.plainLanes (s : State) (lanes : List Nat) : State := lanes.foldl (fun s l => s.setObj (0x2800 + l) 8 0) s

/-- Link k goes back to signal wait (R294, R296): what was in assembly is discarded and not counted. -/
def State.restartLink (s : State) (k : Nat) : State :=
  let r := s.link k
  let s := (s.laneStates r.lanes 1).plainLanes r.lanes
  let s := s.setLink k { r with adapted := false, miswired := false, open_ := [] }
  (s.setObj (0x2810 + k) 4 0).enterLink k 1

/-- Link k leaves Up, with its event; from another state it only restarts (R296). -/
def State.dropLink (s : State) (k : Nat) : State :=
  let st := s.lk k 1
  if st = 0 then s
  else
    let s := if st = 6 then s.raiseUnit 0x0403 k st else s
    s.restartLink k

/-- The links as the pair and cascade objects configure them (R294). A link whose lanes or rate have changed starts its
bring-up; one that is not configured is off. -/
def State.configureLinks (s : State) : State :=
  (List.range 3).foldl (fun s k =>
    let lanes := s.linkLanes k
    let rate := s.linkRate k
    let r := s.link k
    if lanes = r.lanes ∧ (lanes = [] ∨ rate = r.rate) then s
    else
      let s := if s.lk k 1 = 6 then s.raiseUnit 0x0403 k 6 else s
      let s := s.laneStates r.lanes 0
      let s := s.setLink k { LinkRt.empty with lanes := lanes, rate := rate, inbox := r.inbox }
      let s := [1, 2, 3, 4, 5, 6, 7].foldl (fun s i => s.setObj (0x2810 + k) i 0) s
      if lanes = [] then s
      else (((s.setObj (0x2810 + k) 2 lanes.length).laneStates lanes 1).plainLanes lanes).enterLink k 1) s

/-! ### Bring-up (R286, R294, R295) -/

/-- The peaking code that a lane takes: the fixed one, or the widest opening, ties to the lower code (R286). -/
def State.peaking (s : State) (lane : Nat) (opening : List Nat) : Nat :=
  let c := s.nat (0x2800 + lane) 1
  if c < 16 then c
  else ((List.range 16).foldl (fun b i => if opening.getD b 0 < opening.getD i 0 then i else b) 0)

/-- The lane PLL of a group is locked (0x2702:04). -/
def State.lockLanePll (s : State) (g : Nat) : State :=
  s.setObj 0x2702 4 (setBit (s.nat 0x2702 4) g true : Nat)

/-- The effect of CDR_LOCK (R294): on every configured lane, the link enters equalise and lock. -/
def State.cdrLock (s : State) (k : Nat) (lanes : List Nat) : State :=
  let r := s.link k
  if s.lk k 1 ≠ 1 then s
  else
    let got := r.lanes.filter lanes.contains
    let s := got.foldl (fun s l => (s.lockLanePll (l / 4)).setObj (0x2800 + l) 9 2) s
    if got = r.lanes then s.enterLink k 2 else s

/-- The effect of EQUALISER_ADAPTATION (R286): each lane's code is frozen. -/
def State.equaliserAdaptation (s : State) (k : Nat) (openings : List (List Nat)) : State :=
  let r := s.link k
  if s.lk k 1 ≠ 2 ∨ r.adapted then s
  else
    let s := (r.lanes.zipIdx).foldl (fun s p =>
      s.setObj (0x2800 + p.1) 2 (s.peaking p.1 (openings.getD p.2 []))) s
    s.setLink k { r with adapted := true }

/-- The partner kind that a link expects in byte 3 (R295). -/
def partnerKind : Nat → Nat
  | 0 => 2
  | 1 => 1
  | _ => 0

/-- The report on a physical lane. -/
def laneSet (sets : List TrainingLane) (l : Nat) : Option TrainingLane := sets.find? fun t => t.lane == l

/-- Every configured lane's report, in the order of the physical lanes; none where one is missing. -/
def allSets (lanes : List Nat) (sets : List TrainingLane) : Option (List TrainingLane) :=
  let l := lanes.filterMap (laneSet sets)
  if l.length = lanes.length then some l else none

/-- What makes training complete (R295). -/
def trainingOk (k n : Nat) (l : List TrainingLane) : Bool :=
  ((List.range n).all fun i => l.any fun t => t.logical == i) && l.all fun t => t.count == n && t.kind == partnerKind k

/-- The lane map word: physical lane of logical lane i (0x2810+k:03). -/
def laneMap (l : List TrainingLane) : Nat := (l.map fun t => t.lane * 16 ^ t.logical).sum

/-- State 3 (R295): polarity, then the lane map, else the miswired event. -/
def State.train (s : State) (k : Nat) (l : List TrainingLane) : State :=
  let turned := l.filter (·.inverted)
  if turned ≠ [] then
    turned.foldl (fun s t =>
      let now := s.nat (0x2800 + t.lane) 8 == 0
      (s.setObj (0x2800 + t.lane) 8 (b2n now)).setObj (0x2810 + k) 4 (setBit (s.lk k 4) t.lane now : Nat)) s
  else if l.any fun t => decide (t.run < 16) then s
  else if trainingOk k l.length l then
    let s := (s.setObj (0x2810 + k) 3 (laneMap l : Nat)).setObj (0x2810 + k) 6 (((l.head?.map (·.kind)).getD 0 : Nat) : Int)
    (s.setObj (0x2810 + k) 7 (((l.head?.map (·.position)).getD 0 : Nat) : Int)).enterLink k 4
  else
    let r := s.link k
    if r.miswired then s
    else
      let bad := (l.find? fun t => t.count != l.length || t.kind != partnerKind k ||
        decide (l.length ≤ t.logical) || decide (1 < (l.filter fun u => u.logical == t.logical).length)).map (·.lane)
      (s.setLink k { r with miswired := true }).raiseUnit 0x0404 k (bad.getD 0)

/-- The effect of TRAINING_SET (R294-R296): what the lanes of a link show of the sets they receive. In Up it means that the
partner has restarted. -/
def State.trainingSet (s : State) (k : Nat) (sets : List TrainingLane) : State :=
  let r := s.link k
  if s.lk k 1 = 6 then (if sets.isEmpty then s else s.dropLink k)
  else match allSets r.lanes sets with
    | none => s
    | some l =>
      match s.lk k 1 with
      | 2 => if r.adapted ∧ l.all (fun t => decide (8 ≤ t.run)) then (s.laneStates r.lanes 3).enterLink k 3 else s
      | 3 => s.train k l
      | 5 =>
        if l.all fun t => t.state == 5 && decide (8 ≤ t.run) then
          let s := s.until (r.since + charTime r.rate 128)
          let s := (s.laneStates r.lanes 4).count (0x2810 + k) 0xC
          let s := r.lanes.foldl (fun s l => s.count (0x2800 + l) 0xE) s
          s.enterLink k 6
        else s
      | _ => s

/-- The effect of COMPENSATION_SEQUENCE (R293, R294): deskew in state 4; in Up, a skip character deleted or added where
every lane's buffer stands more than 8 characters off its centre. -/
def State.compensation (s : State) (k : Nat) (seen : List Nat) (occupancy : List Int) (skew : Nat) : State :=
  let r := s.link k
  if s.lk k 1 = 4 then
    if r.lanes.all seen.contains ∧ skew ≤ 32 then (s.setObj (0x2810 + k) 5 skew).enterLink k 5 else s
  else if s.lk k 1 = 6 ∧ occupancy.length = r.lanes.length then
    if occupancy.all fun o => decide (8 < o) then (s.count (0x2810 + k) 0xA).say (.skip k true)
    else if occupancy.all fun o => decide (o < -8) then (s.count (0x2810 + k) 0xB).say (.skip k false)
    else s
  else s

/-- Time limit of a bring-up state (Table 13-4). -/
def stateLimit : Nat → Option Tick
  | 2 => some (msT 2)
  | 3 | 4 | 5 => some (msT 1)
  | _ => none

/-- The effect of LINK_STATE_TIMEOUT (R294). -/
def State.linkTimeout (s : State) (k : Nat) : State :=
  match stateLimit (s.lk k 1) with
  | none => s
  | some d => ((s.until ((s.link k).since + d)).count (0x2810 + k) 0xD).restartLink k

/-- The effect of DEVICE_LINK_DOWN (R296), whichever its cause. -/
def State.deviceLinkDown (s : State) (k : Nat) : State := if s.linkUp k then s.dropLink k else s

/-! ### Frames (R291, R292) -/

/-- A message was discarded on a link: counted as a record, or on a cascade link a message, that failed its CRC (R292). -/
def State.countBad (s : State) (k : Nat) : State :=
  if k = 2 then s.count 0x4200 3 else s.count 0x4300 4

/-- The effect of LINK_FRAME (R292): the frame is checked, and its fragment joins the message of its rank. -/
def State.linkFrame (s : State) (x : LinkFrameIn) : State :=
  if !s.linkUp x.link then s
  else
    let k := x.link
    let r := s.link k
    let s := s.count (0x2810 + k) 8
    let s := if x.codeErr then
        (s.count (0x2800 + r.lanes.getD (s.draw % max 1 r.lanes.length) 0) 0xB).drawn else s
    let b0 := field x.bytes 0 1
    let b1 := field x.bytes 1 1
    let cls := b0 % 4
    let first := b0.testBit 2
    let last := b0.testBit 3
    let rank := b1 % 8
    let idx := b1 / 8
    let len := field x.bytes 2 2 % 4096 + 1
    let body := slice x.bytes 4 len
    let crcOk := x.bytes.length == len + 6 && crc16 (x.bytes.take (len + 4)) == field x.bytes (len + 4) 2
    let cur := Tab.find? r.open_ rank
    let follows := match cur with
      | some (i, _) => (!first && i == idx : Bool)
      | none => (first && idx == 0 : Bool)
    let shapeOk := !x.codeErr && x.endOk && crcOk
    if shapeOk && follows then
      let bytes := match cur with
        | some (_, b) => b.map (· ++ body)
        | none => some body
      if last then
        let inbox := match bytes with
          | some b => (r.inbox ++ [(cls, b)])
          | none => r.inbox
        s.setLink k { r with open_ := Tab.erase r.open_ rank, inbox := inbox }
      else s.setLink k { r with open_ := Tab.put r.open_ rank ((idx + 1) % 32, bytes) }
    else
      let s := s.count (0x2810 + k) 9
      let dead := match cur with
        | some (_, none) => !first
        | _ => false
      let s := if dead then s else s.countBad k
      s.setLink k { r with
        open_ := if last then Tab.erase r.open_ rank else Tab.put r.open_ rank ((idx + 1) % 32, none) }

/-- A message is taken from a link: a copy that waits in an inbox leaves it (log 24). -/
def State.takeMessage (s : State) (k cls : Nat) (bytes : List Byte) : State :=
  let r := s.link k
  s.setLink k { r with inbox := r.inbox.erase (cls, bytes) }

/-- The frames of a message (R291, R292): fragments of up to 2,048 bytes, each with its header and CRC-16. -/
def linkFrames (cls rank : Nat) (msg : List Byte) : List (List Byte) :=
  let k := max 1 (cdiv msg.length 2048)
  (List.range k).map fun i =>
    let body := (msg.drop (2048 * i)).take 2048
    let h := beBytes 1 (cls + 4 * b2n (i == 0) + 8 * b2n (i + 1 == k)) ++ beBytes 1 (rank + 8 * (i % 32)) ++
      beBytes 2 (body.length - 1) ++ body
    h ++ beBytes 2 (crc16 h)

/-- Frames take their place among those that wait for the link: before every frame of a later order (R163, R183). -/
def placeFrames (link order : Nat) (fs : List Out) : List Out → List Out
  | [] => fs
  | .frame l k b :: rest =>
    if l = link ∧ order < k then fs ++ .frame l k b :: rest else .frame l k b :: placeFrames link order fs rest
  | o :: rest => o :: placeFrames link order fs rest

/-- A message is handed to a link: cut into frames, and interleaved with the frames that wait by their order (R183). -/
def State.transmit (s : State) (link cls rank order : Nat) (msg : List Byte) : State :=
  { s with out := placeFrames link order ((linkFrames cls rank msg).map (.frame link order)) s.out }

/-! ### Ethernet ports and lane PLLs (R258, R284-R286) -/

/-- The physical lanes of a port (Table 10-1, R209). -/
def State.portLanes (s : State) (p : Nat) : List Nat :=
  match s.portList[p]? with
  | none => []
  | some (g, _) =>
    let mode := s.nat 0x2100 (g + 1)
    let k := (s.portList.take p).countP fun x => x.1 == g
    match mode with
    | 1 | 2 => (List.range 4).map (4 * g + ·)
    | 3 => [4 * g, 4 * g + 1]
    | 4 | 5 => [4 * g + k]
    | _ => []

/-- The effect of PORT_LINK_DOWN (R258). -/
def State.portLinkDown (s : State) (p : Nat) : State :=
  if s.nat 0x2105 (p + 1) ≠ 2 then s
  else ((s.setObj 0x2105 (p + 1) 1).laneStates (s.portLanes p) 1).raiseUnit 0x0401 p

/-- The effect of PORT_LINK_UP: its lanes are up, with the settings that this bring-up takes (R284-R286). An adapting
lane's code is a free value: no command names what its Ethernet receiver measured. -/
def State.portLinkUp (s : State) (p : Nat) : State :=
  if s.nat 0x2105 (p + 1) ≠ 1 then s
  else
    let s := (s.portLanes p).foldl (fun s l =>
      let c := s.nat (0x2800 + l) 1
      let s := if c < 16 then s.setObj (0x2800 + l) 2 c else (s.setObj (0x2800 + l) 2 (s.draw % 16 : Nat)).drawn
      let s := (s.setObj (0x2800 + l) 8 (s.obj (0x2800 + l) 7)).setObj (0x2800 + l) 9 4
      (s.lockLanePll (l / 4)).count (0x2800 + l) 0xE) s
    (s.setObj 0x2105 (p + 1) 2).raiseUnit 0x0402 p

/-- The ports as the lane group modes give them (0x2105): a port whose group or rate has changed is down, and one that no
mode gives reads 0. `before` is the port list that was in force. -/
def State.configurePorts (s : State) (before : List (Nat × Nat)) : State :=
  let now := s.portList
  let s := (List.range 8).foldl (fun s p =>
    if now[p]? = before[p]? ∧ (now[p]? = none ↔ s.nat 0x2105 (p + 1) = 0) then s
    else
      let s := if s.nat 0x2105 (p + 1) = 2 then s.raiseUnit 0x0401 p else s
      s.setObj 0x2105 (p + 1) (if now[p]? = none then 0 else 1)) s
  (List.range 4).foldl (fun s g =>
    let m := s.nat 0x2100 (g + 1)
    let lanes := (List.range 4).map (4 * g + ·)
    let s := if m = 0 then (s.laneStates lanes 0).setObj 0x2702 4 (setBit (s.nat 0x2702 4) g false : Nat)
      else s.setObj 0x2702 4 (setBit (s.nat 0x2702 4) g true : Nat)
    lanes.foldl (fun s l => if m ≠ 0 ∧ m ≠ 6 ∧ s.nat (0x2800 + l) 9 = 0 ∧ (m ≠ 3 ∨ l % 4 < 2)
      then s.setObj (0x2800 + l) 9 1 else s) s) s

/-- The effect of LANE_PLL_LOCK_LOSS (R258): every lane, port and device link of the group goes down. -/
def State.lanePllLoss (s : State) (g : Nat) : State :=
  if !(s.nat 0x2702 4).testBit g then s
  else
    let s := s.setObj 0x2702 4 (setBit (s.nat 0x2702 4) g false : Nat)
    let s := (List.range 8).foldl (fun s p => if (s.portList[p]?).any (fun x => x.1 == g) then s.portLinkDown p else s) s
    (List.range 3).foldl (fun s k => if (s.link k).lanes.any (fun l => l / 4 == g) then s.dropLink k else s) s

/-- The effect of LANE_RETRAIN (R284): the lane goes down and comes up again, with its port or its link. -/
def State.laneRetrain (s : State) (l : Nat) : State :=
  let s := (List.range 8).foldl (fun s p => if (s.portLanes p).contains l then s.portLinkDown p else s) s
  (List.range 3).foldl (fun s k => if (s.link k).lanes.contains l then s.dropLink k else s) s

end Sys2Proof.Machine
end

