-- ==== Sys2Proof/Machine/Graticule.lean ====
section
/-! DEFINITION. Graticule.lean: cascade messages and routes, the canvas rectangles, and the picture-level decision of a
canvas, at its master and on its members (R181-R192, R195). -/

namespace Sys2Proof.Machine

/-! ### Records and messages (R163, R185) -/

/-- Whether a received record stands: its version, type, length and CRC (R163). -/
def recOk (type_ : Nat) (rec : List Byte) : Bool :=
  decide (12 ≤ rec.length) && field rec 0 1 == type_ && field rec 1 1 == 1 &&
    field rec (rec.length - 4) 4 == crc32c (rec.take (rec.length - 4))

/-- A slot number from its low 32 bits, near one that is known. -/
def nearSlot (near low : Nat) : Nat := ((near : Int) + serialDiff 32 low near).toNat

/-- This unit's position. -/
def State.pos (s : State) : Nat := s.nat 0x2300 3
/-- N. -/
def State.members (s : State) : Nat := s.nat 0x2300 4
/-- The unit is its cascade's master (R181). -/
def State.isMaster (s : State) : Bool := s.inCascade && s.pos == 0
/-- The unit takes part in a canvas. -/
def State.canvasOn (s : State) : Bool := s.inCascade && s.nat 0x2300 1 == 1
/-- The canvas channel. -/
def State.canvasChan (s : State) : Nat := s.nat 0x2300 0xA
/-- Positions other than this unit's. -/
def State.others (s : State) : List Nat := (List.range s.members).filter (· != s.pos)

/-- The cascade's own state changes. -/
def State.onCasc (s : State) (f : CascSt → CascSt) : State := { s with casc := f s.casc }

/-- A message: header, body and CRC-32C (R185). -/
def cascMsg (type_ c pos n : Nat) (body : List Byte) : List Byte :=
  let h := [BitVec.ofNat 8 type_, 1, BitVec.ofNat 8 c, BitVec.ofNat 8 pos] ++ beBytes 4 n ++ body
  h ++ beBytes 4 (crc32c h)

/-- The link that a message to a position takes (R183): in a ring the fewer hops, on equal hops the upper link, and the
other way where that link is down. -/
def State.route (s : State) (dst : Nat) : Option Nat :=
  let n := max 1 s.members
  if s.nat 0x2300 5 = 1 then
    let up := (dst + n - s.pos % n) % n
    let first := if 2 * up ≤ n then 1 else 0
    if s.linkUp first then some first else if s.linkUp (1 - first) then some (1 - first) else none
  else
    let k := if dst < s.pos then 0 else 1
    if s.linkUp k then some k else none

/-- The rank of a message type (R183). -/
def messageRank (type_ : Nat) : Nat :=
  if type_ = 0x10 then 1 else if type_ = 0x14 ∨ type_ = 0x17 ∨ type_ = 0x1A then 2
  else if type_ = 0x13 then 4 else if type_ = 0x16 then 5 else 3

/-- A message is sent to a position; it is lost where no link leads there. -/
def State.sendTo (s : State) (dst type_ c n : Nat) (body : List Byte) : State :=
  match s.route dst with
  | some k => s.transmit k 1 (messageRank type_) (messageRank type_) (cascMsg type_ c s.pos (n % 0x100000000) body)
  | none => s

/-- The trailer of a received record or message is checked, kind 6 (R367, R368). The event names the channel and the slot that its
header carries (log 139). -/
def State.trailer (s : State) (rec : List Byte) : State :=
  let c := field rec 2 1
  if rec.length < 12 then s
  else s.checkValue 6 c (if c = 0xFF then 0 else field rec 4 4) (field rec (rec.length - 4) 4) (crc32c (rec.take (rec.length - 4)))

/-- A message arrives: it leaves the inbox of its link, and one whose trailer fails is counted (R185). -/
def State.takeCasc (s : State) (type_ : Nat) (msg : List Byte) : State × Bool :=
  let k := if (s.link 0).inbox.contains (1, msg) then 0 else 1
  let s := s.takeMessage k 1 msg
  if !s.inCascade then (s, false)
  else
    let s := s.trailer msg
    if recOk type_ msg then (s, true) else (s.count 0x4300 4, false)

/-- A message's sender, and its slot on the canvas channel. -/
def msgFrom (msg : List Byte) : Nat := field msg 3 1 % 8
def State.msgSlot (s : State) (msg : List Byte) : Nat := nearSlot (s.chan s.canvasChan).upcoming (field msg 4 4)

/-! ### Rectangles (R186, R195) -/

/-- A rectangle of the canvas. -/
structure Rect where
  x : Nat
  y : Nat
  w : Nat
  h : Nat
  deriving DecidableEq, Repr

/-- The margin rectangle of a position. -/
def State.marginRect (s : State) (p : Nat) : Rect :=
  let m := s.memberCells p
  let xs := s.gratX
  let ys := s.gratY
  let wb := s.nat 0x2310 3
  let x0 := xs.getD m.1 0 - wb
  let y0 := ys.getD m.2.2.1 0 - wb
  ⟨x0, y0, min (xs.getLastD 0) (xs.getD m.2.1 0 + wb) - x0, min (ys.getLastD 0) (ys.getD m.2.2.2 0 + wb) - y0⟩

/-- What two rectangles share, if anything. -/
def Rect.meet (a b : Rect) : Option Rect :=
  let x := max a.x b.x
  let y := max a.y b.y
  let x1 := min (a.x + a.w) (b.x + b.w)
  let y1 := min (a.y + a.h) (b.y + b.h)
  if x < x1 ∧ y < y1 then some ⟨x, y, x1 - x, y1 - y⟩ else none

/-- The position that owns region i. -/
def State.ownerOf (s : State) (i : Nat) : Nat := s.nat 0x2311 (i + 1)

/-- CTU rows of region i. -/
def State.regionRows (s : State) (size i : Nat) : Nat := cdiv (s.regionAt i).h size

/-- The part of row r of region i that a position imports (R195, R196). -/
def State.segRect (s : State) (size i r p : Nat) : Option Rect :=
  let q := s.regionAt i
  if s.ownerOf i = p then none
  else Rect.meet ⟨q.x, q.y + r * size, q.w, min size (q.h - r * size)⟩ (s.marginRect p)

/-- Whether any other position imports rows of this unit's regions. -/
def State.exportsAny (s : State) (g : AuCfg) : Bool :=
  g.regions.any fun i => s.others.any fun p => (List.range (s.regionRows g.size i)).any fun r =>
    (s.segRect g.size i r p).isSome

/-- An entry of the mark table in a decision record. -/
def markEntry (r : ChanRt) (a : Au) (e : PicEntry) : List Byte :=
  let i := a.list0.findIdx fun x => x.poc == e.poc
  beBytes 4 e.poc ++ [BitVec.ofNat 8 e.mark.code, BitVec.ofNat 8 (b2n e.anchor + 2 * b2n (r.isPoisoned e)),
    BitVec.ofNat 8 (if i < a.list0.length then i else 0xFF), 0]

/-- Picture kind (Table 8-3). -/
def Au.kind (a : Au) : Nat :=
  if a.skip then 4 else if a.idr then 0 else match a.sweep with | some (0, _) => 1 | some _ => 2 | none => 3

/-- The quality QP of an AU (R112). -/
def State.auQq (s : State) (c : Nat) (a : Au) : Nat :=
  qualityQp a.cfg.qt ((s.atSlot a.cfg.rate a.slot).obj (expert c 8) 4) a.idr (qMax a.cfg.codec)

/-- A mark from its code. -/
def markOf : Nat → Mark
  | 2 => .longTerm
  | 3 => .pinned
  | _ => .shortTerm

/-! ### Frame reports (R191, Table 9-2) -/

/-- The L1 blocks of the member rectangle, CTU by CTU: flow, block, A_b and S_F. -/
def State.reportBlocks (s : State) (g : AuCfg) (n : Nat) : List (List (Nat × Nat × Nat × Nat)) :=
  (List.range g.rows).flatMap fun y => (List.range g.cols).map fun x =>
    match s.canvasBlocks g x y with
    | none => []
    | some (f, bs) =>
      let a := s.anaOf f anaFuel n
      bs.map fun b => (f, b, Tab.get 0 a.act b, Tab.get 0 a.cost b)

/-- The histogram of the L1 samples of blocks. -/
def State.blockHist (s : State) (n : Nat) (bs : List (Nat × Nat × Nat × Nat)) : List Nat :=
  bs.foldl (fun h x =>
    let q := s.flowRec x.1
    let w := pad64 q.width / 4
    let hh := pad64 q.height / 4
    let img := (s.anaOf x.1 anaFuel n).l1
    (List.range 64).foldl (fun h i =>
      h.modify (imgAt img w hh (8 * (x.2.1 % (w / 8)) + i % 8 : Nat) (8 * (x.2.1 / (w / 8)) + i / 8 : Nat) / 16) (· + 1)) h)
    (List.replicate 64 0)

/-- The Survey value and the epoch in force for slot n, as a frame report carries them (R185, R372). -/
def State.reportMark (s : State) (n : Nat) : List Byte :=
  let v := s.forSlot s.canvasChan n
  beBytes 4 v.survey.value ++ beBytes 4 (v.nat 0x2F00 7)

/-- The body of this unit's frame report of slot n. -/
def State.reportBody (s : State) (g : AuCfg) (n : Nat) : List Byte :=
  let ctus := s.reportBlocks g n
  let all := ctus.flatten
  let act := s.actSum g n
  s.reportMark n ++ beBytes 4 all.length ++
    beBytes 4 (all.countP fun x => decide (x.2.2.1 < x.2.2.2)) ++ beBytes 8 act.1 ++ beBytes 4 act.2 ++
    ((s.blockHist n all).flatMap (beBytes 4)) ++
    ctus.flatMap fun bs => beBytes 4 (bs.map (·.2.2.1)).sum ++ beBytes 4 (bs.map fun x => min x.2.2.2 x.2.2.1).sum

/-- Every flow of this unit's regions has settled for slot n: those whose frame is present are analysed. -/
def State.reportDue (s : State) (g : AuCfg) (n : Nat) : Bool :=
  let gift (i : Nat) : SlotGift := ((s.flow (s.regionAt i).flow).frame n).gift
  (g.regions.all fun i => match gift i with
    | .undecided => false
    | .present => (s.anaGet (s.regionAt i).flow n).done
    | _ => true) && g.regions.any fun i => decide (gift i = .present)

/-- The master holds a position's frame report of a slot. -/
def State.holdReport (s : State) (q n : Nat) (msg : List Byte) : State :=
  s.onCasc fun x => { x with
    reports := Tab.put (x.reports.filter fun p => decide (n * 64 ≤ p.1 + 64 * 64)) (posKey n q) msg
    lastReport := Tab.put x.lastReport q msg }

/-- The report of a position that a decision from slot n uses: its own, or its last held one; none of a lost member. -/
def State.reportFor (s : State) (n q : Nat) : Option (List Byte) :=
  if s.casc.lost.testBit q then none
  else match Tab.find? s.casc.reports (posKey n q) with
    | some m => some m
    | none => Tab.find? s.casc.lastReport q

/-! ### The canvas decision at the master (R191, R192) -/

/-- ΣA_b and Σmin(S_F, A_b) of CTU row r of a member, from its report. -/
def reportRow (g : AuCfg) (msg : List Byte) (r : Nat) : Nat × Nat :=
  (List.range g.cols).foldl (fun t x =>
    let o := 292 + 8 * (r * g.cols + x)
    (t.1 + field msg o 4, t.2 + field msg (o + 4) 4)) (0, 0)

/-- g_t,m of a member (R192). -/
def memberGuardRow (g : AuCfg) (idr : Bool) : Nat :=
  guardRow g.cols (if idr then guardI g.codec g.ctu g.chroma else guardP g.codec g.ctu g.chroma) +
    (g.across - 1) * rowOverhead

/-- The members' configurations, by position. -/
def State.memberCfgs (v : State) (c : Nat) : List AuCfg := (List.range v.members).map (v.auCfgAt c)

/-- The guard reserve of all members. -/
def guardReserve (gs : List AuCfg) (idr : Bool) : Nat := (gs.map fun g => g.rows * memberGuardRow g idr).sum

/-- The 64 bins of a report. -/
def reportHist (msg : List Byte) : List Nat := (List.range 64).map fun i => field msg (36 + 4 * i) 4

/-- Scene cut over the summed histograms and block counts of slot n and the slot before it (R63, R191). -/
def State.canvasCut (s : State) (n : Nat) : Bool :=
  let pairs := (List.range s.members).filterMap fun q =>
    match s.reportFor n q, Tab.find? s.casc.reports (posKey (n - 1) q) with
    | some a, some b => some (a, b)
    | _, _ => none
  let sum (l : List (List Nat)) : List Nat := l.foldl (fun t h => t.zipWith (· + ·) h) (List.replicate 64 0)
  let h0 := sum (pairs.map fun p => reportHist p.1)
  let h1 := sum (pairs.map fun p => reportHist p.2)
  let nq := h0.sum
  let d := (h0.zip h1).foldl (fun t x => t + ((x.1 : Int) - x.2).natAbs) 0
  let blocks := (pairs.map fun p => field p.1 16 4).sum
  let moved := (pairs.map fun p => field p.1 20 4).sum
  decide (0 < nq ∧ 0 < blocks ∧ s.nat 0x4010 1 ≤ 256 * d / (2 * nq) ∧ s.nat 0x4010 2 ≤ 256 * moved / blocks)

/-- What the master decides AU n from; `v` holds the objects of slot n. -/
def State.canvasIn (s v : State) (c n : Nat) : CanvasIn :=
  let gs := v.memberCfgs c
  let g := v.auCfg c
  let b := basisSlot g.d n
  let reps := (List.range s.members).map (s.reportFor b)
  let held := reps.filterMap id
  let rows := (List.range (cdiv g.ch g.size)).map fun j =>
    (gs.zip reps).foldl (fun t x =>
      let top := x.1.y0 / x.1.size
      match x.2 with
      | some m => if top ≤ j ∧ j < top + x.1.rows then
          (let p := reportRow x.1 m (j - top); (t.1 + p.1, t.2 + p.2)) else t
      | none => t) (0, 0)
  ⟨s.canvasCut b, rows, (guardReserve gs true, guardReserve gs false),
   (held.map fun m => field m 24 8).sum / max 1 (held.map fun m => field m 32 4).sum⟩

/-- M_0 to M_7 of AU n (R192). -/
def State.shares (s v : State) (c : Nat) (a : Au) : List Nat :=
  let gs := v.memberCfgs c
  let b := basisSlot a.cfg.d a.slot
  let weigh (q : Nat) (g : AuCfg) : Nat :=
    match s.reportFor b q with
    | none => 0
    | some m => ((List.range g.rows).map fun r =>
        let x := reportRow g m r
        predict a.alphaI a.alphaP (if a.idr then x.1 else 0) (if a.idr then 0 else x.2) a.qb).sum
  let raw := gs.zipIdx.map fun p => weigh p.2 p.1
  let ws := if raw.sum = 0 then gs.zipIdx.map fun p => if s.casc.lost.testBit p.2 then 0 else p.1.rows * p.1.cols
    else raw
  let rest := a.m - guardReserve gs a.idr
  gs.zipIdx.map fun p =>
    p.1.rows * memberGuardRow p.1 a.idr + rest * ws.getD p.2 0 / max 1 ws.sum

/-- The body of the canvas decision of AU n (Table 9-2). -/
def State.canvasBody (s : State) (c : Nat) (a : Au) (shares : List Nat) (absent : Nat) : List Byte :=
  let r := s.chan c
  beBytes 4 a.poc ++ beBytes 1 a.kind ++ beBytes 1 a.cause ++ beBytes 1 a.qb ++ beBytes 1 (s.auQq c a) ++
    beBytes 4 a.alphaI ++ beBytes 4 a.alphaP ++ beBytes 4 a.aRef ++ beBytes 1 a.list0.length ++
    beBytes 1 a.held.length ++ beBytes 1 a.marks.length ++ beBytes 1 (b2n s.casc.rescue.isSome) ++
    beBytes 4 (s.casc.rescue.getD 0) ++ beBytes 1 s.casc.lost ++ beBytes 1 absent ++ zeros 2 ++
    (fit 32 (shares.flatMap (beBytes 4))) ++ beBytes 4 a.survey ++ beBytes 4 a.epoch ++
    a.marks.flatMap (markEntry r a)

/-- A loss notice to every other member (Table 9-2). -/
def State.lossNotice_ (s : State) (cause p : Nat) : State :=
  s.others.foldl (fun s q => s.sendTo q 0x1A 0xFF 0
    (beBytes 1 s.casc.lost ++ beBytes 1 cause ++ beBytes 1 p ++ [0] ++ beBytes 4 s.now32)) s

/-- A member rejoins (R205): its lost bit is cleared, and every member is told. -/
def State.rejoined (s : State) (p : Nat) : State :=
  let s := s.onCasc fun x => { x with lost := setBit x.lost p false, rejoin := none }
  let s := ((s.count 0x2300 0xC).raiseUnit 0x0303 p).lossNotice_ 3 p
  let s := s.setObj 0x2301 (p + 1) (setBit (s.nat 0x2301 (p + 1)) 3 false : Nat)
  if s.casc.lost = 0 ∧ s.nat 0x2300 8 = 4 then s.setObj 0x2300 8 2 else s

/-- A rejoin admitted for AU n (R205): a forced refresh, and the lost bit cleared from that AU on. -/
def State.rejoinAt (s : State) (c n : Nat) : State :=
  match s.casc.rejoin with
  | none => s
  | some (p, t) =>
    if n < t then s
    else (s.onChan c fun r => { r with orders := r.orders ++ [(n, 4, true)] }).rejoined p

/-- The buffers that members reported poisoned carry poison from this decision on (R192). -/
def State.poisonReported (s : State) (c : Nat) : State :=
  let s := s.casc.poisoned.foldl (fun s poc =>
    match ((s.chan c).marks.find? fun e => e.poc == poc).bind (·.buf) with
    | some b => s.onChan c fun r => r.poison b
    | none => s) s
  s.onCasc fun x => { x with poisoned := [] }

/-- AU n of the canvas is decided at its master, and sent to every member (R191, R192). -/
def State.decideCanvas (s : State) (c n : Nat) : State :=
  let s := (s.rejoinAt c n).poisonReported c
  let v := s.forSlot c n
  let x := s.canvasIn v c n
  let s := if x.cut then s.count (basic c 4) 4 else s
  let s := s.decideAu c n (some x)
  match (s.chan c).au? n with
  | none => s
  | some a =>
    let ms := s.shares v c a
    let body := s.canvasBody c a ms (Tab.get 0 s.casc.closed n)
    let s := s.others.foldl (fun s q => s.sendTo q 0x12 c n body) s
    let s := s.onAu c n fun a => { a with m := ms.headD 0, lostMask := s.casc.lost }
    let s := s.setObj (basic c 0xC) 4 (ms.headD 0)
    let s := s.onCasc fun x => { x with
      rescue := none, closed := x.closed.filter fun p => decide (n < p.1 + 64) }
    match a.buf with
    | some b => s.onChan c fun r => { r with bufs := r.bufs.modify b fun q => { q with exporting := v.exportsAny a.cfg } }
    | none => s

/-- AU n is decided where it is: an ordinary channel, or a canvas at its master. -/
def State.decideHere (s : State) (c n : Nat) : State :=
  if s.isCanvas c then s.decideCanvas c n else s.decideAu c n none

/-- What must hold before the master decides AU n (R191): the frame reports of every member not lost are held, or the
report close has passed; AU n − D is complete and the model stands after AU n − 2. -/
def State.canvasReady (s : State) (c n : Nat) : Bool :=
  let r := s.chan c
  let g := (s.forSlot c n).auCfg c
  s.isMaster && r.inSlot n && (if r.deciding then r.clearFor g.d n else true) && s.reportsIn g.d n

/-- Tr(n) (R191). -/
def State.reportCloseAt (s : State) (c n : Nat) : Tick :=
  instantT ((s.chan c).rateAt n) n (((s.forSlot c n).ch c 1 1 : Int) - 2) 1 1000000

/-! ### The canvas decision on a member (R192) -/

/-- A rescue notice (R192): the member applies R96 to the entry of the AU named. -/
def State.rescueNotice (s : State) (c poc : Nat) : State :=
  match (s.chan c).aus.reverse.find? fun a => a.poc == poc with
  | none => s
  | some a => s.onChan c fun r => r.rescued c a

/-- The mark entries of a canvas decision: POC, mark, anchor, place in list0. -/
def decisionMarks (msg : List Byte) : List (Nat × Mark × Bool × Nat) :=
  (List.range (field msg 30 1)).map fun i =>
    let e := slice msg (80 + 8 * i) 8
    (field e 0 4, markOf (field e 4 1), (field e 5 1).testBit 0, field e 6 1)

/-- AU n as a canvas decision opens it on a member; picture kind 0 is an IDR picture (Table 8-3). An entry that the member holds
poisoned leaves its own table, is counted, and is read by none of its CUs; one left with no active reference codes intra (R99,
R192). It waits for Insets whose frames are not decided (DESIGN CHOICE, log 120). -/
def State.openCanvasAu (s : State) (c n : Nat) (msg : List Byte) : State :=
  let s := ((s.applyHeld c).surveyAtDecision).beginRun c n
  let s := if (field msg 31 1).testBit 0 then s.rescueNotice c (field msg 32 4) else s
  let s := s.onChan c fun r => r.spread (r.aus.length + 1)
  let v := s.forSlot c n
  let g := v.auCfg c
  let r := s.chan c
  let poc := field msg 8 4
  let idr := field msg 12 1 == 0
  let listed := decisionMarks msg
  let removed := r.marks.countP r.isPoisoned
  let old := listed.filterMap fun x =>
    if x.1 = poc then none
    else (r.marks.find? fun e => e.poc == x.1 && !r.isPoisoned e).map fun e =>
      ({ e with mark := x.2.1, anchor := x.2.2.1 }, x.2.2.2)
  let kept := old.map (·.1)
  let place (i : Nat) : Option PicEntry := (old.find? fun p => p.2 == i).map (·.1)
  let active := List.range (field msg 28 1)
  let gone (i : Nat) : PicEntry := newEntry (((listed.find? fun x => x.2.2.2 == i).map (·.1)).getD 0) n false none 0
  let list0 := active.map fun i => (place i).getD (gone i)
  let barred := active.filter fun i => (place i).isNone
  let r1 := { r with marks := kept }
  let buf := r1.pick
  let bufs := match buf with
    | some b => r.bufs.set b { PoolBuf.empty with intra := idr, slot := n, exporting := v.exportsAny g }
    | none => r.bufs
  let marks := orderMarks (newEntry poc n idr buf 0 :: kept)
  let ins := s.insetFrames v c n
  let wait_ := s.insetsOpen v c n
  let absent := settledMask ins.2 wait_
  let m := field msg (40 + 4 * s.pos) 4
  let au : Au :=
    { Au.blank g n with
      poc := poc, idr := idr, cause := field msg 13 1, list0 := list0, barred := barred
      held := kept.filter fun e => !list0.contains e, marks := marks, buf := buf, qb := field msg 14 1
      alphaI := field msg 16 4, alphaP := field msg 20 4, m := m, aRef := field msg 24 4, lostMask := field msg 36 1
      basis := some (basisSlot g.d n), paramSets := idr, survey := field msg 72 4, epoch := field msg 76 4
      insetAbsent := absent, insetFrames := ins.1, insetWait := wait_, repl := some ([], 0) }
  let r2 : ChanRt := { r with
    nextSlot := n + 1, nextPoc := poc + 1, marks := marks, bufs := bufs, poisoned := false
    qbPrev := some (field msg 14 1), insets := ins.1
    aus := r.aus.drop (r.aus.length - 16) ++ [au] }
  let s := s.setChan c (r2.spread (r.aus.length + 2))
  let s := s.count (basic c 5) 3 removed
  let s := if 0 < removed ∧ active.length < v.ch c 2 5 + barred.length ∧ ¬idr then s.count (basic c 5) 5 else s
  let s := (s.countInsets c absent).evalLegends g.rate n
  let s := s.applyLegends v c n
  let s := s.onAu c n fun a => { a with legends := Tab.get [] (s.chan c).evals n }
  let s := s.setObj (basic c 0xC) 4 m
  s.reportDecision c au m (g.rows * max (memberGuardRow g true) (memberGuardRow g false))

end Sys2Proof.Machine
end

