-- ==== Sys2Proof/Machine/Reply.lean ====
section
/-! DEFINITION. Reply.lean: Exfer datagrams and their tags, and answers that follow a request later (R388, R390, R392). -/

namespace Sys2Proof.Machine

/-- Bits of the flags byte (Table 19-4). -/
def flagAuth : Nat := 1
def flagResponse : Nat := 2
def flagError : Nat := 4

/-- A datagram from byte 0 to the end of its body (Table 19-4). -/
def exferBytes (type_ flags slot session seq relay : Nat) (body : List Byte) : List Byte :=
  beBytes 1 1 ++ beBytes 1 type_ ++ beBytes 1 flags ++ beBytes 1 slot ++ beBytes 2 session ++ beBytes 2 body.length ++
    beBytes 4 seq ++ beBytes 1 relay ++ zeros 3 ++ body

/-- The key in a slot (R392). -/
def State.exferKey (s : State) (slot : Nat) : List Byte := s.bytesAt 0x1FF2 slot 0 32

/-- A slot holds a key: not 32 zeros. -/
def State.hasKey (s : State) (slot : Nat) : Bool :=
  decide (1 ≤ slot ∧ slot ≤ 4) && (s.exferKey slot).any (· != 0)

/-- The tag of a session's datagram. -/
def State.sessionTag (s : State) (x : ExferSession) (raw : List Byte) : List Byte :=
  Config.hmac (s.exferKey x.keySlot) (x.moduleNonce ++ x.clientNonce ++ raw)

/-- The tag of a pair heartbeat notify (R396). -/
def State.pairTag (s : State) (serial : Nat) (raw : List Byte) : List Byte :=
  Config.hmac (s.exferKey (s.nat 0x1FF1 3)) (beBytes 4 serial ++ zeros 4 ++ zeros 8 ++ raw)

/-- The sessions change. -/
def State.onExfer (s : State) (f : ExferSt → ExferSt) : State := { s with exfer := f s.exfer }

/-- A session by its ID. -/
def State.exferSession (s : State) (id : Nat) : Option ExferSession := s.exfer.sessions.find? fun x => x.ident == id

/-- A session takes a value. -/
def State.putExfer (s : State) (x : ExferSession) : State :=
  s.onExfer fun e => { e with sessions := e.sessions.map fun y => if y.ident = x.ident then x else y }

/-- A datagram of a session goes to its port's management queue; tagged where the session is authenticated. -/
def State.exferOut (s : State) (x : ExferSession) (type_ flags seq : Nat) (body : List Byte) : State :=
  let auth := x.keySlot != 0
  let raw := exferBytes type_ (flags + b2n auth) x.keySlot x.ident seq 0xFF body
  let tag := if auth then s.sessionTag x raw else []
  s.manage x.port (28 + raw.length + tag.length) (.exfer x.port raw tag)

/-- The stored response goes out; flags 0 mean that there is none yet. -/
def State.exferResend (s : State) (x : ExferSession) : State :=
  if x.stored.1 = 0 then s else s.exferOut x x.stored.2.1 x.stored.1 x.q x.stored.2.2

/-- The response to the last request served is stored, and goes out. -/
def State.exferReply (s : State) (x : ExferSession) (type_ code : Nat) (body : List Byte) : State :=
  let x := { x with stored :=
    if code = 0 then (flagResponse, type_, body) else (flagResponse + flagError, type_, beBytes 4 code) }
  (s.putExfer x).exferResend x

/-- An answer frame of SDO on 0x580 + ID, 8 bytes (CiA 301, as in the example of R389). -/
def State.sdoSay (s : State) (bytes : List Byte) : State :=
  s.say (.can (0x580 + s.can.nodeId) (bytes.take 8 ++ zeros (8 - bytes.length)))

/-- A frame that names an object: specifier, index, sub-index, up to four bytes. -/
def sdoFrame (spec : Nat) (o : Obj) (rest : List Byte) : List Byte :=
  BitVec.ofNat 8 spec :: (leBytes 2 o.idx ++ leBytes 1 o.sub ++ rest)

/-- An abort frame. -/
def abortFrame (o : Obj) (code : Nat) : List Byte := sdoFrame 0x80 o (leBytes 4 code)

/-- An answer that follows later: to the SDO download or the Exfer request that waits for it, or to whoever asked. -/
def State.confirm (s : State) (c : Client) (code : Nat) : State :=
  match c with
  | .sdo =>
    (match s.can.late with
     | some (o, ok) =>
       { s with can := { s.can with late := none } }.sdoSay (if code = 0 then ok else abortFrame o code)
     | none => s.say (.confirm c code))
  | .usdo n => s.say (.usdo n code [])
  | .rpdo _ => s
  | .exfer id =>
    match s.exferSession id with
    | some x => if x.stored.1 = 0 then s.exferReply x x.stored.2.1 code [] else s.say (.confirm c code)
    | none => s.say (.confirm c code)

end Sys2Proof.Machine
end

