-- ==== Sys2Proof/Machine/Pair.lean ====
section
/-! DEFINITION. Pair.lean: the hitless pair: roles, mirror records, comparison, the send gate, resynchronisation and
promotion (R159-R180). -/

namespace Sys2Proof.Machine

/-! ### The pair's state -/

/-- Pair on. -/
def State.paired (s : State) : Bool := s.nat 0x2200 1 == 1

/-- Roles in force (0x2200:03). -/
def State.isStandby (s : State) : Bool := s.paired && s.nat 0x2200 3 == 1
def State.isActive (s : State) : Bool := s.paired && s.nat 0x2200 3 == 2

/-- The pair's state in force (0x2200:09). -/
def State.pairState (s : State) : Nat := s.nat 0x2200 9

def PairRecs.empty : PairRecs := ⟨none, none, none, none, none, 0⟩
def PairChan.empty : PairChan := ⟨[], [], [], false, false, none, none, 0, none⟩

/-- Channel c's side of the pair. -/
def State.pc (s : State) (c : Nat) : PairChan := Tab.get PairChan.empty s.pair.chans c

/-- It changes. -/
def State.onPc (s : State) (c : Nat) (f : PairChan → PairChan) : State :=
  { s with pair := { s.pair with chans := Tab.put s.pair.chans c (f (s.pc c)) } }

/-- The pair's own state changes. -/
def State.onPair (s : State) (f : PairSt → PairSt) : State := { s with pair := f s.pair }

/-- The records of an AU. -/
def PairChan.rec_ (p : PairChan) (n : Nat) : PairRecs := Tab.get PairRecs.empty p.recs n

/-- They change; those more than 64 slots older are forgotten. -/
def State.onRec (s : State) (c n : Nat) (f : PairRecs → PairRecs) : State :=
  s.onPc c fun p => { p with recs := Tab.put (p.recs.filter fun x => decide (n ≤ x.1 + 64)) n (f (p.rec_ n)) }

/-- Channel pair state (0x300B:01): 1 in sync, 2 diverged, 3 resync pending. -/
def State.chanSync (s : State) (c : Nat) : Bool := s.ch c 0xB 1 == 1
def State.chanDiverged (s : State) (c : Nat) : Bool := s.ch c 0xB 1 == 2 || s.ch c 0xB 1 == 3

/-- 0x2200:0D and :0E follow the channels' states. -/
def State.countSync (s : State) : State :=
  let cs := s.runningChans
  (s.setObj 0x2200 0xD (cs.countP s.chanSync)).setObj 0x2200 0xE (cs.countP s.chanDiverged)

/-! ### Paired cascades: what master and members tell each other (R178) -/

/-- A unit whose role is its master's (R178). -/
def State.follower (s : State) : Bool := s.inCascade && !s.isMaster

/-- The kinds of a pair relay, a cascade message of type 0x1B (DESIGN CHOICE, log 121: R178 relays these things over the
cascade links, and Table 9-1 gives no message for it): the role that the master has taken, a member's divergence, the AU that
resyncs the canvas channel. -/
inductive PairRelay where
  | role (active promoted : Bool) | diverged (cause : Nat) | resync
  deriving DecidableEq, Repr

/-- Its body. -/
def PairRelay.body : PairRelay → List Byte
  | .role a p => [0, BitVec.ofNat 8 (b2n a + 2 * b2n p), 0, 0]
  | .diverged k => [1, BitVec.ofNat 8 k, 0, 0]
  | .resync => [2, 0, 0, 0]

/-- What a message of that type says. -/
def PairRelay.parse (msg : List Byte) : PairRelay :=
  let x := field msg 9 1
  match field msg 8 1 with
  | 0 => .role (x.testBit 0) (x.testBit 1)
  | 1 => .diverged x
  | _ => .resync

/-- A relay goes from the master to every member, or from a member to the master. -/
def State.relayPair (s : State) (n : Nat) (x : PairRelay) : State :=
  if !s.inCascade then s
  else (if s.isMaster then s.others else [0]).foldl (fun s q => s.sendTo q 0x1B s.canvasChan n x.body) s

/-- A channel is marked diverged: its cause and POC, and no resync under way. -/
def State.markDiverged (s : State) (c cause poc : Nat) : State :=
  let s := ((s.setObj (basic c 0xB) 1 2).setObj (basic c 0xB) 5 cause).setObj (basic c 0xB) 6 poc
  s.onPc c fun p => { p with requested := false, resyncAt := none }

/-- A channel becomes diverged (R165, R166): counted, with its cause and POC, and an event. A member of a paired cascade tells
its master (R178). -/
def State.diverge (s : State) (c n cause poc : Nat) : State :=
  let s := (s.markDiverged c cause poc).count (basic c 0xB) 3
  let s := (s.raise ⟨0x0201, c, n % 0x100000000, cause, poc, 0⟩).countSync
  if s.follower ∧ s.isCanvas c then s.relayPair n (.diverged cause) else s

/-- Every running channel becomes diverged, at its latest AU (R165, R175, R176); one that is diverged already takes the new
cause, and counts no second time. -/
def State.divergeAll (s : State) (cause : Nat) : State :=
  s.runningChans.foldl (fun s c =>
    let r := s.chan c
    let x := match r.aus.getLast? with
      | some a => (a.slot, a.poc)
      | none => (r.upcoming, r.nextPoc)
    if s.chanDiverged c then s.markDiverged c cause x.2 else s.diverge c x.1 cause x.2) s

/-! ### Records (R163, R164) -/

/-- Byte 3 of a record of channel c (Table 8-2). -/
def State.recFlags (s : State) (c : Nat) : Nat :=
  b2n s.isActive + 2 * b2n (s.chanDiverged c) + 4 * b2n (s.isStandby && s.chanDiverged c && !(s.pc c).withdrawn)

/-- A record: header, body and CRC-32C. -/
def mirrorRec (type_ c flags n : Nat) (body : List Byte) : List Byte :=
  let h := [BitVec.ofNat 8 type_, 1, BitVec.ofNat 8 c, BitVec.ofNat 8 flags] ++ beBytes 4 n ++ body
  h ++ beBytes 4 (crc32c h)

/-- A record is handed to the mirror link, and counted, while the link is Up; heartbeats go before all others (R163). -/
def State.mirror (s : State) (rec : List Byte) : State :=
  if s.paired ∧ s.linkUp 2 then (s.count 0x4200 1).transmit 2 0 1 (if field rec 0 1 = 1 then 0 else 1) rec else s

/-- A record arrives: it leaves the link's inbox, and is counted as received, or as failing its CRC. -/
def State.takeRec (s : State) (type_ : Nat) (rec : List Byte) : State × Bool :=
  let s := s.takeMessage 2 0 rec
  if !s.paired then (s, false)
  else
    let s := s.trailer rec
    if recOk type_ rec then (s.count 0x4200 2, true) else (s.count 0x4200 3, false)

/-- The channel that a record names, and its slot. -/
def State.recChan (s : State) (rec : List Byte) : Nat × Nat :=
  let c := field rec 2 1
  (c, nearSlot (s.chan c).upcoming (field rec 4 4))

/-- α_I and α_P after AU n has settled (R119), whether or not the model has been updated from it yet. -/
def ChanRt.alphaAfter (r : ChanRt) (n : Nat) : Nat × Nat :=
  let base := match (r.alphas.filter fun p => decide (p.1 ≤ n)).getLast? with
    | some p => p
    | none => (0, r.alpha0)
  (r.aus.filter fun a => decide (a.slot ≤ n) && (decide (base.1 < a.slot))).foldl (fun al a =>
    if a.replaced || a.skip || !a.settled then al
    else modelStep al.1 al.2 (a.rows.filterMap fun w => if w.guard ∨ w.tail then none else some (w.total, w.xi, w.xp, w.q)))
    base.2

/-- A Legend layer's two bytes: outcome, bit 7 set where no slot is shown; the slot shown. -/
def legendBytes (x : Nat × Nat) : List Byte :=
  if x.2 = 0xFFFF then [BitVec.ofNat 8 (x.1 + 0x80), 0] else [BitVec.ofNat 8 x.1, BitVec.ofNat 8 x.2]

/-- The decision record of AU n: bytes 8 to 91. -/
def State.decisionBody (s : State) (c : Nat) (a : Au) : List Byte :=
  let r := s.chan c
  let sw := a.sweep.getD (0, 0)
  beBytes 4 a.poc ++ beBytes 1 a.kind ++ beBytes 1 a.cause ++ beBytes 1 a.qb ++ beBytes 1 (s.auQq c a) ++
    beBytes 2 sw.1 ++ beBytes 2 sw.2 ++ beBytes 1 a.list0.length ++ beBytes 1 a.held.length ++ beBytes 1 a.pinned ++
    beBytes 1 a.marks.length ++ fit 48 (a.marks.flatMap (markEntry r a)) ++
    fit 8 ((List.range 4).flatMap fun j => legendBytes (a.legends.getD j (0, 0xFFFF))) ++
    beBytes 1 a.insetAbsent ++ zeros 3 ++ beBytes 4 a.survey ++ beBytes 4 a.epoch

/-- The reconstruction check value of AU n's entry. -/
def State.auRecon (s : State) (c : Nat) (a : Au) : Nat :=
  let r := s.chan c
  if a.replaced ∨ a.skip then
    match a.list0 with
    | h :: _ => r.reconOf h
    | [] => greyRecon c a.slot a.cfg
  else match a.buf with
    | some b => ((r.bufs[b]?).map (·.recon)).getD 0
    | none => 0

/-- The stream entries of AU n's record (Table 8-3). -/
def State.streamEntries (s : State) (c : Nat) (a : Au) : List (List Byte) :=
  let v := s.atSlot a.cfg.rate a.slot
  (s.streamsOf v c a.slot).filterMap fun st =>
    match (s.stream? st).bind fun r => r.numbers.find? fun x => x.slot == a.slot with
    | none => none
    | some x =>
      let kind := v.str st 2
      let cc := if kind = 1 then 0 else (List.range 8).foldl (fun t i => t * 16 + x.ccAfter.getD i 0) 0
      some (beBytes 1 st ++ beBytes 1 kind ++ beBytes 2 x.seqAfter ++ beBytes 4 cc)

/-- The AU record of AU n: bytes 8 to the end of its stream entries. -/
def State.auBody (s : State) (c : Nat) (a : Au) : List Byte :=
  let r := s.chan c
  let al := r.alphaAfter a.slot
  let g := a.rows.findIdx (·.guard)
  let es := (s.streamEntries c a).take 16
  beBytes 4 a.data.length ++ beBytes 4 a.check ++ beBytes 4 (s.auRecon c a) ++
    beBytes 2 (if g < a.rows.length then g else 0xFFFF) ++ beBytes 2 (a.rows.countP (·.tail)) ++
    beBytes 4 al.1 ++ beBytes 4 al.2 ++ beBytes 1 a.qb ++ beBytes 1 (b2n (a.replaced && !a.skip) + 2 * b2n a.skip) ++
    beBytes 1 es.length ++ [0] ++ es.flatten

/-! ### Comparison (R165) -/

/-- Whether two records differ in bytes lo to hi − 1. -/
def differ (a b : List Byte) (lo hi : Nat) : Bool := slice a lo (hi - lo) != slice b lo (hi - lo)

/-- The bytes of an AU record that are compared: to the end of its stream entries. -/
def auEnd (rec : List Byte) : Nat := 36 + 8 * field rec 34 1

/-- The cause by which two AU records differ, if they do (Table 8-4). -/
def auCause (a b : List Byte) : Option Nat :=
  if differ a b 8 16 then some 2
  else if differ a b 16 34 then some 3
  else if differ a b 34 (max (auEnd a) (auEnd b)) then some 4
  else none

/-- The POC of AU n, as its own decision gave it. -/
def State.pocOf (s : State) (c n : Nat) : Nat := (((s.chan c).au? n).map (·.poc)).getD 0

/-- A resync that fails: the channel stays diverged and its request stands (R171). -/
def State.resyncFails (s : State) (c : Nat) : State := s.onPc c fun p => { p with resyncAt := none }

/-- A channel comes into sync with AU m (R171); the unit counts it where it had marked the channel diverged. -/
def State.resyncDone (s : State) (c m : Nat) : State :=
  let was := s.chanDiverged c
  let s := s.onPc c fun p => { p with resyncAt := none, requested := false, asked := none, syncFrom := m }
  if !was then s
  else
    let s := (s.setObj (basic c 0xB) 1 1).count (basic c 0xB) 4
    (s.raise ⟨0x0205, c, m % 0x100000000, s.pocOf c m, 0, 0⟩).countSync

/-- Whether the records of AU n are compared: the resync AU's always, others while both sides are in sync. -/
def State.compares (s : State) (c n : Nat) (his : List Byte) : Bool :=
  (s.pc c).resyncAt == some n || (s.chanSync c && !(field his 3 1).testBit 1)

/-- Decision records of AU n, both held (R165); their Survey values are check values of kind 7 (R368). Bit 2 of `compared` says that
bytes 8 to 83 were judged. -/
def State.compareDec (s : State) (c n : Nat) : State :=
  let q := (s.pc c).rec_ n
  match q.ownDec, q.hisDec with
  | some a, some b =>
    if q.compared.testBit 0 then s
    else
      let s := s.onRec c n fun q => { q with compared := q.compared + (if s.compares c n b then 5 else 1) }
      let s := s.checkValue 7 c n (field b 84 4) (field a 84 4)
      if differ a b 84 92 then
        (s.divergeAll 5).setObj 0x2200 9 3
      else
        let s := if s.pairState = 3 then s.setObj 0x2200 9 2 else s
        if !s.compares c n b then s
        else if differ a b 8 84 then
          if (s.pc c).resyncAt = some n then s.resyncFails c else s.diverge c n 1 (s.pocOf c n)
        else s
  | _, _ => s

/-- AU records of AU n, both held: a difference diverges the channel, equality of the resync AU's ends its resync. The check
values of the AU and of its picture are compared (R368), also where the AU's decision records have just diverged the channel. -/
def State.compareAu (s : State) (c n : Nat) : State :=
  let q := (s.pc c).rec_ n
  match q.ownAu, q.hisAu with
  | some a, some b =>
    if q.compared.testBit 1 ∨ s.pairState = 3 then s
    else
      let s := s.onRec c n fun q => { q with compared := q.compared + 2 }
      let judged := s.compares c n b
      let s := if judged ∨ q.compared.testBit 2 then
          (s.checkValue 1 c n (field b 12 4) (field a 12 4)).checkValue 2 c n (field b 16 4) (field a 16 4)
        else s
      if !judged then s
      else
        let resync := (s.pc c).resyncAt == some n
        match auCause a b with
        | some k => if resync then s.resyncFails c else s.diverge c n k (s.pocOf c n)
        | none => if resync ∧ q.ownDec.isSome ∧ q.hisDec.isSome then s.resyncDone c n else s
  | _, _ => s

/-- Operation kind 5 ends once every channel that it names is in sync (R171). -/
def State.pairResyncEnds (s : State) (chans : List Nat) : Bool := chans.all s.chanSync

/-! ### Decisions (R170, R171) -/

/-- The pinned entry of a channel. -/
def ChanRt.pinnedEntry (r : ChanRt) : Option PicEntry := r.marks.find? fun e => e.mark == .pinned

/-- A resync request (Table 8-3). -/
def State.requestBody (s : State) (c : Nat) : List Byte :=
  let r := s.chan c
  match r.pinnedEntry with
  | some e => beBytes 4 e.poc ++ beBytes 4 (r.reconOf e) ++ [1, 0, 0, 0]
  | none => zeros 12

/-- The standby asks for a resync of a channel (R171): while it is diverged, not withdrawn, and no configuration
difference or mirror loss stands; for a cascade its master asks, once no member is lost (R178, R179). -/
def State.wantsResync (s : State) (c : Nat) : Bool :=
  s.isStandby && s.chanDiverged c && !(s.pc c).withdrawn && s.pairState == 2 && (s.pc c).resyncAt.isNone &&
    !(s.isCanvas c && (s.follower || s.casc.lost != 0))

/-- The standby's decision of AU n waits for the active's record (R171). -/
def State.mustDefer (s : State) (c n : Nat) : Bool :=
  let q := (s.pc c).rec_ n
  s.wantsResync c && (s.pc c).requested && q.hisDec.isNone && q.resync.isNone

/-- What the active does with a request before it decides AU n (R171): it may make AU n the resync AU. -/
def State.chooseResync (s : State) (c n : Nat) : State :=
  match (s.pc c).asked with
  | none => s
  | some (pin, poc, crc) =>
    let r := s.chan c
    let v := s.forSlot c n
    let canvas := v.isCanvas c
    let skip := !canvas && decide (((s.flow (v.ch c 0 8)).frame n).gift = .absent)
    let first := r.qbPrev.isNone && r.nextPoc == 0 && n == r.firstSlot
    let due := (v.refreshCauses c n first (if canvas then some (s.canvasIn v c n) else none)).1 != 0
    let force := s.nat 0x2200 0xB == 1
    if !s.isActive ∨ s.pairState ≠ 2 ∨ (s.pc c).resyncAt.isSome ∨ skip ∨ !(force || due) then s
    else
      let gdr := v.ch c 2 1 == 1
      let mine := r.pinnedEntry.filter fun e => pin && e.poc == poc && r.reconOf e == crc && !r.isPoisoned e
      let sweep := gdr && mine.isSome
      let s := if gdr && !sweep then s.count (expert c 0xB) 1 else s
      let bits := (if force then 64 else 0) + (if sweep then 128 else 0)
      let s := s.onChan c fun r => { r with
        orders := r.orders ++ [(n, bits, !sweep)]
        load := if sweep then mine.map fun e => ⟨n, [(e.poc, .shortTerm, e.anchor, crc)]⟩ else r.load }
      let s := s.onPc c fun p => { p with resyncAt := some n, asked := none }
      if canvas then s.relayPair n .resync else s

/-- The resync record of AU m, from the state before its decision (Table 8-3). -/
def State.resyncBody (s : State) (c m : Nat) : List Byte :=
  let r := s.chan c
  let al := r.alphaFor m
  let load := match r.load with | some l => if l.slot = m then l.entries else [] | none => []
  let sweep := !load.isEmpty
  beBytes 4 (if sweep then r.nextPoc else 0) ++ beBytes 1 (b2n sweep) ++ [0] ++
    beBytes 2 (if sweep then (s.forSlot c m).ch c 2 3 else 0) ++ beBytes 4 al.1 ++ beBytes 4 al.2 ++
    beBytes 1 (r.qbPrev.getD 0xFF) ++ beBytes 1 load.length ++ zeros 2 ++
    ((List.range 4).flatMap fun j => legendBytes (0, (r.shownBefore j m).getD 0xFFFF)) ++
    load.flatMap fun e => beBytes 4 e.1 ++ [BitVec.ofNat 8 e.2.1.code, BitVec.ofNat 8 (b2n e.2.2.1), 0, 0] ++ beBytes 4 e.2.2.2

/-- What the standby adopts from a resync record before it decides AU m (R171). -/
def State.adopt (s : State) (c m : Nat) (rec : List Byte) : State :=
  let sweep := field rec 12 1 == 1
  let e := field rec 25 1
  let entries := (List.range e).map fun i =>
    let x := slice rec (36 + 12 * i) 12
    (field x 0 4, markOf (field x 4 1), (field x 5 1).testBit 0, field x 8 4)
  let shown (j : Nat) : Option Nat :=
    if (field rec (28 + 2 * j) 1).testBit 7 then none else some (field rec (29 + 2 * j) 1)
  let qb := field rec 24 1
  let force := s.nat 0x2200 0xB == 1
  let s := s.onChan c fun r => { r with
    nextPoc := if sweep then field rec 8 4 else r.nextPoc
    alphas := (r.alphas.filter fun p => decide (p.1 + 2 < m)) ++ [(m - 2, field rec 16 4, field rec 20 4)] ++
      (r.alphas.filter fun p => decide (m ≤ p.1 + 1))
    qbPrev := if qb = 0xFF then none else some qb
    poisoned := false, moved := none, sweep := none
    layers := r.layers.zipIdx.map fun p => { p.1 with shown := shown p.2 }
    evals := r.evals.filter fun p => decide (m < p.1)
    orders := r.orders ++ [(m, (if force then 64 else 0) + (if sweep then 128 else 0), !sweep)]
    load := if sweep then some ⟨m, entries⟩ else none }
  let s := s.onPc c fun p => { p with resyncAt := some m }
  if s.isCanvas c then s.relayPair m .resync else s

/-- Pins that follow AU n's decision in GDR mode (R170): a recovery point is pinned Wst AUs later. (An IDR picture cancels what
is pending at its own decision.) -/
def State.pairPins (s : State) (c n : Nat) : State :=
  match (s.chan c).au? n with
  | none => s
  | some a =>
    let v := s.atSlot a.cfg.rate n
    if !s.paired ∨ v.ch c 2 1 ≠ 1 then s
    else match a.sweep with
      | some (i, g) =>
        if i + 1 = g then s.onChan c fun r => { r with pins := r.pins ++ [⟨n + (v.ch c 2 5 - v.ch c 5 1), some a.poc⟩] }
        else s
      | none => s

/-- What a paired unit sends at AU n's decision: the resync record of a resync AU, so that a standby that waits adopts it first;
its decision record; a standby's request, once the records held have been compared. -/
def State.decisionSent (s : State) (c n : Nat) (resync : Option (List Byte)) : State :=
  match (s.chan c).au? n with
  | none => s
  | some a =>
    let s := s.pairPins c n
    if !s.paired then s
    else
      let low := n % 0x100000000
      let s := match resync with
        | some b => s.mirror (mirrorRec 6 c (s.recFlags c) low b)
        | none => s
      let rec_ := mirrorRec 3 c (s.recFlags c) low (s.decisionBody c a)
      let s := (s.mirror rec_).onRec c n fun q => { q with ownDec := some rec_ }
      let s := (s.compareDec c n).compareAu c n
      if s.wantsResync c then
        let s := s.mirror (mirrorRec 5 c (s.recFlags c) low (s.requestBody c))
        (s.setObj (basic c 0xB) 1 3).onPc c fun p => { p with requested := true }
      else s

/-- AU n is decided within the pair, nothing deferring it (R171). -/
def State.pairDecide (s : State) (c n : Nat) : State :=
  let s := (s.onPc c fun p => { p with deferred := none }).beginRun c n
  -- the values after AU m − 1 must be held at the decision of AU m + 1
  let s := match (s.pc c).resyncAt with
    | some m => if s.isStandby ∧ n = m + 1 ∧ ((s.pc c).rec_ (m - 1)).hisAu = none then s.resyncFails c else s
    | none => s
  let adopted := if s.wantsResync c then ((s.pc c).rec_ n).resync else none
  let s := match adopted with
    | some rec => s.adopt c n rec
    | none => s.chooseResync c n
  let mine := s.isActive && (s.pc c).resyncAt == some n
  let body := if mine then some (s.resyncBody c n) else none
  let fails := match (s.chan c).load with
    | some l => adopted.isSome && l.slot == n && ((s.chan c).loadFails l).isSome
    | none => false
  let s := s.decideHere c n
  let s := if fails then s.resyncFails c else s
  s.decisionSent c n body

/-- What must hold before AU n is decided here: on a canvas channel its master alone decides (R191). -/
def State.readyHere (s : State) (c n : Nat) : Bool :=
  if s.isCanvas c then s.canvasReady c n else s.decisionReady c n

/-- The effect of PICTURE_DECISION on the channel (R89, R171, R191). -/
def State.pictureDecision (s : State) (c : Nat) : State :=
  let n := (s.chan c).upcoming
  if !s.readyHere c n ∨ (s.pc c).deferred = some n then s
  else
    let s := s.until (s.decisionAt c n)
    if s.mustDefer c n then (s.count (expert c 0xB) 3).onPc c fun p => { p with deferred := some n }
    else s.pairDecide c n

/-- A deferred decision is made once a record for its AU is held. -/
def State.resumeDeferred (s : State) (c n : Nat) : State :=
  if (s.pc c).deferred = some n ∧ !s.mustDefer c n then s.pairDecide c n else s

/-- The effect of DEFERRED_DECISION_TIMEOUT (R171): at E(n − D) + 1 ms the decision waits no longer. -/
def State.deferredTimeout (s : State) (c : Nat) : State :=
  match (s.pc c).deferred with
  | none => s
  | some n => (s.until (msT 1 + s.decisionAt c n)).pairDecide c n

/-! ### AU records and the send gate (R167, R169) -/

/-- The active's stream numbers replace the standby's own for AU n while the channel is diverged (R169). -/
def State.adoptNumbers (s : State) (c n : Nat) : State :=
  match ((s.pc c).rec_ n).hisAu with
  | none => s
  | some rec =>
    if !s.isStandby ∨ !s.chanDiverged c then s
    else (List.range (field rec 34 1)).foldl (fun s i =>
      let e := slice rec (36 + 8 * i) 8
      let st := field e 0 1
      let w := field e 4 4
      let cc := (List.range 8).map fun k => w / 16 ^ (7 - k) % 16
      match s.stream? st with
      | none => s
      | some r =>
        let r := { r with numbers := renumber n (field e 2 2) cc r.numbers }
        (s.setStream st r).setObj (0x2500 + st) 0x1C (((r.numbers.head?).map (·.seqAfter)).getD 0)) s

/-- The active's α values replace the standby's own for every AU before the resync AU (R171). -/
def State.adoptAlphas (s : State) (c n : Nat) : State :=
  match ((s.pc c).rec_ n).hisAu with
  | none => s
  | some rec =>
    let before := match (s.pc c).resyncAt with
      | some m => decide (n < m)
      | none => true
    if !s.isStandby ∨ !s.chanDiverged c ∨ !before then s
    else s.onChan c fun r => { r with alphas := Tab.put r.alphas n (field rec 24 4, field rec 28 4) }

/-- AU n is complete: its record is made, sent and compared (R163). -/
def State.auSent (s : State) (c n : Nat) : State :=
  match (s.chan c).au? n with
  | none => s
  | some a =>
    if !s.paired then s
    else
      let s := s.adoptNumbers c n
      let rec_ := mirrorRec 4 c (s.recFlags c) (n % 0x100000000) (s.auBody c a)
      let s := (s.mirror rec_).onRec c n fun q => { q with ownAu := some rec_ }
      (s.compareDec c n).compareAu c n

/-- Gt(n) (R167). -/
def Au.gateAt (a : Au) : Tick := instantT a.cfg.rate a.slot a.cfg.d 1 12000

/-- The effect of SEND_GATE (Table 8-5): the standby releases or discards AU n. -/
def State.sendGate (s : State) (c n : Nat) : State :=
  match (s.chan c).au? n with
  | none => s
  | some a =>
    if !s.paired ∨ !a.gated ∨ a.gate.isSome ∨ a.complete.isNone then s
    else
      let s := s.until a.gateAt
      let q := (s.pc c).rec_ n
      let put (s : State) (b : Bool) : State := s.onAu c n fun a => { a with gate := some b }
      -- a record of the resync AU that is still absent is not used any more (R171)
      let s := if (s.pc c).resyncAt = some n then s.resyncFails c else s
      if !s.chanSync c ∨ n < (s.pc c).syncFrom then (put s false).count (basic c 0xB) 2
      else match q.ownAu, q.hisAu with
        | some x, some y =>
          match auCause x y with
          | none => put s true
          | some k => ((put s false).count (basic c 0xB) 2).diverge c n k a.poc
        | _, _ =>
          if s.pairState = 5 then put s true
          else ((put s false).count (basic c 0xB) 2).count (basic c 0xB) 8

/-! ### Received records (R165, R171) -/

/-- The effect of DECISION_RECORD. -/
def State.decisionRecord (s : State) (rec : List Byte) : State :=
  let t := s.takeRec 3 rec
  let s := t.1
  let x := s.recChan rec
  if !t.2 ∨ !(s.chan x.1).running then s
  else
    let s := s.onRec x.1 x.2 fun q => { q with hisDec := some rec }
    (s.compareDec x.1 x.2).resumeDeferred x.1 x.2

/-- The effect of AU_RECORD: on the standby its margin before AU n's gate is kept, and one that comes after the gate is not used
(R167). -/
def State.auRecord (s : State) (rec : List Byte) : State :=
  let t := s.takeRec 4 rec
  let s := t.1
  let x := s.recChan rec
  if !t.2 ∨ !(s.chan x.1).running then s
  else
    let a := (s.chan x.1).au? x.2
    let s := match a with
      | some a => if s.isStandby then s.lowerTo (expert x.1 0xB) 2 (((a.gateAt : Int) - s.now) / 65536) else s
      | none => s
    if s.isStandby && a.any (fun a => decide (a.gateAt < s.now)) then s
    else
      let s := s.onRec x.1 x.2 fun q => { q with hisAu := some rec }
      let s := (s.adoptAlphas x.1 x.2).adoptNumbers x.1 x.2
      s.compareAu x.1 x.2

/-- The effect of RESYNC_REQUEST: the active holds the latest. One that is made at or after its resync AU says that this resync
has failed. -/
def State.resyncRequest (s : State) (rec : List Byte) : State :=
  let t := s.takeRec 5 rec
  let c := field rec 2 1
  if !t.2 ∨ !t.1.isActive then t.1
  else
    let n := (t.1.recChan rec).2
    t.1.onPc c fun p => { p with
      asked := some ((field rec 16 1).testBit 0, field rec 8 4, field rec 12 4)
      resyncAt := p.resyncAt.filter fun m => decide (n < m) }

/-- The effect of RESYNC_RECORD: the standby holds it, and makes a deferred decision. -/
def State.resyncRecord (s : State) (rec : List Byte) : State :=
  let t := s.takeRec 6 rec
  let s := t.1
  let x := s.recChan rec
  if !t.2 ∨ !s.isStandby then s
  else (s.onRec x.1 x.2 fun q => { q with resync := some rec }).resumeDeferred x.1 x.2

/-! ### Band records (R163, R165) -/

/-- One line packed as R228 lays down: three 10-bit values to a little-endian word, to the stride. -/
def packLine : List Nat → List Byte
  | a :: b :: c :: rest => leBytes 4 (a + b * 0x400 + c * 0x100000) ++ packLine rest
  | [a, b] => leBytes 4 (a + b * 0x400)
  | [a] => leBytes 4 a
  | [] => []

/-- The check value of band b of a flow's frame, for channel c (Table 18-1). -/
def State.bandCheck (s : State) (c f n b : Nat) : Nat :=
  let q := s.recAt f n
  let lines := (List.range (min (64 * b + 64) q.height - 64 * b)).map (64 * b + ·)
  foldedCrc 3 c 0xFF b (n % 0x100000000) (lines.flatMap fun l => packLine ((s.flow f).lineData n l q.perLine))

/-- Key of a group of 16 bands of a slot. -/
def groupKey (n g : Nat) : Nat := n * 256 + g

/-- Own and partner's check values of a group are compared, while both sides are in sync (R165, R368). -/
def State.compareBands (s : State) (c n g : Nat) : State :=
  match Tab.find? (s.pc c).ownBands (groupKey n g), Tab.find? (s.pc c).hisBands (groupKey n g) with
  | some a, some rec =>
    let s := s.onPc c fun p => { p with hisBands := Tab.erase p.hisBands (groupKey n g) }
    if !s.compares c n rec then s
    else
      let b := slice rec 12 (4 * field rec 10 1)
      let k := min (a.length / 4) (b.length / 4)
      let s := (List.range k).foldl (fun s i => s.checkValue 3 c n (field b (4 * i) 4) (field a (4 * i) 4)) s
      match (List.range k).find? fun i => differ a b (4 * i) (4 * i + 4) with
      | some i => (s.count (basic c 0xB) 7).raise ⟨0x0202, c, n % 0x100000000, 16 * g + i, 0, 0⟩
      | none => s
  | _, _ => s

/-- After a line of slot n of flow f has closed: every paired channel that the flow feeds sends the band record of each
group of 16 bands that is now complete. -/
def State.bandRecords (s : State) (f n : Nat) : State :=
  let q := s.recAt f n
  let bands := cdiv q.height 64
  let done (l : Nat) : Bool := match ((s.flow f).frame n).line l with
    | .closed _ _ => true
    | _ => false
  if !s.paired then s
  else (s.chansOf f n).foldl (fun s c =>
    (List.range (cdiv bands 16)).foldl (fun s g =>
      let lo := 16 * g
      let hi := min (lo + 16) bands
      if (Tab.find? (s.pc c).ownBands (groupKey n g)).isSome ∨
          !((List.range (min (64 * hi) q.height - 64 * lo)).all fun i => done (64 * lo + i)) then s
      else
        let vals := (List.range (hi - lo)).flatMap fun i => beBytes 4 (s.bandCheck c f n (lo + i))
        let s := s.onPc c fun p => { p with
          ownBands := Tab.put (p.ownBands.filter fun x => decide (groupKey n 0 ≤ x.1 + 16 * 256)) (groupKey n g) vals }
        let s := s.mirror (mirrorRec 2 c (s.recFlags c) (n % 0x100000000)
          (beBytes 2 lo ++ beBytes 1 (hi - lo) ++ [0] ++ vals))
        s.compareBands c n g) s) s

/-- The effect of BAND_RECORD. -/
def State.bandRecord (s : State) (rec : List Byte) : State :=
  let t := s.takeRec 2 rec
  let s := t.1
  let x := s.recChan rec
  if !t.2 ∨ !(s.chan x.1).running then s
  else
    let g := field rec 8 2 / 16
    let s := s.onPc x.1 fun p => { p with
      hisBands := Tab.put (p.hisBands.filter fun y => decide (groupKey x.2 0 ≤ y.1 + 16 * 256)) (groupKey x.2 g)
        rec }
    s.compareBands x.1 x.2 g

/-! ### Roles (R162, R172-R177) -/

/-- The role changes at this instant (0x2200:12); the members of a cascade follow their master (R178). -/
def State.takeRole (s : State) (active promoted : Bool) : State :=
  let s := (s.setObj 0x2200 3 (2 - b2n !active : Nat)).setObj 0x2200 0x12 s.now32
  let s := s.onPair fun p => { p with activeAt := if active then s.now else p.activeAt, swapped := none }
  if s.isMaster then s.relayPair 0 (.role active promoted) else s

/-- The unit takes the active role at this instant. -/
def State.takeActive (s : State) : State := s.takeRole true false

/-- AUs whose gate has not fallen stand under it (R162, R176). -/
def State.gateFrom (s : State) (t : Tick) : State :=
  { s with chans := s.chans.map fun p => (p.1, { p.2 with
      aus := p.2.aus.map fun a => if t ≤ a.gateAt then { a with gated := true, gate := none } else a }) }

/-- The unit takes the standby role with every channel diverged, cause 7: it mutes from its next gate on. A canvas member holds
no gate (R178). -/
def State.joinStandby (s : State) : State :=
  let s := (s.takeRole false false).divergeAll 7
  let s := s.onPair fun p => { p with joined := true }
  if s.follower then s else s.gateFrom s.now

/-- What a promotion does to an AU that stands under the gate (R173, R174). Of a channel in sync every AU from `first` on leaves:
in hold mode, and where the gate had discarded it, from the first wheel slot after the promotion is complete. A diverged
channel opens with the first AU whose first packet has not reached the wire. -/
def Au.promoted (a : Au) (now : Tick) (sync hold : Bool) (first : Nat) : Au :=
  let open_ : Au := { a with gated := false, gate := none }
  if !a.gated then a
  else if sync then
    if a.slot < first then a else { open_ with late := hold || a.gate == some false }
  else if now < a.cfg.wireAt a.slot then open_
  else { a with gate := some false }

/-- Promotion (R173): the gates open, and a diverged channel may force a refresh. -/
def State.promote (s : State) : State :=
  let now := s.now
  let s := ((s.takeRole true true).count 0x2200 0xF).raiseUnit 0x0203 s.now32
  let s := s.onPair fun p => { p with promoting := some now, joined := false }
  let hold := s.nat 0x2200 4 == 1
  s.runningChans.foldl (fun s c =>
    let sync := s.chanSync c
    let first := (s.pc c).syncFrom
    let s := s.onChan c fun r => { r with aus := r.aus.map fun a => a.promoted now sync hold first }
    let s := s.onPc c fun p => { p with requested := false, resyncAt := none, deferred := none, asked := none }
    if sync ∨ s.nat 0x2200 0xA ≠ 1 then s
    else s.onChan c fun r => { r with orders := r.orders ++ [(r.upcoming, 4, s.ch c 2 1 == 0)] }) s

/-- Cause and POC of a channel's last divergence read 0: none since enable (Table 8-4). -/
def State.clearCause (s : State) (c : Nat) : State := (s.setObj (basic c 0xB) 5 0).setObj (basic c 0xB) 6 0

/-- The pair starts (R162): it listens for 1 ms. -/
def State.pairStart (s : State) : State :=
  let p := { PairSt.reset with listen := some (msT 1 + s.now), since := s.now, hbSeq := s.pair.hbSeq }
  let s := { s with pair := p }
  let s := s.runningChans.foldl (fun s c => (s.setObj (basic c 0xB) 1 1).clearCause c) s
  ((s.setObj 0x2200 9 1).setObj 0x2200 3 0).countSync

/-- The pair stops: its state objects read 0, and no AU stands under a gate any more. -/
def State.pairStop (s : State) : State :=
  let s := { s with pair := { PairSt.reset with hbSeq := s.pair.hbSeq } }
  let s := [3, 9, 0xD, 0xE, 0x11, 0x12].foldl (fun s k => s.setObj 0x2200 k 0) s
  let s := (List.range 64).foldl (fun s c => (s.setObj (basic c 0xB) 1 0).clearCause c) s
  s.runningChans.foldl (fun s c => s.onChan c fun r => { r with
    aus := r.aus.map fun a => { a with gated := false, late := false, gate := none } }) s

/-- A channel has started in a paired unit: in sync where both units start it together; diverged where this unit has
joined a running pair (R162). -/
def State.pairChannel (s : State) (c : Nat) : State :=
  if !s.paired then s
  else
    let s := { s with pair := { s.pair with chans := Tab.put s.pair.chans c PairChan.empty } }
    let s := (s.setObj (basic c 0xB) 1 1).clearCause c
    if s.isStandby ∧ s.pairState = 4 then s.diverge c (s.chan c).upcoming 6 0
    else if s.isStandby ∧ s.pair.joined then s.diverge c (s.chan c).upcoming 7 0
    else s.countSync

/-- The effect of ROLE_LISTEN_EXPIRY (R162). A member of a cascade takes its master's role (R178). -/
def State.roleListenExpiry (s : State) : State :=
  match s.pair.listen with
  | none => s
  | some t =>
    let s := s.until t
    let s := s.onPair fun p => { p with listen := none }
    if s.follower then s else if s.nat 0x2200 2 = 1 then s.takeActive else s.promote

/-- When the partner was last heard on any route. -/
def PairSt.heard (p : PairSt) : Tick := max p.since (max (p.lastMirror.getD 0) (p.lastNet.getD 0))

/-- The effect of ACTIVE_LOST (R172, R173): 150 µs without a heartbeat on any route. The standby promotes; a member of a cascade
with its master (R178). -/
def State.activeLost (s : State) : State :=
  if !s.paired ∨ s.pair.listen.isSome ∨ s.pairState = 5 then s
  else
    let s := s.until (usT 150 + s.pair.heard)
    let s := s.setObj 0x2200 9 5
    if s.isStandby ∧ !s.follower then s.promote else s

/-- The effect of PROMOTION_COMPLETE (R173): within 100 µs; in hold mode the streams unmute at the next wheel slot. -/
def State.promotionComplete (s : State) : State :=
  match s.pair.promoting with
  | none => s
  | some _ => s.onPair fun p => { p with promoting := none, unmuteAt := nsT 64 * (s.now / nsT 64 + 1) }

/-- The effect of MIRROR_LINK_LOST (R175): the mirror route silent for 150 µs, the network route not. -/
def State.mirrorLinkLost (s : State) : State :=
  match s.pair.lastNet with
  | none => s
  | some _ =>
    if !s.paired ∨ s.pair.listen.isSome ∨ s.pairState = 4 ∨ s.pairState = 5 then s
    else
      let s := s.until (usT 150 + max s.pair.since (s.pair.lastMirror.getD 0))
      if usT 150 + s.pair.lastNet.getD 0 < s.now then s
      else
        let s := ((s.count 0x2200 0x10).raiseUnit 0x0204).setObj 0x2200 9 4
        if s.isStandby then s.divergeAll 6 else s

/-- The partner's promotion instant: a free value. R176 compares with it, and no record of Table 8-1 carries it (log 23). -/
def State.hisActiveAt (s : State) : Tick := s.draw

/-- Two active units meet (R176): the one whose promotion instant is later demotes itself; of two at one instant, the one with
the higher serial number. -/
def State.dualActive (s : State) : State :=
  let his := s.hisActiveAt
  let own := s.pair.activeAt
  let mine := decide (his < own) || (his == own && decide (s.nat 0x2200 0x11 < Config.serial % 0x100000000))
  let s := s.drawn
  let s := (s.count 0x4200 4).raiseUnit 0x0206 (s.nat 0x2200 0x11) (b2n mine)
  if mine then s.joinStandby else s

/-- A heartbeat of the partner on one of the routes (R162, R172, R175, R176). -/
def State.hearHeartbeat (s : State) (rec : List Byte) (net : Bool) : State :=
  let active := (field rec 3 1).testBit 0
  let now := s.now
  let p := s.pair
  let s := { s with pair := { p with
    lastMirror := if net then p.lastMirror else some now, lastNet := if net then some now else p.lastNet
    partnerActive := active, partnerFlags := field rec 12 1, partnerSync := field rec 14 2 } }
  let back := s.pairState == 4 && !net
  let s := if s.pairState = 1 ∨ s.pairState = 5 ∨ back then s.setObj 0x2200 9 2 else s
  let s := if back then s.runningChans.foldl (fun s c => s.onPc c fun q => { q with withdrawn := false }) s else s
  if s.follower then s
  else if active ∧ s.pair.listen.isSome then (s.onPair fun p => { p with listen := none }).joinStandby
  else if active ∧ s.isActive then s.dualActive
  else s

/-- The effect of PAIR_HEARTBEAT. -/
def State.pairHeartbeat (s : State) (rec : List Byte) : State :=
  let t := s.takeRec 1 rec
  if t.2 then t.1.hearHeartbeat rec false else t.1

/-- Every member of this unit's cascade is present (R179). -/
def State.cascadeWhole (s : State) : Bool :=
  !s.isMaster || (s.casc.lost == 0 && (List.range s.members).all fun p => (s.nat 0x2300 9).testBit p)

/-- This unit's heartbeat (Table 8-3). A cascade claims sync only while every member is present (R179). -/
def State.heartbeatRec (s : State) : List Byte :=
  let cs := s.runningChans
  let sync := cs.countP s.chanSync
  let claims := cs.all s.chanSync && !(s.isStandby && s.pairState == 4) && s.cascadeWhole
  mirrorRec 1 0xFF (b2n s.isActive) (s.pair.hbSeq % 0x100000000)
    (beBytes 4 s.now32 ++ beBytes 1 (b2n claims + 2 * b2n s.pair.promoting.isSome) ++ [0] ++ beBytes 2 sync)

/-- The port that a network heartbeat leaves by: the first that is up with the partner in its prefix, else the first that is up
(DESIGN CHOICE, log 122). -/
def State.heartbeatPort (s : State) : Option Nat :=
  let up := (List.range 8).filter s.portUp
  let dst := s.nat 0x2200 8
  let near (p : Nat) : Bool :=
    let span := 2 ^ (32 - s.nat 0x2102 (p + 1))
    dst / span == s.nat 0x2101 (p + 1) / span
  match up.find? near with
  | some p => some p
  | none => up.head?

/-- The effect of SEND of the pair heartbeat (R172): every 50 µs, on the mirror link, and as an Exfer notify with the tag of
the unit's pair key where the partner's address is set. A frozen unit sends none. -/
def State.pairHeartbeatSend (s : State) : State :=
  if !s.paired ∨ s.power.freeze.isSome then s
  else
    let s := s.until ((s.pair.hbLast.map (usT 50 + ·)).getD 0)
    let now := s.now
    let s := s.onPair fun p => { p with hbSeq := (p.hbSeq + 1) % 0x100000000, hbLast := some now }
    let rec_ := s.heartbeatRec
    let s := s.mirror rec_
    if s.nat 0x2200 8 = 0 then s
    else
      let raw := exferBytes 0x32 flagAuth (s.nat 0x1FF1 3) 0 0 0xFF rec_
      let tag := s.pairTag (Config.serial % 0x100000000) raw
      match s.heartbeatPort with
      | some p => s.manage p (28 + raw.length + tag.length) (.heartbeat (s.nat 0x2200 8) raw tag)
      | none => s

/-- The roles change at slot boundaries from an instant on: AUs of slots at or after it follow the new role, earlier ones the
old, whenever they are decided (R177, R179). A canvas member holds no gate. -/
def State.exchange (s : State) (t : Tick) (toActive : Bool) : State :=
  let was := s.nat 0x2200 3 == 1
  let s := (s.takeRole toActive false).onPair fun p => { p with swapped := some (t, was) }
  let turn (a : Au) : Au := if slotFrom a.cfg.rate t ≤ a.slot then { a with gated := !toActive, gate := none } else a
  if s.follower then s
  else s.runningChans.foldl (fun s c => s.onChan c fun r => { r with aus := r.aus.map turn }) s

/-- A role swap comes into force at its target instant (R177). -/
def State.roleSwap (s : State) (target : Tick) : State := s.exchange target s.isStandby

/-- Whether a role swap is accepted (R177): every channel in sync on both units. -/
def State.swapOk (s : State) : Bool :=
  s.paired && s.pairState == 2 && s.runningChans.all s.chanSync && s.pair.partnerFlags.testBit 0 &&
    s.pair.partnerSync == s.runningChans.length

/-- The instant of the AU that a yield names, on the channel's grid. -/
def State.yieldAt (s : State) (c n : Nat) : Tick := instantT ((s.chan c).rateAt n) n 0 1 0

/-- The effect of YIELD (R179) on the standby cascade's master: it promotes; from the AU named on it sends without a gate,
and earlier AUs keep theirs. -/
def State.yieldRec (s : State) (rec : List Byte) : State :=
  let t := s.takeRec 7 rec
  let s := t.1
  if !t.2 ∨ !s.isStandby then s
  else
    let c := s.canvasChan
    let n := nearSlot (s.chan c).upcoming (field rec 8 4)
    let old := (s.chan c).aus
    let s := s.promote
    let s := s.onPair fun p => { p with swapped := some (s.yieldAt c n, true) }
    let keep (a : Au) : Au := if a.slot < n then (old.find? fun x => x.slot == a.slot).getD a else a
    s.onChan c fun r => { r with aus := r.aus.map keep }

/-! ### Pair relays of a cascade (R178) -/

/-- A pair relay takes effect. On a member: its master's role, or the AU that resyncs the canvas channel; at the master: a
member's divergence, which makes the canvas channel diverged. -/
def State.takeRelay (s : State) (msg : List Byte) : State :=
  let c := s.canvasChan
  let n := nearSlot (s.chan c).upcoming (field msg 4 4)
  match PairRelay.parse msg with
  | .role active promoted =>
    if s.isMaster ∨ !s.paired then s
    else if promoted then s.promote
    else if active then s.takeActive
    else s.joinStandby
  | .resync => if s.isMaster ∨ !s.paired then s else s.onPc c fun p => { p with resyncAt := some n }
  | .diverged cause =>
    if !s.isMaster ∨ !s.paired then s
    else if (s.pc c).resyncAt = some n then s.resyncFails c
    else if s.chanSync c then s.diverge c n cause (s.pocOf c n)
    else s

/-- Every pair relay that has arrived whole over a cascade link takes effect, oldest first: no command of its own takes it in
(log 121). -/
def State.takeRelays (s : State) : State :=
  [0, 1].foldl (fun s k =>
    ((s.link k).inbox.filter fun m => m.1 == 1 && field m.2 0 1 == 0x1B).foldl (fun s m =>
      let t := s.takeCasc 0x1B m.2
      if t.2 then t.1.takeRelay m.2 else t.1) s) s

end Sys2Proof.Machine
end

