-- ==== Sys2Proof/Machine/Cascade.lean ====
section
/-! DEFINITION. Cascade.lean: cascade heartbeats, member loss, frame and AU reports, row records, reference bands, the merge
of the canvas AU (R181-R206). -/

namespace Sys2Proof.Machine

/-! ### Forming (R181, R184) -/

/-- The cascade comes into force: a unit whose strap is not the expected one, or not below N, stays out. -/
def State.cascadeStart (s : State) : State :=
  let s := { s with casc := { CascSt.reset with since := s.now } }
  let s := (s.setObj 0x2300 8 1).setObj 0x2300 9 (if s.inCascade then (2 ^ s.pos : Nat) else 0)
  if s.inCascade then s else s.raiseUnit 0x0301 (s.nat 0x2300 3) (s.nat 0x2300 2)

/-- The cascade is off: its state objects read 0. -/
def State.cascadeStop (s : State) : State :=
  let s := { s with casc := CascSt.reset, audio := { s.audio with muted := false } }
  let s := (s.setObj 0x2300 8 0).setObj 0x2300 9 0
  (List.range 8).foldl (fun s p => s.setObj 0x2301 (p + 1) 0) s

/-- The effect of CASCADE_HEARTBEAT_SEND (R184): every 50 µs, to the master, or to every member. A frozen unit sends
none. -/
def State.cascadeHeartbeatSend (s : State) : State :=
  if !s.inCascade ∨ s.power.freeze.isSome then s
  else
    let s := s.until ((s.casc.hbLast.map (usT 50 + ·)).getD 0)
    let now := s.now
    let s := s.onCasc fun x => { x with hbLast := some now }
    let body := beBytes 4 s.now32 ++ beBytes 1 (s.nat 0x2300 9) ++ beBytes 1 (s.nat 0x2300 8) ++ zeros 2
    (if s.isMaster then s.others else [0]).foldl (fun s q => s.sendTo q 0x10 0xFF 0 body) s

/-- A member's status word at the master (0x2301): state, lost, Survey value. -/
def State.setStatus (s : State) (q state survey : Nat) : State :=
  s.setObj 0x2301 (q + 1) ((state % 8 + 8 * b2n (s.casc.lost.testBit q) + 0x100 * (survey % 0x1000000) : Nat) : Int)

/-- The effect of CASCADE_HEARTBEAT. The master counts the sender as present, and the cascade has formed once every member
is; a member follows its master. -/
def State.cascadeHeartbeat (s : State) (msg : List Byte) : State :=
  let t := s.takeCasc 0x10 msg
  let s := t.1
  let q := msgFrom msg
  if !t.2 ∨ q = s.pos ∨ s.members ≤ q then s
  else
    let now := s.now
    if s.isMaster then
      let s := s.onCasc fun x => { x with heard := Tab.put x.heard q now }
      let s := s.setObj 0x2300 9 (setBit (s.nat 0x2300 9) q true : Nat)
      let s := s.setStatus q (field msg 13 1) (s.nat 0x2301 (q + 1) / 0x100)
      if s.nat 0x2300 8 = 1 ∧ s.nat 0x2300 9 % 2 ^ s.members + 1 = 2 ^ s.members then s.setObj 0x2300 8 2 else s
    else if q ≠ 0 then s
    else
      let s := s.onCasc fun x => { x with heard := Tab.put x.heard 0 now }
      let s := s.setObj 0x2300 9 (setBit (s.nat 0x2300 9) 0 true : Nat)
      if s.nat 0x2300 8 = 1 ∧ 2 ≤ field msg 13 1 then s.setObj 0x2300 8 2 else s

/-! ### Band presence (R195-R199) -/

/-- The segments that row r of an AU needs: of every active reference, those that cover lines up to its reach. -/
def State.needs (s : State) (c : Nat) (a : Au) (r : Nat) : List SegKey :=
  let g := a.cfg
  let reach := reachLine g g.y0 g.ch r
  let slots := (a.list0.filterMap fun e => (e.buf.bind fun b => (s.chan c).bufs[b]?).map (·.slot)).eraseDups
  let parts := (List.range s.gratRegions).flatMap fun i =>
    (List.range (s.regionRows g.size i)).filterMap fun k =>
      match s.segRect g.size i k s.pos with
      | some q => if q.y ≤ reach then some (i, k) else none
      | none => none
  slots.flatMap fun n => parts.map fun p => ⟨n, p.1, p.2⟩

/-- Whether a segment is held. -/
def State.hasSegment (s : State) (k : SegKey) : Bool :=
  s.casc.segments.any fun x => x.slot == k.slot && x.region == k.region && x.row == k.row

/-- Tb(n, r) (R197). -/
def Au.bandCloseAt (a : Au) (r : Nat) : Tick :=
  let nr := max 1 a.cfg.rows
  instantT a.cfg.rate a.slot ((2 * (a.cfg.d : Int) - 3) * nr + 2 * (r + 1)) (2 * nr) 0

/-- The presence of a row's bands is decided (R197); an absent one clamps the row (R198). -/
def State.decideBands (s : State) (c : Nat) (a : Au) (r : Nat) (present : Bool) : State :=
  if (Tab.find? s.casc.presence (rowKey a.slot r)).isSome then s
  else
    let s := s.lowerTo (expert c 0xC) 1 (((a.bandCloseAt r : Int) - s.now) / 65536)
    let s := s.onCasc fun x => { x with
      presence := Tab.put (x.presence.filter fun p => decide (rowKey a.slot 0 ≤ p.1 + 64 * 65536)) (rowKey a.slot r) present }
    if present then s
    else
      let firstOne := match (s.chan c).au? a.slot with
        | some a => !(a.rows.any (·.clamped))
        | none => false
      let s := s.onAu c a.slot fun a => a.onRow r fun w => { w with clamped := true }
      let s := s.count (basic c 0xC) 1
      if firstOne then
        (s.count (basic c 0xC) 2).raise ⟨0x0304, c, a.slot % 0x100000000, a.poc, r, s.pos⟩
      else s

/-- Every row whose bands are all held, or lack one of a lost member, is decided. -/
def State.settleBands (s : State) : State :=
  let c := s.canvasChan
  if !s.canvasOn then s
  else (s.chan c).aus.foldl (fun s a =>
    if a.replaced ∨ a.settled then s
    else (List.range a.cfg.rows).foldl (fun s r =>
      if (Tab.find? s.casc.presence (rowKey a.slot r)).isSome then s
      else
        let missing := (s.needs c a r).filter fun k => !s.hasSegment k
        if missing.isEmpty then s.decideBands c a r true
        else if missing.any fun k => s.casc.lost.testBit (s.ownerOf k.region) then s.decideBands c a r false
        else s) s) s

/-- The effect of BAND_CLOSE (R197). -/
def State.bandClose (s : State) (n r : Nat) : State :=
  let c := s.canvasChan
  match (s.chan c).au? n with
  | none => s
  | some a =>
    if !s.canvasOn ∨ a.replaced ∨ a.cfg.rows ≤ r ∨ (Tab.find? s.casc.presence (rowKey n r)).isSome then s
    else (s.until (a.bandCloseAt r)).decideBands c a r false

/-! ### Member loss (R202, R203, R179) -/

/-- The rows of a canvas region that the master holds. -/
def RegionHold.empty : RegionHold := ⟨[], [], [], false⟩
def State.region (s : State) (n i : Nat) : RegionHold := Tab.get RegionHold.empty s.casc.regions (posKey n i)

/-- A region of AU n is held whole. -/
def State.regionFull (s : State) (a : Au) (i : Nat) : Bool :=
  decide (s.regionRows a.cfg.size i ≤ (s.region a.slot i).rows.length)

/-- Canvas AUs not complete at the master. -/
def State.openAus (s : State) (c : Nat) : List Au := (s.chan c).aus.filter fun a => a.complete.isNone && !a.replaced

/-- The master completes the lost member's regions of every AU not complete (R203): it takes no further row of them. -/
def State.completeRegions (s : State) (p : Nat) : State :=
  let c := s.canvasChan
  (s.openAus c).foldl (fun s a => (s.regionsOf p).foldl (fun s i =>
    let h := s.region a.slot i
    s.onCasc fun x => { x with regions := Tab.put x.regions (posKey a.slot i) { h with completed := true } }) s) s

/-- The yield of R179: the active master demotes where the partner claims sync on every channel, and its cascade is whole. The
record names the first AU that the loss alters; from it on the cascade is muted: its channel is diverged, as one that has joined
without the partner's history (DESIGN CHOICE of the cause, log 125), and rejoins as standby by a resync. -/
def State.yieldSend (s : State) (p : Nat) : State :=
  let c := s.canvasChan
  if !s.isActive ∨ s.pairState ≠ 2 ∨ !s.pair.partnerFlags.testBit 0 ∨ !s.canvasOn then s
  else
    let hit := (s.openAus c).find? fun a => !((s.regionsOf p).all (s.regionFull a))
    let n := (hit.map (·.slot)).getD (s.chan c).upcoming
    let s := s.mirror (mirrorRec 7 0xFF (b2n s.isActive) (n % 0x100000000) (beBytes 4 (n % 0x100000000)))
    (s.exchange (s.yieldAt c n) false).divergeAll 7

/-- A member is declared lost (R202). -/
def State.declareLost (s : State) (p cause : Nat) : State :=
  if s.casc.lost.testBit p then s
  else
    let s := s.onCasc fun x => { x with lost := setBit x.lost p true }
    let s := ((s.count 0x2300 0xB).setObj 0x2300 8 4).setStatus p (s.nat 0x2301 (p + 1)) (s.nat 0x2301 (p + 1) / 0x100)
    let s := (s.raiseUnit 0x0302 p cause s.now32).lossNotice_ cause p
    ((s.completeRegions p).yieldSend p).settleBands

/-- When a position was last heard: at the earliest when the cascade was enabled. -/
def State.heardAt (s : State) (p : Nat) : Tick := (Tab.find? s.casc.heard p).getD s.casc.since

/-- The effect of MEMBER_LOST (R184): 150 µs without a heartbeat from a member. It is present no longer, and lost if it was not
before. -/
def State.memberLost (s : State) (p : Nat) : State :=
  if !s.isMaster ∨ p = 0 ∨ s.members ≤ p then s
  else
    let s := s.until (usT 150 + s.heardAt p)
    (s.setObj 0x2300 9 (setBit (s.nat 0x2300 9) p false : Nat)).declareLost p 0

/-- The effect of MASTER_LOST (R184, R310): the member stops sending and mutes its output ports. -/
def State.masterLost (s : State) : State :=
  if !s.inCascade ∨ s.isMaster ∨ s.casc.masterLost then s
  else
    let s := s.until (usT 150 + s.heardAt 0)
    let s := s.onCasc fun x => { x with masterLost := true }
    let s := { s with audio := { s.audio with muted := true } }
    let s := s.audio.ports.foldl (fun (s : State) (q : Nat × AudioPort) =>
      if s.ap q.1 1 = 2 ∧ q.2.running then s.setObj (0x2900 + q.1) 0xB 5 else s) s
    ((s.setObj 0x2300 9 (setBit (s.nat 0x2300 9) 0 false : Nat)).setObj 0x2300 8 5).raiseUnit 0x0305

/-- The effect of LOSS_NOTICE on a member (R202, R205): a rejoined member goes on. -/
def State.lossNotice (s : State) (msg : List Byte) : State :=
  let t := s.takeCasc 0x1A msg
  let s := t.1
  if !t.2 ∨ s.isMaster ∨ msgFrom msg ≠ 0 then s
  else
    let s := s.onCasc fun x => { x with lost := field msg 8 1 }
    let s := if field msg 9 1 = 3 ∧ field msg 10 1 = s.pos then
        (let s := s.onCasc fun x => { x with masterLost := false }
         { s with audio := { s.audio with muted := false } }.setObj 0x2300 8 2)
      else s
    s.settleBands

/-! ### Frame reports and the canvas decision (R191, R192) -/

/-- Reports of a slot whose Survey value or epoch differs from what is in force for it at the master (R202). -/
def State.checkReports (s : State) (n : Nat) : State :=
  s.others.foldl (fun s q =>
    match Tab.find? s.casc.reports (posKey n q) with
    | some m => if slice m 8 8 = s.reportMark n then s else s.declareLost q 2
    | none => s) s

/-- The last pre-analysis band of a slot has settled on this member: its frame report goes to the master. -/
def State.frameReportDue (s : State) (f n : Nat) : State :=
  let c := s.canvasChan
  let g := (s.forSlot c n).auCfg c
  if !s.canvasOn ∨ !(s.chan c).inSlot n ∨ !s.feedsRegion f ∨ (Tab.find? s.casc.reports (posKey n s.pos)).isSome ∨
      !s.reportDue g n then s
  else
    let body := s.reportBody g n
    let msg := cascMsg 0x11 c s.pos (n % 0x100000000) body
    let s := s.holdReport s.pos n msg
    if s.isMaster then s.checkReports n else s.sendTo 0 0x11 c n body

/-- A member's Survey value for slot n is compared with the one in force for it at the master, kind 7 (R368). -/
def State.checkSurvey (s : State) (n value : Nat) : State :=
  s.checkValue 7 s.canvasChan n value (field (s.reportMark n) 0 4)

/-- The effect of FRAME_REPORT at the master. -/
def State.frameReport (s : State) (msg : List Byte) : State :=
  let t := s.takeCasc 0x11 msg
  let s := t.1
  let q := msgFrom msg
  if !t.2 ∨ !s.isMaster ∨ q = 0 ∨ s.members ≤ q then s
  else
    let n := s.msgSlot msg
    let s := (s.holdReport q n msg).setStatus q (s.nat 0x2301 (q + 1)) (field msg 8 4)
    (s.checkSurvey n (field msg 8 4)).checkReports n

/-- The effect of REPORT_CLOSE (R191): the members whose reports are absent are named, and the decision waits no
longer. -/
def State.reportClose (s : State) (n : Nat) : State :=
  let c := s.canvasChan
  let mask := s.absentReports (basisSlot ((s.forSlot c n).ch c 1 1) n)
  if !s.isMaster ∨ !s.canvasOn ∨ !(s.chan c).inSlot n ∨ (s.chan c).upcoming ≠ n ∨ (Tab.find? s.casc.closed n).isSome ∨
      mask = 0 then s
  else
    let s := s.until (s.reportCloseAt c n)
    let s := s.onCasc fun x => { x with closed := Tab.put x.closed n mask }
    ((s.count 0x4300 3 (popCount 8 mask)).pictureDecision c).settleBands

/-- The effect of CANVAS_DECISION on a member. One that is lost codes nothing until it has rejoined. -/
def State.canvasDecision (s : State) (msg : List Byte) : State :=
  let t := s.takeCasc 0x12 msg
  let s := t.1
  let c := s.canvasChan
  let n := s.msgSlot msg
  if !t.2 ∨ s.isMaster ∨ !s.canvasOn ∨ !(s.chan c).inSlot n ∨ n < (s.chan c).upcoming ∨ msgFrom msg ≠ 0 then s
  else
    let s := s.onCasc fun x => { x with lost := field msg 36 1 }
    if s.casc.lost.testBit s.pos then s
    else ((s.openCanvasAu c n msg).decisionSent c n none).settleBands

/-! ### Row records and acknowledgements (R193) -/

/-- A length brought up to a multiple of 4, and a field padded to it. -/
def up4 (n : Nat) : Nat := cdiv n 4 * 4
def pad4 (b : List Byte) : List Byte := fit (up4 b.length) b

/-- Where a region starts in its member's rectangle: column index and first CTU row. -/
def State.regionPlace (s : State) (g : AuCfg) (i : Nat) : Nat × Nat :=
  let m := s.memberCells (s.ownerOf i)
  let cs := max 1 (s.nat 0x2310 1)
  (i % cs - m.1, g.rowAt.getD (i / cs - m.2.2.1) 0)

/-- One line of 10-bit samples packed little-endian, padded to 4 bytes. -/
def pack10 (l : List Nat) : List Byte :=
  pad4 (leBytes (cdiv (10 * l.length) 8) (l.foldr (fun v t => v + 1024 * t) 0))

/-- The samples of a rectangle inside a member's picture, as a band segment lays them out (Table 9-2). -/
def segmentData (g : AuCfg) (planes : List (List Nat)) (q : Rect) : List Byte :=
  let cut (k w x y cw h : Nat) : List Byte := (List.range h).flatMap fun j =>
    pack10 (((planes.getD k []).drop ((y + j) * w + x)).take cw)
  let v := if g.chroma = 1 then 1 else 2
  let x := q.x - g.x0
  let y := q.y - g.y0
  cut 0 g.width x y q.w q.h ++
    [1, 2].flatMap fun k => cut k (g.width / 2) (x / 2) (y / v) (q.w / 2) (q.h / v)

/-- The segment of row r of an own region for a position goes out. -/
def State.sendSegment (s : State) (c n i r p : Nat) (g : AuCfg) (poc b : Nat) : State :=
  match s.segRect g.size i r p, (s.chan c).bufs[b]? with
  | some q, some buf =>
    let data := segmentData g (planesOf g fun y => Tab.get [] buf.rows y) q
    s.sendTo p 0x16 c n (beBytes 4 poc ++ beBytes 1 i ++ beBytes 1 g.chroma ++ beBytes 2 r ++ beBytes 2 q.x ++
      beBytes 2 q.y ++ beBytes 2 q.w ++ beBytes 2 q.h ++ beBytes 4 (foldedCrc 4 c i r (n % 0x100000000) data) ++ data)
  | _, _ => s

/-- Rows of own regions that are final and acknowledged are exported (R196). The buffer is released once every row is. -/
def State.exportRows (s : State) (c n : Nat) : State :=
  match (s.chan c).au? n with
  | none => s
  | some a =>
    match a.buf with
    | none => s
    | some b =>
      let g := a.cfg
      let all := g.regions.flatMap fun i => (List.range (s.regionRows g.size i)).map fun r => (i, r)
      let ready (i r : Nat) : Bool :=
        let top := (s.regionPlace g i).2
        let more := decide (r + 1 < s.regionRows g.size i)
        let set (k : Nat) : Bool := decide ((a.row (top + k)).stage = .settled)
        set r && (!more || set (r + 1)) && decide (r + 1 + b2n more ≤ Tab.get 0 s.casc.acked (posKey n i))
      let s := all.foldl (fun s x =>
        if s.casc.exported.contains ⟨n, x.1, x.2⟩ ∨ !ready x.1 x.2 then s
        else
          let s := s.others.foldl (fun s p => s.sendSegment c n x.1 x.2 p g a.poc b) s
          s.onCasc fun y => { y with
            exported := ⟨n, x.1, x.2⟩ :: y.exported.filter fun k => decide (n ≤ k.slot + 64) }) s
      if all.all fun x => s.casc.exported.contains ⟨n, x.1, x.2⟩ then
        s.onChan c fun r => { r with bufs := r.bufs.modify b fun p => { p with exporting := false } }
      else s

/-- The master holds a row record, and acknowledges the rows that it holds contiguously (R193). -/
def State.holdRow (s : State) (c n poc i r : Nat) (sub cont context : List Byte) : State :=
  let h := s.region n i
  if h.completed ∨ r ≠ h.rows.length then s
  else
    let h := { h with rows := h.rows ++ [sub], cont := cont, context := context }
    let s := s.onCasc fun x => { x with
      regions := Tab.put (x.regions.filter fun p => decide (posKey n 0 ≤ p.1 + 64 * 64)) (posKey n i) h }
    let held := h.rows.length
    if s.ownerOf i = s.pos then
      s.onCasc fun x => { x with acked := Tab.put (x.acked.filter fun p => decide (posKey n 0 ≤ p.1 + 64 * 64)) (posKey n i) held }
    else s.sendTo (s.ownerOf i) 0x14 c n (beBytes 4 poc ++ beBytes 1 i ++ [0] ++ beBytes 2 held)

/-- The record of row r of an AU for the region at column index k: its substream, its continuation, which is row r + 1 as a guard
row behind row r, and the context state that the continuation leaves (R193). -/
def State.rowParts (s : State) (c : Nat) (a : Au) (k r : Nat) (last : Bool) : List Byte × List Byte × List Byte :=
  let sub := (a.row r).subs.getD k []
  match if last then none else (s.guardRows c a (r + 1) 1 (s.rowAbove c a (r + 1))).head? with
  | none => (sub, [], [])
  | some o => (sub, o.subs.getD k [], o.ctxs.getD k [])

/-- Row r of a canvas AU has settled on its member: a row record for each region that it crosses (R193). -/
def State.rowRecords (s : State) (c n r : Nat) : State :=
  match (s.chan c).au? n with
  | none => s
  | some a =>
    let g := a.cfg
    (List.range g.across).foldl (fun s k =>
      let i := g.regionIn k r
      let rr := r - (s.regionPlace g i).2
      let x := s.rowParts c a k r (rr + 1 == s.regionRows g.size i)
      if s.isMaster then s.holdRow c n a.poc i rr x.1 x.2.1 x.2.2
      else
        let w := a.row r
        let guard := w.guard || (s.absentRegions a).contains i
        let flags := b2n guard + 2 * b2n (w.tail && !guard) + 4 * b2n w.clamped
        (s.count (expert c 0xC) 2).sendTo 0 0x13 c n (beBytes 4 a.poc ++ beBytes 1 i ++ beBytes 1 flags ++ beBytes 2 rr ++
          beBytes 4 (8 * x.1.length + 8) ++ beBytes 4 x.1.length ++ beBytes 4 x.2.1.length ++ beBytes 2 x.2.2.length ++
          zeros 2 ++ pad4 x.1 ++ pad4 x.2.1 ++ pad4 x.2.2)) s

/-- The effect of ROW_RECORD at the master. -/
def State.rowRecord (s : State) (msg : List Byte) : State :=
  let t := s.takeCasc 0x13 msg
  let s := t.1
  let i := field msg 12 1
  if !t.2 ∨ !s.isMaster ∨ s.ownerOf i ≠ msgFrom msg ∨ s.gratRegions ≤ i then s
  else
    let l0 := field msg 20 4
    let l1 := field msg 24 4
    s.holdRow s.canvasChan (s.msgSlot msg) (field msg 8 4) i (field msg 14 2) (slice msg 32 l0)
      (slice msg (32 + up4 l0) l1) (slice msg (32 + up4 l0 + up4 l1) (field msg 28 2))

/-- The effect of ROW_ACKNOWLEDGEMENT on a member. -/
def State.rowAck (s : State) (msg : List Byte) : State :=
  let t := s.takeCasc 0x14 msg
  let s := t.1
  let n := s.msgSlot msg
  let i := field msg 12 1
  if !t.2 ∨ s.isMaster ∨ msgFrom msg ≠ 0 ∨ s.ownerOf i ≠ s.pos then s
  else
    let k := posKey n i
    let s := s.onCasc fun x => { x with
      acked := Tab.put (x.acked.filter fun p => decide (posKey n 0 ≤ p.1 + 64 * 64)) k (max (Tab.get 0 x.acked k) (field msg 14 2)) }
    s.exportRows s.canvasChan n

/-! ### AU reports and the model (R191, R192) -/

/-- POCs of a channel's poisoned entries. -/
def ChanRt.poisonedPocs (r : ChanRt) : List Nat := (r.marks.filter r.isPoisoned).map (·.poc)

/-- The body of this member's AU report (Table 9-2). -/
def State.auReportBody (s : State) (c : Nat) (a : Au) : List Byte :=
  let r := s.chan c
  let x := modelSums (a.rows.filterMap fun w => if w.guard ∨ w.tail then none else some (w.total, w.xi, w.xp, w.q))
  let g := a.rows.findIdx (·.guard)
  let mask := (List.range (cdiv a.rows.length 8)).map fun k =>
    BitVec.ofNat 8 ((List.range 8).foldl (fun t j => t + 2 ^ j * b2n (a.row (8 * k + j)).clamped) 0)
  let bad := r.poisonedPocs
  beBytes 4 a.poc ++ beBytes 4 x.1 ++ beBytes 8 x.2.1 ++ beBytes 8 x.2.2 ++ beBytes 4 (s.auRecon c a) ++
    beBytes 2 (if g < a.rows.length then g else 0xFFFF) ++ beBytes 2 (a.rows.countP (·.tail)) ++
    beBytes 2 a.rows.length ++ beBytes 1 bad.length ++ [0] ++ pad4 mask ++ bad.flatMap (beBytes 4)

/-- The master holds an AU report; the entries that it lists are poisoned at the next decision. -/
def State.holdAuReport (s : State) (q n : Nat) (msg : List Byte) : State :=
  let rows := field msg 40 2
  let bad := (List.range (field msg 42 1)).map fun i => field msg (44 + up4 (cdiv rows 8) + 4 * i) 4
  s.onCasc fun x => { x with
    auReports := Tab.put (x.auReports.filter fun p => decide (n * 64 ≤ p.1 + 64 * 64)) (posKey n q) msg
    poisoned := x.poisoned ++ bad.filter fun p => !x.poisoned.contains p }

/-- The slice NAL units of a member's own regions, which its own AU record covers (R178). -/
def State.memberSlices (s : State) (c : Nat) (a : Au) : List Byte :=
  let g := a.cfg
  let v := s.atSlot g.rate a.slot
  let bound := if g.codec = 0 then 20 else 72
  g.regions.flatMap fun i =>
    let k := s.regionPlace g i
    (sliceNal g.codec (sliceType g.codec a.idr false) bound
      ⟨v.sliceSyntax c a false i, (List.range (s.regionRows g.size i)).map fun r =>
        (a.row (k.2 + r)).subs.getD k.1 []⟩).bytes

/-- The last row of an AU has settled on its member: its AU report goes to the master, and in a pair its AU record to the
partner (R178, R192). -/
def State.memberSettled (s : State) (c n : Nat) : State :=
  match (s.chan c).au? n with
  | none => s
  | some a =>
    let body := s.auReportBody c a
    if s.isMaster then s.holdAuReport 0 n (cascMsg 0x15 c 0 (n % 0x100000000) body)
    else
      let s := s.sendTo 0 0x15 c n body
      let data := s.memberSlices c a
      let check := foldedCrc 1 c s.pos 0 (n % 0x100000000) data
      (s.onAu c n fun a => { a with data := data, check := check }).auSent c n

/-- What settles with row r of a canvas AU, after its coding: row records, exports and the AU report. -/
def State.canvasRowSettled (s : State) (c n r : Nat) : State :=
  let s := (s.rowRecords c n r).exportRows c n
  match (s.chan c).au? n with
  | some a => if a.settled then s.memberSettled c n else s
  | none => s

/-- The effect of AU_REPORT at the master. -/
def State.auReport (s : State) (msg : List Byte) : State :=
  let t := s.takeCasc 0x15 msg
  let s := t.1
  let q := msgFrom msg
  if !t.2 ∨ !s.isMaster ∨ q = 0 ∨ s.members ≤ q then s
  else s.holdAuReport q (s.msgSlot msg) msg

/-- MODEL_UPDATE of a canvas (R191): at the master from the summed AU reports, once every member not lost has sent its own;
on a member nothing is left to update. -/
def State.canvasModel (s : State) (c m : Nat) : State :=
  let r := s.chan c
  match r.au? m with
  | none => s
  | some a =>
    let reps := (List.range s.members).map fun q => (q, Tab.find? s.casc.auReports (posKey m q))
    let all := reps.all fun p => p.2.isSome || s.casc.lost.testBit p.1
    if !a.settled || a.modelled || a.replaced || r.aus.any (fun b => r.mine b && decide (b.slot < m) && !b.modelled) then s
    else if !s.isMaster || !r.mine a then s.onAu c m fun a => { a with modelled := true }
    else if !all then s
    else
      let prev := match (r.alphas.filter fun p => decide (p.1 < m)).getLast? with
        | some p => p.2
        | none => r.alpha0
      let held := reps.filterMap (·.2)
      let sum := (held.map fun x => field x 12 4).sum
      let next := if sum = 0 then prev
        else modelFrom prev.1 prev.2 sum (held.map fun x => field x 16 8).sum (held.map fun x => field x 24 8).sum
      s.setChan c { r.onAu m (fun a => { a with modelled := true }) with
        alphas := if (Tab.find? r.alphas m).isSome then r.alphas else Tab.put r.alphas m next }

/-! ### Band segments (R196-R200) -/

/-- A pool buffer is poisoned by an error that concerns it (R97). -/
def State.poisonBuf (s : State) (c b slot : Nat) : State :=
  let e := (s.chan c).marks.find? fun e => !e.shared && e.buf == some b
  (s.onChan c fun r => r.poison b).raise ⟨0x0103, c, slot % 0x100000000, (e.map (·.poc)).getD 0, b, 0⟩

/-- The buffer that holds the picture of a slot. -/
def ChanRt.bufOf (r : ChanRt) (n : Nat) : Option Nat :=
  (List.range r.bufs.length).find? fun b => match r.bufs[b]? with
    | some p => p.slot == n && (r.marks.any (fun e => e.buf == some b) || r.hardHeld b)
    | none => false

/-- Segments of pictures that no buffer holds any more are forgotten. -/
def State.trimSegments (s : State) (c n : Nat) : State :=
  s.onCasc fun x => { x with
    segments := x.segments.filter fun g => decide (n ≤ g.slot + 16) || ((s.chan c).bufOf g.slot).isSome
    retried := x.retried.filter fun k => decide (n ≤ k.slot + 64)
    failed := x.failed.filter fun k => decide (n ≤ k.slot + 64) }

/-- The effect of BAND_SEGMENT on the importer (R197, R200). -/
def State.bandSegment (s : State) (msg : List Byte) : State :=
  let t := s.takeCasc 0x16 msg
  let s := t.1
  let c := s.canvasChan
  let n := s.msgSlot msg
  let i := field msg 12 1
  let r := field msg 14 2
  let key : SegKey := ⟨n, i, r⟩
  if !t.2 ∨ !s.canvasOn ∨ s.hasSegment key ∨ s.casc.failed.contains key then s
  else
    let data := slice msg 28 (msg.length - 32)
    let want := field msg 24 4
    let found := foldedCrc 4 c i r (n % 0x100000000) data
    let s := s.checkValue 4 c n want found
    if want = found then
      ((s.onCasc fun x => { x with
        segments := x.segments ++ [⟨n, i, r, field msg 16 2, field msg 18 2, field msg 20 2, field msg 22 2, data⟩] }).trimSegments
          c n).settleBands
    else
      if s.casc.retried.contains key then
        let s := (s.onCasc fun x => { x with failed := key :: x.failed }).count 0x4300 2
        match (s.chan c).bufOf n with
        | some b => s.poisonBuf c b n
        | none => s
      else if s.casc.lost.testBit (s.ownerOf i) then s
      else
        let s := (s.onCasc fun x => { x with retried := key :: x.retried }).count 0x4300 1
        s.sendTo (s.ownerOf i) 0x17 c n (beBytes 4 (field msg 8 4) ++ beBytes 1 i ++ [0] ++ beBytes 2 r ++
          beBytes 2 (field msg 16 2) ++ beBytes 2 (field msg 18 2))

/-- The effect of BAND_RETRY_REQUEST on the exporter: the segment goes out again while its picture is held. -/
def State.bandRetry (s : State) (msg : List Byte) : State :=
  let t := s.takeCasc 0x17 msg
  let s := t.1
  let c := s.canvasChan
  let n := s.msgSlot msg
  let i := field msg 12 1
  if !t.2 ∨ !s.canvasOn ∨ s.ownerOf i ≠ s.pos then s
  else
    let r := field msg 14 2
    match (s.chan c).bufOf n with
    | some b => if s.casc.exported.contains ⟨n, i, r⟩ then
        s.sendSegment c n i r (msgFrom msg) ((s.forSlot c n).auCfg c) (field msg 8 4) b else s
    | none => s

/-! ### Merging (R193, R194, R203) -/

/-- The effect of MERGE_CLOSE (R194): a member whose regions are not all held is lost. -/
def State.mergeClose (s : State) (n : Nat) : State :=
  let c := s.canvasChan
  match (s.chan c).au? n with
  | none => s
  | some a =>
    if !s.isMaster ∨ !s.canvasOn ∨ a.complete.isSome ∨ a.replaced then s
    else
      let s := s.until (a.cfg.rescueAt n - usT 100)
      s.others.foldl (fun s q =>
        if s.casc.lost.testBit q ∨ a.lostMask.testBit q ∨ (s.regionsOf q).all (s.regionFull a) then s
        else s.declareLost q 1) s

/-- A region's substreams in the canvas AU (R193, R203), and whether the master coded any of them; none while rows are
still to come. -/
def State.regionSubs (s : State) (c : Nat) (a : Au) (i : Nat) : Option (List (List Byte) × Bool) :=
  let h := s.region a.slot i
  if a.lostMask.testBit (s.ownerOf i) then some (s.guardRegion c a i 0 [], true)
  else if s.regionFull a i then some (h.rows, false)
  else if !h.completed then none
  else if h.rows.isEmpty then some (s.guardRegion c a i 0 [], true)
  else some (h.rows ++ [h.cont] ++ s.guardRegion c a i (h.rows.length + 1) h.context, true)

/-- The effect of AU_ASSEMBLY of a canvas, at its master (R189-R193, R203). -/
def State.canvasAssembly (s : State) (c n : Nat) : State :=
  match (s.chan c).au? n with
  | none => s
  | some a =>
    let v := s.atSlot a.cfg.rate n
    let parts := (List.range v.gratRegions).filterMap fun i => (s.regionSubs c a i).map fun p => (i, p)
    let earlier := ((s.chan c).earlier a).all fun b => b.complete.isSome
    if !s.isMaster ∨ !a.cfg.canvas ∨ !earlier ∨ a.complete.isSome ∨ a.replaced ∨ a.repl.isNone ∨ !s.ancReady v c n ∨
        a.cfg.rescueAt n < s.now ∨ parts.length ≠ v.gratRegions then s
    else
      let anc := fitAnc a.cfg.u (v.ancPayloads c (s.ancOf v c n))
      let slices : List SliceIn := parts.map fun p => ⟨v.sliceSyntax c a false p.1, p.2.1⟩
      let o := v.auLayout c a false (s.ancOf v c n) anc.1 slices
      let s := s.finishAu c n o.bytes o.outside false
      let s := if parts.any fun p => p.2.2 then s.count (basic c 0xC) 3 else s
      s.omitAnc c n anc.2

/-! ### Hop by hop (R183) -/

/-- The positions that a message is for. -/
def State.dstsOf (s : State) (msg : List Byte) : List Nat :=
  let from_ := msgFrom msg
  let all := (List.range s.members).filter (· != from_)
  match field msg 0 1 with
  | 0x16 =>
    let g := (s.forSlot s.canvasChan (s.msgSlot msg)).auCfg s.canvasChan
    let q : Rect := ⟨field msg 16 2, field msg 18 2, field msg 20 2, field msg 22 2⟩
    all.filter fun p => s.segRect g.size (field msg 12 1) (field msg 14 2) p == some q
  | 0x14 | 0x17 => [s.ownerOf (field msg 12 1)]
  | _ => if from_ = 0 then all else [0]

/-- A message that has arrived whole over a link and is for another position goes on over the other link. Of a message that the
master sends to every member each takes the first copy and passes the rest on (log 89). -/
def State.passMessage (s : State) (k : Nat) (m : Nat × List Byte) : State :=
  let msg := m.2
  let on (s : State) : State :=
    if s.linkUp (1 - k) then s.transmit (1 - k) m.1 (messageRank (field msg 0 1)) (messageRank (field msg 0 1)) msg else s
  if m.1 = 1 then
    if !recOk (field msg 0 1) msg ∨ msgFrom msg = s.pos then s
    else
      let ds := s.dstsOf msg
      if !ds.contains s.pos then on (s.takeMessage k 1 msg)
      else if ds.length ≤ 1 then s
      else if s.casc.seen.contains msg then on (s.takeMessage k 1 msg)
      else s.onCasc fun x => { x with seen := msg :: x.seen.take 63 }
  else if m.1 = 2 then
    if field msg 12 1 = s.pos ∨ field msg 2 1 / 2 % 2 = 1 ∨ !s.linkUp (1 - k) then s
    else (s.takeMessage k 2 msg).transmit (1 - k) 2 3 3 msg
  else s

/-- A link frame of a cascade link has completed a message: it goes on where it is for another position (R183). -/
def State.passOn (before s : State) (k : Nat) : State :=
  if !s.inCascade ∨ 2 ≤ k ∨ (s.link k).inbox.length = (before.link k).inbox.length then s
  else match (s.link k).inbox.getLast? with
    | some m => s.passMessage k m
    | none => s

end Sys2Proof.Machine
end

