-- ==== Sys2Proof/Machine/Clocks.lean ====
section
/-! DEFINITION. Clocks.lean: Meridian's steps, PTP, the media PLLs and the TIO pins (R256-R283). -/

namespace Sys2Proof.Machine

/-- The module is running (R264): a channel, stream, serial audio port, Atlas or a TIO output is enabled. -/
def State.isRunning (s : State) : Bool :=
  !s.power.hold && s.nat 0x2000 2 != 2 &&
  ((List.range 64).any (fun c => s.ch c 0 1 == 1) || (List.range 256).any (fun t => s.nat (0x2500 + t) 1 == 1) ||
  (List.range 8).any (fun i => s.nat (0x2900 + i) 1 != 0) || s.atl 0x2A00 1 == 1 ||
  (List.range 4).any fun i => s.nat (0x2710 + i) 1 == 1 || s.nat (0x2710 + i) 1 == 2)

/-- PTP's own state changes. -/
def State.onPtp (s : State) (f : PtpSt → PtpSt) : State := { s with ptp := f s.ptp }

/-- Time state (0x2700:02). -/
def State.timeState (s : State) : Nat := s.nat 0x2700 2

/-- Meridian is stepped by a signed number of ticks, and the step is counted (R264). What PTP has timed keeps its
distance. -/
def State.stepMeridian (s : State) (d : Int) : State :=
  let mv (t : Tick) : Tick := ((t : Int) + d).toNat
  let s := { s with clk := { s.clk with merid := ((s.clk.merid : Int) + d * subTick).toNat } }
  (s.onPtp fun p => { p with
    foreign := p.foreign.map fun (x : Nat × Foreign) => (x.1, { x.2 with at_ := mv x.2.at_ })
    parent := p.parent.map fun x => { x with at_ := mv x.at_ }
    lastSync := p.lastSync.map mv, wait := none, delay := none }).count 0x2700 0xA

/-- The effect of MERIDIAN_WRITE, and its abort code (R264): the range first, in every state. -/
def State.meridianWrite (s : State) (data : List Byte) : State × Nat :=
  let ns := field data 6 4
  if data.length ≠ 12 then (s, 0x06070010)
  else if 1000000000 ≤ ns then (s, 0x06090030)
  else if s.timeState ≠ 0 ∨ s.isRunning then (s, 0x08000022)
  else
    let t := 65536 * (1000000000 * field data 0 6 + ns) + field data 10 2
    ({ s with clk := { s.clk with merid := subTick * t } }.count 0x2700 0xA, 0)

/-- Meridian as 0x2700:01 reads it: seconds, ns and fraction. -/
def State.meridianBytes (s : State) : List Byte :=
  beBytes 6 (tickSecs s.now) ++ beBytes 4 (tickNanos s.now) ++ beBytes 2 (s.now % 65536)

/-- e(t) of holdover in ns (R274); 0 outside it. -/
def State.holdError (s : State) : Nat :=
  match s.ptp.holdSince with
  | none => 0
  | some t0 =>
    let t := s.now - t0
    if s.timeState = 3 then (100 * perSec * perSec + perSec * (20 * t) + t * t) / (perSec * perSec) else 0

/-! ### Best master (R267) -/

/-- Domain, mask and role. -/
def State.ptpMask (s : State) : Nat := s.nat 0x2701 2
def State.ptpRole (s : State) : Nat := s.nat 0x2701 1

/-- The terms by which two Announce messages are compared, most important first. -/
def announceRank (m : AnnounceMsg) : List Nat :=
  [m.prio1, m.clockClass, m.accuracy, m.variance, m.prio2, m.gmId, m.steps, m.source, m.port]

/-- Lexicographic order. -/
def rankBefore : List Nat → List Nat → Bool
  | a :: as, b :: bs => if a = b then rankBefore as bs else decide (a < b)
  | _, _ => false

/-- The better of two. -/
def betterForeign (a b : Foreign) : Foreign :=
  if rankBefore (announceRank b.msg) (announceRank a.msg) then b else a

/-- clockClass of Table 12-5 while the unit is its own grandmaster. -/
def State.ownClass (s : State) : Nat :=
  if s.timeState = 3 then (if s.holdError ≤ s.nat 0x4700 5 then 7 else 52) else 248

/-- What the unit itself announces when it is grandmaster. -/
def State.ownAnnounce (s : State) (port : Nat) : AnnounceMsg :=
  ⟨port, s.nat 0x2701 3, Config.clockId, Config.clockId, s.nat 0x2701 4, s.ownClass, 0xFE, 0xFFFF, s.nat 0x2701 5, 0, 0xA0,
   s.obj 0x2701 0xB⟩

/-- An interval of 2^k seconds. -/
def logInterval (k : Int) : Tick := if 0 ≤ k then perSec * 2 ^ k.toNat else perSec / 2 ^ (-k).toNat

/-- Key of a foreign master: its source and the port that hears it. -/
def foreignKey (m : AnnounceMsg) : Nat := 8 * m.source + m.port

/-- A foreign master is qualified by its second Announce within four announce intervals (clause 9.3 of IEEE 1588, R266; the
first start of 25_bring_up_examples.md shows it). -/
def State.qualified (s : State) (f : Foreign) : Bool :=
  match f.before with
  | some b => decide (f.at_ ≤ b + 4 * logInterval (s.obj 0x2701 6))
  | none => false

/-- The qualified foreign masters on ports of the mask, in the unit's domain. -/
def State.candidatesHeard (s : State) : List Foreign :=
  (s.ptp.foreign.map (·.2)).filter fun f => s.ptpMask.testBit f.msg.port && f.msg.domain == s.nat 0x2701 3 && s.qualified f

/-- The best of some. -/
def bestOf : List Foreign → Option Foreign
  | [] => none
  | x :: xs => some (xs.foldl betterForeign x)

/-- The best foreign master heard on any port of the mask; a master-capable unit or a boundary clock takes its own where that
is better. -/
def State.bestForeign (s : State) : Option Foreign :=
  (bestOf s.candidatesHeard).filter fun b =>
    !(s.ptpRole != 0 && rankBefore (announceRank (s.ownAnnounce 0)) (announceRank b.msg))

/-- Port states (0x2720+p:02): 4 listening, 6 master, 7 passive, 9 slave, 0 outside the mask. -/
def State.portState (s : State) (p : Nat) : Nat :=
  if !s.ptpMask.testBit p then 0
  else match s.ptp.parent with
    | none => if s.ptpRole = 0 then 4 else 6
    | some x =>
      if x.msg.port = p then 9
      else if s.ptpRole ≠ 2 then 4
      else match bestOf (s.candidatesHeard.filter fun f => f.msg.port == p) with
        | some y => if y.msg.gmId = x.msg.gmId ∧ y.msg.steps ≤ x.msg.steps then 7 else 6
        | none => 6

/-- The objects that report the parent and the ports. -/
def State.reportPtp (s : State) : State :=
  let s := (List.range 8).foldl (fun s p => s.setObj (0x2720 + p) 2 (s.portState p)) s
  match s.ptp.parent with
  | some x => (((s.putBytes 0x2700 5 0 (beBytes 8 x.msg.gmId)).setObj 0x2700 6 (x.msg.steps + 1)).setObj 0x2700 7
      x.msg.port).setObj 0x2700 0xC x.msg.utcOffset
  | none => (((s.putBytes 0x2700 5 0 (beBytes 8 (if s.ptpRole = 0 ∨ s.ptpMask = 0 then 0 else Config.clockId))).setObj 0x2700 6
      0).setObj 0x2700 7 0xFF)

/-! ### The time state (R270, R271, R274) -/

/-- 125 MHz addend limits: 1,000 ppm of nominal. -/
def ppmUnit : Int := 8 * 0x1000000000000 / 1000000

/-- The addend takes a value, and its offset is reported in ppb. -/
def State.setAddend (s : State) (a : Nat) : State :=
  { s with clk := { s.clk with addend := a } }.setObj 0x4700 6
    ((1000000000 * ((a : Int) - nominalAddend)).tdiv nominalAddend)

/-- The addend freezes at the mean of its last 64 updates. -/
def State.freezeAddend (s : State) : State :=
  match s.ptp.addends with
  | [] => s
  | l => s.setAddend (l.sum / l.length)

/-- Holdover begins. From state 4 the addend is frozen already. -/
def State.enterHoldover (s : State) : State :=
  let s := if s.timeState = 4 then s else s.freezeAddend
  let now := s.now
  (((s.onPtp fun p => { p with holdSince := some now, good := 0 }).setObj 0x2700 2 3).count 0x2700 9).raiseUnit 0x0501

/-- The reference is lost (R271). -/
def State.loseReference (s : State) : State :=
  let s := s.onPtp fun p => { p with parent := none, wait := none, delay := none, missed := 0, lastSync := none, good := 0 }
  let s := s.reportPtp
  match s.timeState with
  | 2 | 4 => s.enterHoldover
  | 1 => if s.ptp.locked then s.enterHoldover else s.setObj 0x2700 2 0
  | _ => s

/-- The best master is chosen anew. A parent that gives way to another is followed without holdover; a new grandmaster
identity is counted. -/
def State.choose (s : State) : State :=
  match s.ptp.parent, s.bestForeign with
  | none, none => s.reportPtp
  | some _, none => s.loseReference
  | none, some b =>
    let s := s.onPtp fun p => { p with parent := some b, missed := 0 }
    (if s.timeState = 3 then (s.setObj 0x2700 2 1).onPtp fun p => { p with holdSince := none, good := 0 } else s).reportPtp
  | some a, some b =>
    let s := if a.msg.gmId = b.msg.gmId then s else s.count 0x2700 0xB
    let s := if a.msg.source = b.msg.source ∧ a.msg.port = b.msg.port then s
      else s.onPtp fun p => { p with wait := none, delay := none, missed := 0 }
    (s.onPtp fun p => { p with parent := some b }).reportPtp

/-- The effect of ANNOUNCE (R267). -/
def State.announce (s : State) (m : AnnounceMsg) : State :=
  if !s.ptpMask.testBit m.port ∨ m.domain ≠ s.nat 0x2701 3 ∨ 255 ≤ m.steps ∨ m.source = Config.clockId then s
  else
    let f : Foreign := ⟨m, s.now, (Tab.find? s.ptp.foreign (foreignKey m)).map (·.at_)⟩
    (s.onPtp fun p => { p with foreign := Tab.put p.foreign (foreignKey m) f }).choose

/-- The Announce receipt timeout (Table 12-8). -/
def State.receiptTimeout (s : State) : Tick := s.nat 0x2701 9 * logInterval (s.obj 0x2701 6)

/-- The master whose silence a port's receipt timeout judges: the parent where the port hears it, else the first heard. -/
def State.judgedMaster (s : State) (port : Nat) : Option Foreign :=
  match s.ptp.parent with
  | some x => if x.msg.port = port then Tab.find? s.ptp.foreign (foreignKey x.msg)
    else (s.ptp.foreign.map (·.2)).find? fun f => f.msg.port == port
  | none => (s.ptp.foreign.map (·.2)).find? fun f => f.msg.port == port

/-- The masters of a port that have been silent for the receipt timeout are dropped, and the best is chosen anew. -/
def State.dropSilent (s : State) (port : Nat) : State :=
  let silent (f : Foreign) : Bool := f.msg.port == port && decide (f.at_ + s.receiptTimeout ≤ s.now)
  (s.onPtp fun p => { p with foreign := p.foreign.filter fun x => !silent x.2 }).choose

/-- The effect of ANNOUNCE_RECEIPT_TIMEOUT (R267). -/
def State.announceTimeout (s : State) (port : Nat) : State :=
  match s.judgedMaster port with
  | none => s
  | some f => (s.until (f.at_ + s.receiptTimeout)).dropSilent port

/-- Role, mask or domain have changed (R271). -/
def State.ptpReconfigure (s : State) : State :=
  let stays (x : Nat × Foreign) : Bool := s.ptpMask.testBit x.2.msg.port && x.2.msg.domain == s.nat 0x2701 3
  (s.onPtp fun p => { p with foreign := p.foreign.filter stays }).choose

/-- The effect of REFERENCE_LOST (R271): four sync intervals without a Sync, or 16 Delay_Req unanswered. -/
def State.referenceLost (s : State) : State :=
  match s.ptp.parent, s.ptp.lastSync with
  | none, _ => if s.timeState = 0 ∨ s.timeState = 3 then s else s.loseReference
  | some x, last =>
    if s.timeState = 0 ∨ s.timeState = 3 then s
    else
      let s := if 16 ≤ s.ptp.missed then s else s.until (last.getD x.at_ + 4 * logInterval (s.obj 0x2701 7))
      (s.onPtp fun p => { p with foreign := Tab.erase p.foreign (foreignKey x.msg) }).loseReference

/-! ### Offset and servo (R269, R272) -/

/-- A signed 32-bit object takes a value in ns. -/
def nsObj (t : Int) : Int := clampI (-2147483648) 2147483647 (t.tdiv 65536)

/-- The servo's next addend (R269, R263). -/
def State.servo (s : State) : State :=
  let offs := s.ptp.offsets
  let slew := 1000 * (s.nat 0x4700 3 : Int)
  let ppb := clampI (-1000000) 1000000
    (clampI (-1000000) 1000000 (Config.servoFreq offs) + clampI (-slew) slew (Config.servoPhase offs))
  let a := ((nominalAddend : Int) + ppb * ppmUnit / 1000).toNat
  (s.setAddend a).onPtp fun p => { p with addends := a :: p.addends.take 63 }

/-- Meridian is stepped by −offset, and acquisition goes on. -/
def State.stepByOffset (s : State) (offset : Int) : State :=
  ((s.stepMeridian (-offset)).setObj 0x2700 2 1).onPtp fun p => { p with good := 0, offsets := [] }

/-- The offset is judged in state 1 (R270). -/
def State.judge (s : State) (offset : Int) : State :=
  if 65536 * (s.nat 0x4700 4) < offset.natAbs then
    if !s.isRunning then s.stepByOffset offset
    else ((s.freezeAddend.setObj 0x2700 2 4).raiseUnit 0x0503 (param (nsObj offset))).onPtp fun p => { p with good := 0 }
  else
    let g := if offset.natAbs ≤ 500 * 65536 then s.ptp.good + 1 else 0
    let s := (s.onPtp fun p => { p with good := g }).servo
    if 8 ≤ g then
      ((s.setObj 0x2700 2 2).raiseUnit 0x0502).onPtp fun p => { p with locked := true, good := 0 }
    else s

/-- A Sync is complete: t2, t1 and its correction. -/
def State.syncDone (s : State) (port : Nat) (t2 t1 corr : Int) : State :=
  let now := s.now
  let ms := t2 - t1 - corr
  let offset := ms - s.ptp.mean - s.obj (0x4710 + port) 3
  let s := s.onPtp fun p => { p with
    ms := ms, lastSync := some now, wait := none, offsets := offset :: p.offsets.take 63 }
  let s := s.setObj 0x2700 3 (nsObj offset)
  match s.timeState with
  | 0 => ((s.setObj 0x2700 2 1).onPtp fun p => { p with good := 0 }).judge offset
  | 1 => s.judge offset
  | 2 => s.servo
  | 4 => if s.isRunning then s else s.stepByOffset offset
  | _ => s

/-- A message comes from the parent, on the slave port. -/
def State.fromParent (s : State) (m : PtpMsg) : Bool :=
  match s.ptp.parent with
  | some x => x.msg.port == m.port && x.msg.source == m.source && m.domain == s.nat 0x2701 3 && s.ptpMask.testBit m.port
  | none => false

/-- The effect of SYNC: a two-step one waits for its Follow_Up. -/
def State.sync (s : State) (m : PtpMsg) : State :=
  if !s.fromParent m then s
  else
    let t2 := s.ingressAt m.port (m.pcs : Int)
    if m.twoStep then s.onPtp fun p => { p with wait := some ⟨m.port, m.source, m.seq, t2, m.corr⟩ }
    else s.syncDone m.port t2 (m.stamp : Int) m.corr

/-- The effect of FOLLOW_UP. -/
def State.followUp (s : State) (m : PtpMsg) : State :=
  match s.ptp.wait with
  | none => s
  | some w =>
    if !s.fromParent m ∨ w.port ≠ m.port ∨ w.source ≠ m.source ∨ w.seq ≠ m.seq then s
    else s.syncDone m.port w.t2 (m.stamp : Int) (w.corr + m.corr)

/-- The effect of DELAY_RESP: the mean path delay. -/
def State.delayResp (s : State) (m : PtpMsg) : State :=
  match s.ptp.delay with
  | none => s
  | some d =>
    if !s.fromParent m ∨ d.port ≠ m.port ∨ d.seq ≠ m.seq ∨ d.answered then s
    else
      let mean := (s.ptp.ms + ((m.stamp : Int) - d.t3 - m.corr)) / 2
      (s.onPtp fun p => { p with mean := mean, missed := 0, delay := some { d with answered := true } }).setObj 0x2700 4
        (nsObj mean)

/-- The step threshold has been written, or the module may have stopped running: state 4 may end (R270). -/
def State.reviewDisagreement (s : State) : State :=
  match s.timeState, s.ptp.offsets with
  | 4, offset :: _ =>
    if !s.isRunning then s.stepByOffset offset
    else if offset.natAbs ≤ 65536 * (s.nat 0x4700 4) then (s.setObj 0x2700 2 1).onPtp fun p => { p with good := 0 }
    else s
  | _, _ => s

/-! ### Messages sent (R268, R273) -/

/-- Kinds of messages sent, and the sequence number that goes with each. -/
def State.nextSeq (s : State) (port kind : Nat) : Nat := (Tab.get (0, 0) s.ptp.seqs (4 * port + kind)).1
def State.sentSeq (s : State) (port kind : Nat) : State :=
  let now := s.now
  s.onPtp fun p => { p with seqs := Tab.put p.seqs (4 * port + kind) ((s.nextSeq port kind + 1) % 65536, now) }

/-- Time passes to the next message of a kind, an interval after the last. -/
def State.untilNext (s : State) (port kind : Nat) (every : Tick) : State :=
  match Tab.find? s.ptp.seqs (4 * port + kind) with
  | some x => s.until (x.2 + every)
  | none => s

/-- A PTP message joins a queue of its port: `len` bytes over UDP (R250, Table 12-4). -/
def State.ptpQueue (s : State) (port queue len : Nat) (o : Out) : State :=
  s.enqueue port queue (wireBytes (28 + len) (s.nat (0x2720 + port) 1 != 0)) o

/-- A one-step event message joins queue 7; the instant given here is the earliest it can leave, and it is stamped as it
leaves (R250, R273). -/
def State.eventMsg (s : State) (port kind seq : Nat) (t : Int) (fields : List Nat) : State :=
  s.ptpQueue port 7 44
    (.ptp port (s.nat (0x2720 + port) 1) kind (s.nat 0x2701 3) seq (t / 65536 * 65536).toNat (t % 65536) fields)

/-- A general message joins the management queue (R250). -/
def State.generalMsg (s : State) (port len : Nat) (o : Out) : State :=
  s.ptpQueue port (s.nat (0x4410 + port) 1) len o

/-- The effect of SYNC_SEND (kind 0). -/
def State.syncSend (s : State) (port : Nat) : State :=
  if s.portState port ≠ 6 then s
  else
    let s := s.untilNext port 0 (logInterval (s.obj 0x2701 7))
    (s.eventMsg port 0 (s.nextSeq port 0) (s.egressAt port (s.now : Int)) []).sentSeq port 0

/-- The effect of DELAY_REQ_SEND (kind 1): multicast, or unicast to the parent. One that went unanswered is counted. -/
def State.delayReqSend (s : State) (port : Nat) : State :=
  match s.ptp.parent with
  | none => s
  | some x =>
    if x.msg.port ≠ port then s
    else
      let late := match s.ptp.delay with
        | some d => !d.answered
        | none => false
      let s := if late then (s.count 0x2700 0xD).onPtp fun p => { p with missed := p.missed + 1 } else s
      let seq := s.nextSeq port 1
      let t3 := s.egressAt port (s.now : Int)
      let s := s.onPtp fun p => { p with delay := some ⟨port, seq, t3, false⟩ }
      (s.eventMsg port 1 seq t3 [s.nat 0x2701 0xA]).sentSeq port 1

/-- The effect of DELAY_REQ on a master port (kind 9 answers it): the ingress instant, its fraction subtracted from the
correction. -/
def State.delayReq (s : State) (m : PtpMsg) : State :=
  if s.portState m.port ≠ 6 ∨ m.domain ≠ s.nat 0x2701 3 then s
  else
    let t4 := s.ingressAt m.port (m.pcs : Int)
    s.generalMsg m.port 54
      (.ptp m.port (s.nat (0x2720 + m.port) 1) 9 (s.nat 0x2701 3) m.seq (t4 / 65536 * 65536).toNat (m.corr - t4 % 65536) [m.source])

/-- What the unit announces (Table 12-5). -/
def State.announced (s : State) (port : Nat) : AnnounceMsg :=
  match s.ptp.parent with
  | some x => if s.timeState = 2 then { s.ownAnnounce port with
      gmId := x.msg.gmId, clockClass := x.msg.clockClass, accuracy := x.msg.accuracy, timeSource := x.msg.timeSource
      steps := x.msg.steps + 1 } else s.ownAnnounce port
  | none => s.ownAnnounce port

/-- The effect of ANNOUNCE_SEND (kind 11). -/
def State.announceSend (s : State) (port : Nat) : State :=
  if s.portState port ≠ 6 ∨ s.ptpRole = 0 then s
  else
    let s := s.untilNext port 2 (logInterval (s.obj 0x2701 6))
    let a := s.announced port
    (s.generalMsg port 64 (.ptp port (s.nat (0x2720 + port) 1) 11 (s.nat 0x2701 3) (s.nextSeq port 2) s.now 0
      [a.source, a.gmId, a.prio1, a.clockClass, a.accuracy, a.variance, a.prio2, a.steps, a.timeSource])).sentSeq port 2

/-! ### Media PLLs (R260-R262, R275-R278) -/

/-- A media PLL: Video or Audio. -/
def State.pll (s : State) (audio : Bool) : PllRt := if audio then s.apll else s.vpll
def State.setPll (s : State) (audio : Bool) (p : PllRt) : State :=
  if audio then { s with apll := p } else { s with vpll := p }

/-- The sub-index of its state, of its error, and its number in events. -/
def pllSub (audio : Bool) : Nat := if audio then 3 else 2
def pllErr (audio : Bool) : Nat := if audio then 6 else 5
def State.pllState (s : State) (audio : Bool) : Nat := s.nat 0x2702 (pllSub audio)

/-- VCO frequency in Hz, as numerator and denominator (Table 12-1, R260). -/
def State.vco (s : State) (audio : Bool) : Nat × Nat :=
  if audio then (if s.nat 0x2702 9 = 0 then (3145728000, 1) else (2890137600, 1))
  else if tfNum (s.atl 0x2A00 3) = 1001 then (2376000000 * 1000, 1001) else (2376000000, 1)

/-- Division from the VCO to the domains' clock. -/
def State.vcoDiv (s : State) (audio : Bool) : Nat := if audio then 128 else if s.atl 0x2A00 2 = 0 then 16 else 4

/-- The nominal divider word: 8 integer and 32 fraction bits. -/
def State.nominalWord (s : State) (audio : Bool) : Nat :=
  (s.vco audio).1 * 0x100000000 / ((s.vco audio).2 * 25000000)

/-- A PLL starts (R260, R261). -/
def State.pllStart (s : State) (audio : Bool) : State :=
  (s.setPll audio ⟨s.nominalWord audio, s.nat 0x4700 (if audio then 2 else 1), none, none⟩).setObj 0x2702 (pllSub audio) 1

/-- A PLL stops. -/
def State.pllStop (s : State) (audio : Bool) : State :=
  ((s.setPll audio PllRt.reset).setObj 0x2702 (pllSub audio) 0).setObj 0x2702 (pllErr audio) 0

/-- The PLLs run while their family is in use. -/
def State.configurePlls (s : State) : State :=
  let go (s : State) (audio use : Bool) : State :=
    if use ∧ s.pllState audio = 0 then s.pllStart audio else if !use ∧ s.pllState audio ≠ 0 then s.pllStop audio else s
  go (go s false (s.atl 0x2A00 1 == 1)) true ((List.range 8).any fun i => s.nat (0x2900 + i) 1 != 0)

/-- One step of the dither LFSR, x²³ + x¹⁸ + 1. -/
def lfsrStep (v : Nat) : Nat := (2 * v + b2n ((v.testBit 22) != (v.testBit 17))) % 0x800000

/-- `n` steps of it. -/
def lfsrSteps : Nat → Nat → Nat
  | 0, v => v
  | n + 1, v => lfsrSteps n (lfsrStep v)

/-- The effect of OUTER_LOOP_UPDATE (R260-R262): every 10 µs the word moves by at most 0.1 ppm, within 1,000 ppm of
nominal; a coasting PLL's word stands still. -/
def State.outerLoop (s : State) (audio : Bool) (phase : Int) : State :=
  let st := s.pllState audio
  let p := s.pll audio
  let dither := lfsrSteps 250 p.lfsr
  if st = 0 then s
  else if st ≤ 2 then
    let nom : Int := s.nominalWord audio
    let lim : Int := (p.word : Int) / 10000000
    let w := clampI (nom - nom / 1000) (nom + nom / 1000) (p.word + clampI (-lim) lim (Config.outerStep p.word phase))
    let s := s.setPll audio { p with word := w.toNat, lfsr := dither }
    if st = 1 ∧ phase.natAbs ≤ 1000 then s.setObj 0x2702 (pllSub audio) 2 else s
  else s.setPll audio { p with lfsr := dither, since := if phase.natAbs ≤ 10 then some (p.since.getD s.now) else none }

/-- The effect of MEDIA_PLL_LOCK_LOSS (R275): the word freezes and the PLL coasts. -/
def State.pllLockLoss (s : State) (audio slip : Bool) (phase : Int) : State :=
  let st := s.pllState audio
  let p := s.pll audio
  if !slip ∧ phase.natAbs ≤ 1000 then s
  else if st = 2 then
    let s := s.setPll audio { p with window := some s.now, since := none }
    ((s.setObj 0x2702 (pllSub audio) 3).count 0x2702 8).raiseUnit 0x0504 (b2n audio)
  else if 3 ≤ st then s.setPll audio { p with since := none }
  else s

/-- The window of R276. -/
def measureNs : Nat := 8388608

/-- Estimated error in ppb of a window in which the PLL's clock gave so many cycles. -/
def State.pllErrorPpb (s : State) (audio : Bool) (cycles : Nat) : Nat :=
  let f := s.vco audio
  let want := f.1 * measureNs * s.clk.addend
  let got := 1000000000 * nominalAddend * (cycles * (f.2 * s.vcoDiv audio))
  1000000000 * ((got : Int) - want).natAbs / want

/-- The effect of PLL_MEASURE_WINDOW (R276). -/
def State.pllMeasure (s : State) (audio : Bool) (cycles : Nat) : State :=
  let p := s.pll audio
  match p.window with
  | none => s
  | some t =>
    if s.pllState audio ≠ 3 then s
    else
      let s := s.until (nsT measureNs + t)
      let e := s.pllErrorPpb audio cycles
      let s := s.setObj 0x2702 (pllErr audio) (min 0xFFFFFFFF e)
      if 50000 < e then
        (((s.setPll audio { p with window := none }).setObj 0x2702 (pllSub audio) 4).count 0x2702 7).raiseUnit 0x0505 (b2n audio)
          (min 0xFFFFFFFF e)
      else s.setPll audio { p with window := some (nsT measureNs + t) }

/-- The effect of PLL_RELOCK (R278): one second locked, free of slips and within 10 ns. -/
def State.pllRelock (s : State) (audio : Bool) : State :=
  let p := s.pll audio
  match p.since with
  | none => s
  | some t =>
    if s.pllState audio < 3 then s
    else
      let s := s.until (secT 1 + t)
      let s := s.setPll audio { p with window := none, since := none }
      (s.setObj 0x2702 (pllSub audio) 2).raiseUnit 0x0506 (b2n audio)

/-! ### TIO pins (R279-R282) -/

/-- A pin's runtime state. -/
def TioRt.empty : TioRt := ⟨[], 0, 0, none, []⟩
def State.tioPin (s : State) (i : Nat) : TioRt := Tab.get TioRt.empty s.tio i
def State.setTio (s : State) (i : Nat) (t : TioRt) : State := { s with tio := Tab.put s.tio i t }

/-- An armed object of a pin. -/
def TioRt.arg (t : TioRt) (k : Nat) : Nat := (t.armed.getD (k - 1) 0).toNat

/-- Ns of edge k of a programmed output (R280). -/
def TioRt.edgeNs (t : TioRt) (k : Nat) : Nat :=
  1000000000 * t.arg 3 + t.arg 4 + k * t.arg 5 / max 1 (t.arg 6)

/-- A pin takes a level: active or idle. -/
def State.drivePin (s : State) (i : Nat) (active : Bool) : State :=
  let level := active != ((s.tioPin i).arg 2 == 1)
  (s.setObj (0x2710 + i) 0xE (b2n level)).say (.pin i level s.now)

/-- The abort code of a mode write (R280, R281), or 0. -/
def State.tioAbort (s : State) (i mode : Nat) : Nat :=
  let o (k : Nat) : Nat := s.nat (0x2710 + i) k
  if 3 < mode then 0x06090030
  else if mode = 1 ∧ 0 < o 5 ∧ o 5 ≤ o 7 * o 6 then 0x06040043
  else if mode = 2 ∧ 1000000000 * tfNum (s.ch (o 8) 0 7) ≤ o 7 * tfDen (s.ch (o 8) 0 7) then 0x06040043
  else 0

/-- The first edge of a programmed output that lies 1 ms or more after the arming. -/
def TioRt.firstEdge (t : TioRt) (from_ : Nat) : Nat :=
  let s0 := 1000000000 * t.arg 3 + t.arg 4
  if from_ ≤ s0 ∨ t.arg 5 = 0 then 0 else cdiv ((from_ - s0) * t.arg 6) (t.arg 5)

/-- The effect of TIO_MODE_WRITE, and its abort code: the pin is armed with its other objects as they stand (R279). -/
def State.tioModeWrite (s : State) (i mode : Nat) : State × Nat :=
  let code := s.tioAbort i mode
  if code ≠ 0 then (s, code)
  else
    let s := s.setObj (0x2710 + i) 1 mode
    let now := s.now
    let t : TioRt := { armed := (List.range 10).map fun k => s.obj (0x2710 + i) (k + 1), at_ := now, next := 0
                       until_ := none, fifo := (s.tioPin i).fifo }
    let from_ := cdiv (msT 1 + now) 65536
    let t := { t with next := if mode = 1 then t.firstEdge from_ else 0 }
    let missed := mode == 1 && t.arg 5 == 0 && decide (t.edgeNs 0 < from_)
    let s := s.setTio i (if missed then { t with next := 1 } else t)
    let s := if mode = 1 ∨ mode = 2 then s.drivePin i false else s
    (if missed then s.raiseUnit 0x0508 i else s, 0)

/-- A pulse that stands at its active level ends. -/
def State.endPulse (s : State) (i : Nat) (t : Tick) : State :=
  let s := s.until t
  (s.setTio i { s.tioPin i with until_ := none }).drivePin i false

/-- A pulse begins. -/
def State.beginPulse (s : State) (i next : Nat) (t : Tick) : State :=
  let s := s.until t
  let p := s.tioPin i
  (s.setTio i { p with next := next, until_ := some (t + nsT (p.arg 7)) }).drivePin i true

/-- The effect of TIO_EDGE (R280): the next edge of a programmed output, rising or falling. -/
def State.tioEdge (s : State) (i : Nat) : State :=
  let p := s.tioPin i
  if s.nat (0x2710 + i) 1 ≠ 1 ∨ p.arg 7 = 0 ∨ s.power.hold then s
  else match p.until_ with
    | some t => s.endPulse i t
    | none =>
      if p.arg 5 = 0 ∧ 0 < p.next then s else s.beginPulse i (p.next + 1) (nsT (p.edgeNs p.next))

/-- The slot of a run of its channel that a pin in mode 2 pulses for next: the first not yet pulsed whose instant lies ahead. -/
def TioRt.pulseSlot (p : TioRt) (now : Tick) (x : RunSpec) : Nat :=
  let n := slotFrom x.rate ((now : Int) - p.armed.getD 8 0 * 65536).toNat
  max (max x.first n) (if p.next ≤ n + 8 then p.next else 0)

/-- The effect of FRAME_PULSE (R281): T0(n) plus the offset, for every slot while the channel is enabled. -/
def State.framePulse (s : State) (i : Nat) : State :=
  let p := s.tioPin i
  if s.nat (0x2710 + i) 1 ≠ 2 ∨ p.arg 7 = 0 ∨ s.power.hold then s
  else match p.until_ with
    | some t => s.endPulse i t
    | none =>
      let r := s.chan (p.arg 8)
      match if r.running then r.runs.find? fun x => x.has (p.pulseSlot s.now x) else none with
      | some x => s.beginPulse i (p.pulseSlot s.now x + 1) (instantT x.rate (p.pulseSlot s.now x) 0 1 (p.armed.getD 8 0))
      | none => s

/-- The 12 bytes of a capture (R282). -/
def captureBytes (t : Tick) (rising : Bool) : List Byte :=
  beBytes 6 (tickSecs t) ++ beBytes 4 (tickNanos t + (if rising then 0x80000000 else 0)) ++ beBytes 2 (t % 65536)

/-- The effect of TIO_CAPTURE (R282): an edge on a pin in mode 3, behind the 20 ns filter. It also fires a common trigger
that waits on the pin (R306). -/
def State.tioCapture (s : State) (i : Nat) (rising : Bool) (pulseNs : Nat) : State :=
  let p := s.tioPin i
  let wanted := (p.arg 10).testBit (if rising then 0 else 1)
  if s.nat (0x2710 + i) 1 ≠ 3 ∨ pulseNs < 20 then s
  else
    let now := s.now
    let s := s.setObj (0x2710 + i) 0xE (b2n rising)
    if !wanted then s
    else
      let s := if 16 ≤ p.fifo.length then s.count (0x2710 + i) 0xD
        else (s.setTio i { p with fifo := p.fifo ++ [captureBytes now rising] }).setObj (0x2710 + i) 0xC (p.fifo.length + 1)
      match s.audio.trigger with
      | some g => if g.source = i + 1 then s.fireTrigger now else s
      | none => s

/-- A read of 0x2710+i:0B: the oldest capture, and the state without it (R282). -/
def State.captureRead (s : State) (i : Nat) : State × List Byte :=
  let p := s.tioPin i
  match p.fifo with
  | [] => (s, zeros 12)
  | x :: xs => ((s.setTio i { p with fifo := xs }).setObj (0x2710 + i) 0xC xs.length, x)

end Sys2Proof.Machine
end

