-- ==== Sys2Proof/Machine/Orchard.lean ====
section
/-! DEFINITION. Orchard.lean: tasks, dependence counters, dispatch, the completion collector and the decision trace
(R327-R344). Orchard decides when work runs, never what it computes (R20, R55): the effects of the coding path's
commands rest on their own conditions, and this file keeps the scheduler's own state beside them (log 21). -/

namespace Sys2Proof.Machine

/-! ### The decision trace (R343) -/

/-- A trace record (Table 16-5). -/
def State.traceBytes (s : State) (serial kind exec id : Nat) (t : TaskRt) (value : Nat) : List Byte :=
  beBytes 4 serial ++ beBytes 4 s.now32 ++ [BitVec.ofNat 8 kind, BitVec.ofNat 8 exec] ++ beBytes 2 id ++
  [BitVec.ofNat 8 t.kind, BitVec.ofNat 8 (if t.kind ≤ 1 then 0xFF else t.chan)] ++ beBytes 2 t.row ++
  beBytes 4 (t.slot % 0x100000000) ++ beBytes 4 (wrapInt 4 (((t.deadline : Int) - s.now) / 65536)) ++
  beBytes 2 (t.counter.getD 0xFFFF) ++ beBytes 2 value ++ zeros 4

/-- Whether a task event passes the filters and the trace runs. A record without a channel passes any channel mask but 0
(log 22). -/
def State.traces (s : State) (kind : Nat) (t : TaskRt) : Bool :=
  let m := s.nat 0x4B01 1
  s.nat 0x4B01 5 == 1 && s.nat 0x2B00 0xB == 0 && (s.nat 0x4B01 2).testBit kind &&
    (if t.kind ≤ 1 then m != 0 else m.testBit t.chan)

/-- A trace record is written into the ring; after the stop event the trace ends with the last record owed. -/
def State.trace (s : State) (kind exec id : Nat) (t : TaskRt) (value : Nat) : State :=
  if !s.traces kind t then s
  else
    let n := s.nat 0x2B00 0xA + 1
    let s := s.putBytes 0x6206 1 (32 * ((n - 1) % 16384)) (s.traceBytes n kind exec id t value)
    let s := s.setObj 0x2B00 0xA (n % 0x100000000)
    match s.orch.stopLeft with
    | none => s
    | some k =>
      let s := s.onOrch fun o => { o with stopLeft := some (k - 1) }
      if k ≤ 1 then s.setObj 0x2B00 0xB 1 else s

/-- The stop event has been raised. -/
def State.traceStop (s : State) (code : Nat) : State :=
  if code = s.nat 0x4B01 3 ∧ code ≠ 0 ∧ s.orch.stopLeft = none ∧ s.nat 0x4B01 5 = 1 then
    let k := s.nat 0x4B01 4
    let s := s.onOrch fun o => { o with stopLeft := some k }
    if k = 0 then s.setObj 0x2B00 0xB 1 else s
  else s

/-! ### Tasks -/

/-- The deadline of a task: E(n), W(n) for packetisation, and for a pre-analysis band the E of slot n at the smallest D
among the channels of the source (R328). -/
def State.taskDeadline (s : State) (kind c n : Nat) : Tick :=
  let d (c : Nat) : Nat := (s.forSlot c n).ch c 1 1
  if kind = 1 then instantT (s.recAt c n).rate n ((s.chansOf c n).foldl (fun m x => min m (d x)) 4) 1 (-200000)
  else instantT ((s.chan c).rateAt n) n (d c) 1 (if kind = 7 then 32000 else -200000)

/-- Dependences of a picture decision that do not hold yet (R18, R89, R120, R148, R191). -/
def State.unmetDecision (s : State) (c n : Nat) : Nat :=
  let r := s.chan c
  let v := s.forSlot c n
  let g := v.auCfg c
  (r.aus.filter fun a => r.mine a && decide (a.slot + g.d = n) && a.complete.isNone).length +
  (r.aus.filter fun a => r.mine a && decide (a.slot + 2 = n) && !a.modelled).length +
  if s.isCanvas c then b2n (!s.reportsIn g.d n)
  else popCount 4 (s.insetsOpen v c n) + b2n (!s.anaSettled g.source (basisSlot g.d n + 1))

/-- Dependences of a task that do not hold yet (Table 16-3). -/
def State.unmet (s : State) (t : TaskRt) : Nat :=
  let r := s.chan t.chan
  match r.au? t.slot with
  | none => if t.kind = 2 then 1 else if t.kind = 3 then s.unmetDecision t.chan t.slot else 0
  | some a =>
    let k := a.cfg.k
    if a.replaced then 0
    else if t.kind = 4 then
      b2n (decide (0 < t.row) && decide ((a.row (t.row - 1)).stage = .waiting)) +
      b2n (decide (k ≤ t.row) && decide ((a.row (t.row - k)).stage ≠ .settled)) +
      b2n (decide (0 < t.row) && decide ((a.row (t.row - 1)).stage ≠ .settled)) +
      b2n a.repl.isNone + b2n (!s.refsFinal t.chan a t.row) + b2n (!s.rowAnalysed a t.row)
    else if t.kind = 6 then
      min 255 ((a.rows.filter fun w => decide (w.stage ≠ .settled)).length * b2n (!a.skip))
    else 0

/-- The lowest number not in a table, below a limit. -/
def lowestFree {α : Type} (t : Tab α) (limit : Nat) : Nat :=
  ((List.range limit).find? fun i => (Tab.find? t i).isNone).getD 0

/-- A task is created (R327, R331): it takes a counter when it has dependences, and otherwise is Ready. `at_` is the ID
that it takes over (R330). -/
def State.createTask (s : State) (kind c n row : Nat) (at_ : Option Nat := none) : State :=
  let t0 : TaskRt := ⟨kind, c, n, row, s.taskDeadline kind c n, s.orch.nextSeq, .ready, none, 0, false, none⟩
  let u := if kind = 1 ∨ kind = 5 ∨ kind = 7 then 0 else min 255 (s.unmet t0)
  let id := at_.getD (lowestFree s.orch.tasks 8192)
  let ctr := lowestFree s.orch.counters 4096
  let t := if u = 0 then t0 else { t0 with state := .waiting, counter := some ctr, owed := u }
  let s := s.onOrch fun o =>
    { o with tasks := Tab.put o.tasks id t, nextSeq := o.nextSeq + 1
             counters := if u = 0 then o.counters else Tab.put o.counters ctr u }
  let s := s.setObj 0x2B00 1 s.orch.tasks.length
  let s := s.setObj 0x2B00 2 s.orch.counters.length
  let s := s.raiseTo 0x2B00 8 s.orch.tasks.length
  let s := s.trace 1 18 id t u
  if u = 0 then s.trace 2 18 id t 0 else s

/-- The task of a kind for an AU's row, if any. -/
def State.taskOf (s : State) (kind c n row : Nat) : Option (Nat × TaskRt) :=
  (s.orch.tasks.find? fun p => p.2.kind == kind && p.2.chan == c && p.2.slot == n && p.2.row == row)

/-- A task's entry takes a value. -/
def State.putTask (s : State) (id : Nat) (t : TaskRt) : State :=
  s.onOrch fun o => { o with tasks := Tab.put o.tasks id t }

/-- A task leaves the table, and its counter is freed. -/
def State.dropTask (s : State) (id : Nat) (t : TaskRt) : State :=
  let s := s.onOrch fun o =>
    { o with tasks := Tab.erase o.tasks id
             counters := match t.counter with | some k => Tab.erase o.counters k | none => o.counters }
  (s.setObj 0x2B00 1 s.orch.tasks.length).setObj 0x2B00 2 s.orch.counters.length

/-! ### Dispatch (R334-R337) -/

/-- The atomic flow of a task, where it has one: 2c the header flow, 2c + 1 the rate-control flow (R334). -/
def TaskRt.atomic (t : TaskRt) : Option Nat :=
  if t.kind = 3 ∨ (t.kind = 4 ∧ ¬t.coding) then some (2 * t.chan + 1)
  else if t.kind = 6 then some (2 * t.chan) else none

/-- Whether a task needs an engine now. -/
def TaskRt.onEngine (t : TaskRt) : Bool := t.kind == 5 || (t.kind == 4 && t.coding)

/-- Whether a task needs a control core now. -/
def TaskRt.onCore (t : TaskRt) : Bool := t.kind == 3 || t.kind == 6 || (t.kind == 4 && !t.coding)

/-- The dispatch key's order: deadline, then creation (R328). -/
def TaskRt.before (a b : TaskRt) : Bool :=
  decide (a.deadline < b.deadline ∨ (a.deadline = b.deadline ∧ a.seq < b.seq))

/-- The task with the smallest key among some. -/
def firstTask (ts : List (Nat × TaskRt)) : Option (Nat × TaskRt) :=
  ts.foldl (fun m p => match m with | none => some p | some q => if p.2.before q.2 then some p else some q) none

/-- An executor has a task in service. -/
def State.busyExec (s : State) (e : Nat) : Bool := s.orch.tasks.any fun p => p.2.state == .running e

/-- Engines of a channel's mask, live ones only (R335, R338). -/
def State.maskEngines (s : State) (c : Nat) : List Nat :=
  (List.range 16).filter fun e => (s.ch c 3 2).testBit e && (s.nat 0x2B00 3).testBit e

/-- Whether an earlier task of the same flow still stands before a task (R334). -/
def State.flowBlocked (s : State) (t : TaskRt) : Bool :=
  match t.atomic with
  | none => false
  | some f => s.orch.tasks.any fun p => p.2.atomic == some f && decide (p.2.seq < t.seq)

/-- The executor a Ready task goes to, when one is idle (R335-R337): the one it left, the affine one, the lowest-numbered. -/
def State.idleFor (s : State) (t : TaskRt) : Option Nat :=
  if t.onEngine then
    let es := (s.maskEngines t.chan).filter fun e => !s.busyExec e
    let affine := if s.nat 0x4B00 1 = 1 then Tab.find? s.orch.lastEngine t.chan else none
    (t.lastOn.toList ++ affine.toList ++ es).find? es.contains
  else if t.onCore then
    let cs := ((List.range 6).map (18 + ·)).filter fun e => !s.busyExec e
    match t.atomic.bind (Tab.find? s.orch.lastCore ·) with
    | some e => if cs.contains e then some e else cs.head?
    | none => cs.head?
  else some (if t.kind = 1 then 16 else if t.kind = 2 then 17 else 25)

/-- The engine of a mask that a Ready task pre-empts (R336): the one with the latest deadline that lies later by the
threshold, ties to the higher engine number. -/
def State.victim (s : State) (t : TaskRt) : Option (Nat × TaskRt) :=
  let th := s.nat 0x4B00 2
  if th = 0 ∨ !t.onEngine then none
  else
    let on := (s.maskEngines t.chan).filterMap fun e => (s.orch.tasks.find? fun p => p.2.state == .running e)
    (on.filter fun p => decide (t.deadline + usT th ≤ p.2.deadline)).foldl (fun m p =>
      match m with
      | none => some p
      | some q => if p.2.deadline < q.2.deadline then some q else some p) none

/-- A task goes into service on an executor. -/
def State.serve (s : State) (id : Nat) (t : TaskRt) (e : Nat) (resumed : Bool) : State :=
  let t := { t with state := .running e, lastOn := some e }
  let s := s.putTask id t
  let s := match t.atomic with
    | some f => s.onOrch fun o => { o with lastCore := Tab.put o.lastCore f e }
    | none => s
  s.trace (if resumed then 5 else 3) e id t 0

/-- Ready tasks are dispatched by key while an executor is idle, then pre-emption is tried once (R335-R337). -/
def State.dispatch : Nat → State → State
  | 0, s => s
  | fuel + 1, s =>
    let ready := s.orch.tasks.filter fun p => p.2.state == .ready && !s.flowBlocked p.2
    match firstTask (ready.filter fun p => (s.idleFor p.2).isSome) with
    | some (id, t) => State.dispatch fuel (s.serve id t ((s.idleFor t).getD 0) t.lastOn.isSome)
    | none =>
      match firstTask (ready.filter fun p => (s.victim p.2).isSome) with
      | none => s
      | some (id, t) =>
        match s.victim t with
        | none => s
        | some (vid, v) =>
          let e := match v.state with | .running e => e | _ => 0
          let s := (s.putTask vid { v with state := .ready }).trace 4 e vid v 0
          let s := s.count 0x2B00 6
          State.dispatch fuel (s.serve id t e t.lastOn.isSome)

/-- Every Ready task that an executor can take goes into service. -/
def State.dispatchAll (s : State) : State := State.dispatch (s.orch.tasks.length + 16) s

/-! ### The collector (R339-R342) -/

/-- Every dependence that has come to hold is sent as a decrement by a producer, with the task it completes
(Table 16-3). Tasks that were created Ready are dispatched (R331). -/
def State.pulse (s : State) (p : Nat) (task : Option Nat) : State :=
  let due := s.orch.tasks.filterMap fun x => match x.2.counter with
    | none => none
    | some k =>
      let u := min x.2.owed (s.unmet x.2)
      if u < x.2.owed then some (x.1, x.2, k, x.2.owed - u, u) else none
  let s := due.foldl (fun s d => s.putTask d.1 { d.2.1 with owed := d.2.2.2.2 }) s
  let decs := due.flatMap fun d => List.replicate d.2.2.2.1 d.2.2.1
  (if task.isNone ∧ decs.isEmpty then s else s.writeRecord p task decs).dispatchAll

/-- A task's work is done: its executor writes the completion record. A task that has not been dispatched completes on
the executor that dispatch would give it. -/
def State.taskDone (s : State) (kind c n row : Nat) : State :=
  match s.taskOf kind c n row with
  | none => s.pulse (if kind = 1 then 16 else if kind = 2 then 17 else 18) none
  | some (id, t) =>
    let e := match t.state with
      | .running e => e
      | _ => (s.idleFor t).getD (if t.onEngine then ((s.maskEngines c).headD 0) else 18)
    let s := if t.onEngine then s.onOrch fun o => { o with lastEngine := Tab.put o.lastEngine c e } else s
    s.pulse e (some id)

/-- A row task's decision phase ends and its coding phase begins (R327). -/
def State.rowTaskCodes (s : State) (c n row : Nat) : State :=
  match s.taskOf 4 c n row with
  | none => s.pulse 18 none
  | some (id, t) =>
    let e := match t.state with | .running e => e | _ => 18
    let s := s.putTask id { t with coding := true, state := if t.counter.isSome then .waiting else .ready, lastOn := none }
    s.pulse e none

/-- A counter underflow (R332): counted, its event, and a trace record of no task. -/
def State.underflow (s : State) (p k : Nat) : State :=
  ((s.count 0x4B00 6).raiseUnit 0x0703 k p 0).trace 9 p 0xFFFF ⟨0, 0, 0, 0, s.now, 0, .waiting, some k, 0, false, none⟩ 0

/-- One decrement is delivered (R331, R332). -/
def State.decrement (s : State) (p k : Nat) : State :=
  match Tab.find? s.orch.counters k with
  | none => s.underflow p k
  | some 0 => s.underflow p k
  | some (v + 1) =>
    if v = 0 then
      match s.orch.tasks.find? fun x => x.2.counter == some k with
      | none => s.onOrch fun o => { o with counters := Tab.erase o.counters k }
      | some (id, t) =>
        let s := s.onOrch fun o => { o with counters := Tab.erase o.counters k }
        let t' := { t with counter := none, state := if t.state = .waiting then .ready else t.state }
        ((s.putTask id t').trace 2 p id { t' with counter := some k } 0).setObj 0x2B00 2 s.orch.counters.length
    else s.onOrch fun o => { o with counters := Tab.put o.counters k v }

/-- One record is delivered: its decrements in listed order, then its task is Done and its ID freed (Table 16-2). -/
def State.deliver (s : State) (p : Nat) (r : CollRec) : State :=
  let s := r.decs.foldl (fun s k => s.decrement p k) s
  match r.task with
  | none => s
  | some id => match Tab.find? s.orch.tasks id with
    | none => s
    | some t => (s.dropTask id t).trace 6 p id t 0

/-- The records of a round, four to a cycle; the tasks that become Ready in one cycle are dispatched by key (R341, R342). -/
def State.deliverCycles : Nat → State → List (Nat × CollRec) → State
  | 0, s, _ => s
  | n + 1, s, rs => State.deliverCycles n ((rs.take 4).foldl (fun s p => s.deliver p.1 p.2) s).dispatchAll (rs.drop 4)

/-- The effect of COLLECTOR_ROUND (R341, R342): the oldest record of every producer written before the round's first
cycle, in ascending producer index, four to a cycle. -/
def State.collectorRound (s : State) : State :=
  let waiting := s.orch.prods.filter fun p => !p.2.slots.isEmpty
  match waiting with
  | [] => s
  | _ =>
    let oldest := (waiting.filterMap fun p => p.2.slots.head?.map (·.cycle)).foldl min (s.fabric + 1)
    let start := max s.orch.free (oldest + 1)
    let take_ := waiting.filterMap fun p => match p.2.slots with
      | r :: _ => if r.cycle < start then some (p.1, r) else none
      | [] => none
    let len := cdiv take_.length 4
    let s := s.onOrch fun o =>
      { o with free := start + len
               prods := take_.foldl (fun t p => Tab.upd Producer.empty t p.1 fun q => { q with slots := q.slots.drop 1 }) o.prods }
    let s := s.raiseTo 0x4B00 4 (min 255 len)
    let late := (List.range take_.length).foldl (fun m i =>
      max m (start + i / 4 - ((take_[i]?).map (·.2.cycle)).getD start)) 0
    let s := s.raiseTo 0x4B00 3 (min 255 late)
    State.deliverCycles len s take_

/-- The effect of COMPLETION_RECORD_WRITE (R340): a stalled producer writes once a slot frees. -/
def State.recordWrite (s : State) (p : Nat) : State :=
  let q := Tab.get Producer.empty s.orch.prods p
  match q.stalled with
  | [] => s
  | r :: rest =>
    if q.slots.length < 2 then
      s.onOrch fun o => { o with prods := Tab.put o.prods p ⟨q.slots ++ [{ r with cycle := s.fabric }], rest⟩ }
    else s

/-- Tasks of an AU that a rescue cancels (R329): all but the replacement, the assembly and the packetisation. -/
def State.cancelTasks (s : State) (c n : Nat) : State :=
  let mine := s.orch.tasks.filter fun p => p.2.chan == c && p.2.slot == n && [2, 3, 4].contains p.2.kind
  let s := mine.foldl (fun s p => (s.dropTask p.1 p.2).trace 7
    (match p.2.state with | .running e => e | _ => 18) p.1 p.2 0) s
  s.pulse 18 none

/-- Engines leave service (R338): their tasks restart on others, masks lose them, and a channel whose mask is left empty
borrows an engine. -/
def State.loseEngines (s : State) (lost : Nat) : State :=
  let hit := s.orch.tasks.filter fun p => match p.2.state with | .running e => decide (e < 16) && lost.testBit e | _ => false
  let s := s.setObj 0x2B00 3 (s.nat 0x2B00 3 &&& (0xFFFF ^^^ lost))
  let s := hit.foldl (fun s p =>
    ((s.putTask p.1 { p.2 with state := .ready, lastOn := none }).trace 8
      (match p.2.state with | .running e => e | _ => 0) p.1 p.2 0).count 0x2B00 9) s
  let live := (List.range 16).filter fun e => (s.nat 0x2B00 3).testBit e
  State.dispatchAll <| s.runningChans.foldl (fun s c =>
    let m := s.ch c 3 2 &&& (0xFFFF ^^^ lost)
    if m ≠ 0 ∨ s.ch c 3 2 = 0 then s.setObj (basic c 3) 2 m
    else
      let unheld := live.find? fun e => !(s.runningChans.any fun d => (s.ch d 3 2).testBit e)
      match unheld with
      | some e => s.setObj (basic c 3) 2 (2 ^ e : Nat)
      | none => s.setObj (basic c 3) 2 ((live.head?.map (2 ^ ·)).getD 0 : Nat)) s

end Sys2Proof.Machine
end

