-- ==== Sys2Proof/Machine/Movers.lean ====
section
/-! DEFINITION. Movers.lean: mover descriptors, memory errors and the freeze (R345-R364). -/

namespace Sys2Proof.Machine

/-! ### Which commands act -/

/-- The module runs its data plane: powered, out of reset, not frozen, the configuration in force (Table 22-4), and not in
Standby (Table 22-1). -/
def State.live (s : State) : Bool :=
  s.power.vin == .running && !s.power.resetLow && s.power.held.isNone && s.power.freeze.isNone &&
    s.power.stage == 4 && s.nat 0x2000 2 != 2

/-- The management core runs and serves CAN FD (R387, R389). -/
def State.coreUp (s : State) : Bool := s.power.vin == .running && s.power.core && !s.power.resetLow

/-- The meaning of a command of the data plane: it acts while the module is live, and is lost otherwise (log 33). -/
def State.actLive (s : State) (f : State → State) : Host.Outcome State Fault Refusal :=
  s.act fun s => if s.live then f s else s

/-- The meaning of a command that PD0 and PD1 carry: it acts while the management core runs. -/
def State.actCore (s : State) (f : State → State) : Host.Outcome State Fault Refusal :=
  s.act fun s => if s.coreUp then f s else s

/-! ### Descriptors (R357-R362) -/

/-- A mover channel before anything is queued on it. -/
def MoverRt.empty : MoverRt := ⟨[], false, none⟩

/-- A mover channel. -/
def State.mover (s : State) (ch : Nat) : MoverRt := Tab.get MoverRt.empty s.movers ch

/-- It takes a value, and 0x4C02 reports its ring. -/
def State.setMover (s : State) (ch : Nat) (m : MoverRt) : State :=
  let s := { s with movers := Tab.put s.movers ch m }
  let bad := s.nat 0x4C02 (ch + 1) / 0x10000
  s.setObj 0x4C02 (ch + 1) (bad * 0x10000 + 0x100 * b2n (!m.ring.isEmpty && !m.stopped) + min 255 m.ring.length : Nat)

/-- One more descriptor marked bad, in 0x4C02 [31:16]. -/
def State.countBadDescriptor (s : State) (ch : Nat) : State :=
  let v := s.nat 0x4C02 (ch + 1)
  if v / 0x10000 < 0xFFFF then s.setObj 0x4C02 (ch + 1) (v + 0x10000 : Nat) else s

/-- Whether a mover may touch a byte: inside Table 17-1 and outside the search caches (R345). -/
def moverMay (a : Nat) : Bool := mapped a && !(decide (0x1000000000 ≤ a) && decide (a < 0x1006000000))

/-- A range that a mover may touch whole: both ends lie in one listed range or in neighbouring ones. -/
def moverRange (a n : Nat) : Bool := n == 0 || (moverMay a && moverMay (a + n - 1))

/-- Bytes of the burst that starts at an offset: at most 256, and none past a 256-byte boundary of the destination
(R359). -/
def burstLength (d : Descriptor) (off : Nat) : Nat := min (d.len - off) (256 - (d.dst + off) % 256)

/-- The destination starts above the source inside its range: the result is undefined (R360). -/
def Descriptor.overlaps (d : Descriptor) : Bool := decide (d.src < d.dst) && decide (d.dst < d.src + d.len)

/-- The bytes that a burst writes: what it read, or free values where R360 leaves the result undefined. -/
def State.burstBytes (s : State) (d : Descriptor) (off n : Nat) : List Byte :=
  if d.overlaps then (List.range n).map fun i => BitVec.ofNat 8 (Config.freeNat (s.free + i))
  else s.memGets (d.src + off) n

/-- Bursts from an offset on, in ascending order, until one fails or the length is done (R359-R361): the state, the status
and the offset at which the descriptor stopped. -/
def State.bursts (s : State) (d : Descriptor) (errorAt : Option Nat) : Nat → Nat → State × Nat × Nat
  | 0, off => (s, 2, off)
  | fuel + 1, off =>
    if d.len ≤ off then (s, 2, d.len)
    else
      let n := burstLength d off
      let fails := match errorAt with
        | some e => decide (off ≤ e) && decide (e < off + n)
        | none => false
      if fails || !moverRange (d.src + off) n || !moverRange (d.dst + off) n then (s, 3, off)
      else
        let data := s.burstBytes d off n
        let s := s.memPuts (d.dst + off) data
        let s := if d.overlaps then { s with free := s.free + n } else s
        s.bursts d errorAt fuel (off + n)

/-- What a descriptor's end leaves behind: counters, the poisoned buffer of a bad one, and its record (R361, R362). -/
def State.descriptorEnds (s : State) (ch status : Nat) (d : Descriptor) : State :=
  let s := if status = 2 then s.count 0x4C02 0x21
    else
      let s := s.countBadDescriptor ch
      match d.owner with
      | some (c, b) => s.poisonBuf c b ((((s.chan c).bufs[b]?).map (·.slot)).getD 0)
      | none => s
  if d.counter = 0xFFFF then s else s.writeRecord (32 + ch) none [d.counter]

/-- AUs in flight that hold a pool buffer: channel, buffer, slot. -/
def State.inFlightBufs (s : State) : List (Nat × Nat × Nat) :=
  s.chans.flatMap fun p => p.2.inFlight.filterMap fun a => a.buf.map fun b => (p.1, b, a.slot)

/-- A descriptor that firmware queued and the model does not hold (log 34): the counter it names, or none, is a free value, and so is the pool
buffer it writes, where its channel is one that imports bands (Table 17-6). -/
def State.firmwareDescriptor (s : State) (ch : Nat) : Descriptor :=
  let k := s.draw
  { src := 0, dst := 0, len := 0, counter := if k % 0x1001 = 0x1000 then 0xFFFF else k % 0x1001, stop := false
    owner := if 8 ≤ ch then none else (s.inFlightBufs[k / 0x1001]?).map fun x => (x.1, x.2.1) }

/-- The effect of DESCRIPTOR_COMPLETE: the oldest descriptor of the channel's ring is carried out to its end. `errorAt` is
a byte of it whose read or write meets an error. On an empty ring it is one that firmware queued (log 34). -/
def State.descriptorComplete (s : State) (ch : Nat) (errorAt : Option Nat) : State :=
  let m := s.mover ch
  match m.ring with
  | [] => s.drawn.descriptorEnds ch (if errorAt.isSome then 3 else 2) (s.firmwareDescriptor ch)
  | d :: rest =>
    if m.stopped then s
    else
      let r := s.bursts d errorAt d.len 0
      let s := r.1.setMover ch { m with ring := rest, stopped := d.stop, last := some r.2 }
      s.descriptorEnds ch r.2.1 d

/-! ### Scrubbing and temperature (R348, R351, R483) -/

/-- The effect of SCRUB_PASS. -/
def State.scrubPass (s : State) : State :=
  if s.nat 0x4C00 1 = 0 ∨ s.nat 0x2C00 1 ≠ 2 then s else s.count 0x2C00 3

/-- The effect of STACK_TEMPERATURE_CHANGE: the sensor's value; refresh at twice the rate changes no state (R483). Above
95 °C every behaviour is undefined, as it is for VIN in its band (R482). -/
def State.stackTemperature (s : State) (celsius : Int) : State :=
  let t := s.setObj 0x2C00 9 (clampI (-128) 127 celsius)
  if 95 < celsius then { t with power := { t.power with vin := .undefinedBand } } else t

/-! ### Errors of the on-chip SRAM (R356) -/

/-- A packet-buffer word is lost: the packet that held it, whichever it was, is dropped on every entry. -/
def State.loseWheelPacket (s : State) : State :=
  match s.egress.wheel[s.draw % max 1 s.egress.wheel.length]? with
  | none => s
  | some x =>
    let hit (y : WheelItem) : Bool := y.dest.stream == x.dest.stream && y.chan == x.chan && y.slot == x.slot && y.i == x.i
    { s with egress := { s.egress with wheel := s.egress.wheel.map fun y => if hit y then { y with bad := true } else y } }.drawn

/-- A line or table word is lost: a word of the Flow or Destination Table, reloaded within 10 µs, or data on its way to
the pool buffer of an AU in flight, which is poisoned. Which one the address held is left open (log 35). -/
def State.loseTableWord (s : State) : State :=
  let k := s.draw
  let bufs := s.inFlightBufs
  let s := s.drawn
  match bufs[k / 4 % max 1 bufs.length]? with
  | some (c, b, n) => if k % 4 < 2 then s.poisonBuf c b n
      else { s with hole := some ⟨k % 4 == 2, k / 4, usT 10 + s.now⟩ }
  | none => { s with hole := some ⟨k % 2 == 0, k / 4, usT 10 + s.now⟩ }

/-- An Atlas store word is lost: the samples of one 8-byte word of a background read as black. -/
def State.loseAtlasWord (s : State) : State :=
  let k := s.draw
  let off := 8 * (k / 2 % (22118400 / 8))
  (s.putBytes 0x6205 (1 + k % 2) off ((List.range 8).map fun i => atlasBlack (off + i))).drawn

/-- The effect of SRAM_UNCORRECTABLE: partition in the order of Table 17-5 from 0. A search-cache tile is fetched again,
which changes nothing. -/
def State.sramUncorrectable (s : State) (partition addr : Nat) : State :=
  let s := (s.count 0x2C00 8).raiseUnit 0x0704 partition (addr / 0x100000000 % 0x100) (addr % 0x100000000)
  match partition with
  | 1 => s.loseWheelPacket
  | 2 => s.loseTableWord
  | 4 => s.loseAtlasWord
  | _ => s

/-! ### Freeze (R352-R355) -/

/-- The named bits of the stack coordinates (0x2C10:05); the others are reserved. -/
def coordBits (v : Nat) : Nat :=
  bits v 52 48 * 2 ^ 48 + bits v 45 40 * 2 ^ 40 + bits v 33 16 * 2 ^ 16 + bits v 9 0

/-- Task, channel and slot of the freeze record. -/
def State.freezeTask (s : State) (task : Option Nat) : Nat × Nat × Nat :=
  match task.bind fun id => (Tab.find? s.orch.tasks id).map fun t => (id, t) with
  | some (id, t) => (id, if t.kind = 1 then 0xFF else t.chan, t.slot % 0x100000000)
  | none => (0xFFFF, 0xFF, 0)

/-- The freeze record 0x2C10:01 to :0A (R354). -/
def State.freezeRecord (s : State) (cause addr coords syndromes port : Nat) (task : Option Nat) : State :=
  let t := s.freezeTask task
  let vs : List Nat := [cause, tickSecs s.now % 0x100000000, tickNanos s.now, addr / 64 * 64, coordBits coords,
    if cause = 2 then 0 else syndromes, port, t.1, t.2.1, t.2.2]
  (vs.zipIdx).foldl (fun s v => s.setObj 0x2C10 (v.2 + 1) (v.1 : Nat)) s

/-- ATTN_N takes a level. -/
def State.setAttn (s : State) (on : Bool) : State := { s with evt := { s.evt with attn := on } }

/-- The effect of DRAM_UNCORRECTABLE (R352, R353): the module freezes at te. -/
def State.dramUncorrectable (s : State) (cause addr coords syndromes port : Nat) (task : Option Nat) : State :=
  let s := { s with power := { s.power with freeze := some s.now } }
  let s := ((s.freezeRecord cause addr coords syndromes port task).count 0x2C00 6).setObj 0x2C00 1 3
  ((s.raiseUnit 0x0705 cause).setAttn true).say .quiet

end Sys2Proof.Machine
end

