-- ==== Sys2Proof/Machine/Admission.lean ====
section
/-! DEFINITION. Admission.lean: what a configuration must meet at a commit (R30 and every commit-time rule of the other
chapters). `v` is the configuration that will be in force, `o` the one before it. A check answers 0 or its abort code;
where several fail, the first in the order of this file is answered (log 36). -/

namespace Sys2Proof.Machine

/-- The first non-zero code. -/
def firstCode : List Nat → Nat
  | [] => 0
  | c :: cs => if c = 0 then firstCode cs else c

/-- A condition that must hold, or its code. -/
def need (ok : Bool) (code : Nat) : Nat := if ok then 0 else code

/-! ### Channels -/

/-- Channel c is enabled. -/
def State.chanOn (v : State) (c : Nat) : Bool := v.ch c 0 1 == 1

/-- The enabled channels, in ascending order. -/
def State.chansOn (v : State) : List Nat := (List.range 64).filter v.chanOn

/-- Width and height of what this unit codes on a channel: the picture, or its member rectangle of a canvas. -/
def State.codedSize (v : State) (c : Nat) : Nat × Nat := let g := v.auCfg c; (g.width, g.height)

/-- Luma rate in samples per second, exact, times 1,001 (R33). -/
def rate1001 (w h code : Nat) : Nat := w * h * tfDen code * 1001 / tfNum code

/-- The channel's luma rate times 1,001. -/
def State.luma1001 (v : State) (c : Nat) : Nat := let g := v.codedSize c; rate1001 g.1 g.2 (v.ch c 0 7)

/-- general_profile_idc and the profile's NAL factor of an accepted format (Table 2-2). -/
def profileOf (codec chroma depth : Nat) : Option (Nat × Nat) :=
  match codec, chroma, depth with
  | 0, 0, 10 => some (1, 1100)
  | 0, 1, 10 => some (33, 2750)
  | 1, 0, 8 => some (1, 1100)
  | 1, 0, 10 => some (2, 1100)
  | 1, 1, 10 => some (4, 1833)
  | _, _, _ => none

/-- A row of Table 2-3: VVC and HEVC idc, MaxLumaPs, maximum dimension, MaxLumaSr, MaxBR of Main and High in kbit/s (0:
no High tier). -/
structure LevelRow where
  vvc  : Nat
  hevc : Nat
  ps   : Nat
  dim  : Nat
  sr   : Nat
  main : Nat
  high : Nat
  deriving DecidableEq, Repr

/-- Table 2-3. -/
def levels : List LevelRow :=
  [⟨48, 90, 552960, 2103, 16588800, 6000, 0⟩, ⟨51, 93, 983040, 2804, 33177600, 10000, 0⟩,
   ⟨64, 120, 2228224, 4222, 66846720, 12000, 30000⟩, ⟨67, 123, 2228224, 4222, 133693440, 20000, 50000⟩,
   ⟨80, 150, 8912896, 8444, 267386880, 25000, 100000⟩, ⟨83, 153, 8912896, 8444, 534773760, 40000, 160000⟩,
   ⟨86, 156, 8912896, 8444, 1069547520, 60000, 240000⟩, ⟨96, 180, 35651584, 16888, 1069547520, 60000, 240000⟩,
   ⟨99, 183, 35651584, 16888, 2139095040, 120000, 480000⟩, ⟨102, 186, 35651584, 16888, 4278190080, 240000, 800000⟩]

/-- Level idc and tier (0 Main, 1 High) of a picture size, rate and Cap (R36): the lowest level that fits, Main first. -/
def pickLevel (codec factor w h luma cap minLevel tier : Nat) : Option (Nat × Nat) :=
  levels.findSome? fun l =>
    let idc := if codec = 0 then l.vvc else l.hevc
    if idc < minLevel ∨ l.ps < w * h ∨ l.dim < w ∨ l.dim < h ∨ l.sr * 1001 < luma then none
    else if tier = 0 ∧ 1000 * cap ≤ l.main * factor then some (idc, 0)
    else if 1000 * cap ≤ l.high * factor then some (idc, 1)
    else none

/-- Profile, level and tier of a channel. A VVC canvas is level 15.5, Main tier; an HEVC canvas is picked over the canvas
size and rate (R36, R189). -/
def State.levelOf (v : State) (c : Nat) : Option (Nat × Nat × Nat) :=
  let codec := v.ch c 0 2
  match profileOf codec (v.ch c 0 3) (v.ch c 0 4) with
  | none => none
  | some (p, f) =>
    if v.isCanvas c ∧ codec = 0 then some (p, 255, 0)
    else
      let g := v.auCfg c
      (pickLevel codec f g.cw g.ch (rate1001 g.cw g.ch g.rate) (v.ch c 6 2) (v.chX c 0 5) (v.chX c 0 6)).map fun x => (p, x.1, x.2)

/-! ### Engines (R49) -/

/-- Luma samples per second of an engine. -/
def engineRate : Nat := 500000000

/-- n_c of a channel: a canvas takes what its member rectangle needs (R188). -/
def State.engineCount (v : State) (c : Nat) : Nat :=
  let n := cdiv (v.luma1001 c) (engineRate * 1001)
  let over_ := v.chX c 3 2
  if v.isCanvas c ∨ over_ < n then n else over_

/-- Insertion by decreasing luma rate, ties to the lower channel. -/
def insertByRate (x : Nat × Nat) : List (Nat × Nat) → List (Nat × Nat)
  | [] => [x]
  | y :: ys => if y.1 < x.1 then x :: y :: ys else y :: insertByRate x ys

/-- The dedicated engines of a channel with n ≥ 2: the lowest-numbered free ones. `loads` holds the load of each engine,
0 for a free one. -/
def dedicate (loads : List Nat) (n : Nat) : Option (List Nat) :=
  let free := (List.range 16).filter fun e => loads.getD e 0 == 0
  if free.length < n then none else some (free.take n)

/-- Every channel's engine mask, by channel; none where the engines run out (R49). A dedicated engine counts as full. -/
def State.engines (v : State) : Option (Tab Nat) :=
  let order := v.chansOn.foldl (fun l c => insertByRate (v.luma1001 c, c) l) []
  let full := engineRate * 1001
  let many := order.filter fun x => decide (2 ≤ v.engineCount x.2) || v.isCanvas x.2
  let one := order.filter fun x => !(decide (2 ≤ v.engineCount x.2) || v.isCanvas x.2)
  let step1 := many.foldl (fun (st : Option (List Nat × Tab Nat)) x =>
    match st with
    | none => none
    | some (loads, t) => (dedicate loads (v.engineCount x.2)).map fun es =>
        (es.foldl (fun l e => l.set e full) loads, Tab.put t x.2 (es.map (2 ^ ·)).sum))
    (some (List.replicate 16 0, []))
  let step2 := one.foldl (fun (st : Option (List Nat × Tab Nat)) x =>
    match st with
    | none => none
    | some (loads, t) =>
      match (List.range 16).find? fun e => decide (loads.getD e 0 + x.1 ≤ full) with
      | none => none
      | some e => some (loads.set e (loads.getD e 0 + x.1), Tab.put t x.2 (2 ^ e))) step1
  step2.map (·.2)

/-- k of a channel (R50). -/
def State.rowLag (v : State) (c : Nat) : Nat := if v.chX c 3 1 = 0 then v.engineCount c else v.chX c 3 1

/-! ### One channel -/

/-- Rows and columns of CTUs of what a channel codes here. -/
def State.ctuGrid (v : State) (c : Nat) : Nat × Nat := let g := v.auCfg c; (g.cols, g.rows)

/-- M of a channel outside a canvas, or of the whole canvas (R106). -/
def State.ceilingOf (v : State) (c : Nat) : Nat :=
  let g := v.auCfg c
  auCeiling g.cap g.rate g.u (cdiv g.ch g.size) (if g.canvas then v.gratRegions else 1)

/-- The guard reserve: Nr · max(g_I, g_P), over all members in a canvas (R111, R192). -/
def State.reserveOf (v : State) (c : Nat) : Nat :=
  if v.isCanvas c then max (guardReserve (v.memberCfgs c) true) (guardReserve (v.memberCfgs c) false)
  else
    let g := v.auCfg c
    g.rows * guardRow g.cols (max (guardI g.codec g.ctu g.chroma) (guardP g.codec g.ctu g.chroma))

/-- ⌈log2 n⌉. -/
def clog2 (n : Nat) : Nat := ((List.range 64).find? fun i => decide (n ≤ 2 ^ i)).getD 64

/-- Bits of a ue(v) code. -/
def ueLength (n : Nat) : Nat := 2 * Nat.log2 (n + 1) + 1

/-- The worst case of P2 in bytes, outside a canvas (R129). -/
def entryPointBytes (codec nr k : Nat) : Nat :=
  let len := clog2 (cdiv k 8)
  let n := nr - 1
  let fields := if n = 0 then (if codec = 0 then 0 else 1)
    else (if codec = 0 then 0 else ueLength n) + ueLength (len - 1) + n * len
  cdiv (cdiv (fields * 3) 2) 8

/-- Both parts of R129. In a canvas P1 gains the partition syntax of the SPS and PPS over the sum of Table 6-2, and P2 has the entry
points of every slice and the headers of every slice after the first. -/
def State.headersFit (v : State) (c : Nat) : Bool :=
  let g := v.auCfg c
  let nr := cdiv g.ch g.size
  let k := auMax g.cap g.rate
  if g.canvas then
    let ns := v.gratRegions
    let entries := ((List.range ns).map fun i => entryPointBytes g.codec (v.regionRows g.size i) k).sum
    decide ((if g.codec = 0 then 424 else 460) + v.canvasExtra g ≤ 512) &&
      decide (entries + (ns - 1) * (if g.codec = 0 then 20 else 72) ≤ 4 * nr * ns)
  else decide (entryPointBytes g.codec nr k ≤ 4 * nr)

/-- A flow is an enabled video entry of a frame rate. -/
def State.videoAt (v : State) (f code : Nat) : Bool := v.isVideo f && (v.flowRec f).rate == code

/-- Whether Inset i is on. -/
def State.insetOn (v : State) (c i : Nat) : Bool :=
  v.insetObj c i 1 == 1 && [5, 6, 9, 0xA].all fun k => v.insetObj c i k != 0

/-- An Inset that is on meets R147 and R214. -/
def State.insetFits (v : State) (c i : Nat) : Bool :=
  let q := v.insetObj c i
  let r := v.flowRec (q 2)
  let g := v.auCfg c
  v.videoAt (q 2) (v.ch c 0 7) &&
    geometryOk (q 3) (q 4) (q 5) (q 6) (q 7) (q 8) (q 9) (q 0xA) r.width r.height g.cw g.ch

/-- The source conditions of a channel (R214): the primary source, or every region flow of a canvas, with the region
inside its flow's frame (R187). -/
def State.sourcesOk (v : State) (c : Nat) : Bool :=
  let code := v.ch c 0 7
  let anc := v.ch c 7 0xD
  (if v.isCanvas c then (List.range v.gratRegions).all fun i =>
      let r := v.regionAt i
      let q := v.flowRec r.flow
      v.videoAt r.flow code && decide (r.ox + r.w ≤ q.width) && decide (r.oy + r.h ≤ q.height)
    else v.videoAt (v.ch c 0 8) code) &&
  (anc == 0xFFFF || !((v.flowRec anc).on && (v.flowRec anc).kind == 2) || (v.flowRec anc).rate == code)

/-- Flows that a channel uses: its base layer's, and its Insets'. -/
def State.flowsUsed (v : State) (c : Nat) : List Nat :=
  (if v.isCanvas c then (List.range v.gratRegions).map fun i => (v.regionAt i).flow else [v.ch c 0 8]) ++
    ((List.range 4).filter (v.insetOn c)).map fun i => v.insetObj c i 2

/-- Every check of one enabled channel. -/
def State.checkChannel (v : State) (c : Nat) : Nat :=
  let g := v.auCfg c
  let canvas := v.isCanvas c
  let active := v.ch c 2 5
  firstCode [
    need (canvas || decide (g.width * g.height ≤ 35651584)) 0x06040043,
    need (canvas || decide (v.luma1001 c ≤ 4278190080 * 1001)) 0x06040043,
    need (profileOf g.codec g.chroma g.depth).isSome 0x06040043,
    need (if g.codec = 0 then g.ctu == 6 || g.ctu == 7 else g.ctu == 5 || g.ctu == 6) 0x06040043,
    need (v.levelOf c).isSome 0x06040043,
    need (!canvas || v.ch c 2 1 == 0) 0x06040043,
    need (v.ch c 2 1 != 1 || (decide (2 ≤ v.ch c 2 3) && decide (v.ch c 2 3 ≤ min (v.ch c 2 2) g.cols))) 0x06090030,
    need (g.codec != 1 || decide (g.qt ≤ 204)) 0x06040043,
    need (decide (v.ch c 5 1 + 1 ≤ active)) 0x06090030,
    need (v.chX c 3 1 == 0 || (decide (v.engineCount c ≤ v.chX c 3 1) && decide (v.chX c 3 1 ≤ 16))) 0x06090030,
    need (v.chX c 6 1 == 0 || (decide (g.d + 5 ≤ v.chX c 6 1) && decide (v.chX c 6 1 ≤ 16))) 0x06090030,
    need (decide (v.reserveOf c ≤ v.ceilingOf c)) 0x06040043,
    need (v.headersFit c) 0x06040043,
    need (v.sourcesOk c) 0x06040043,
    need ((List.range 4).all fun i => !v.insetOn c i || v.insetFits c i) 0x06040043,
    need (g.d != 2 || (v.flowsUsed c).all fun f =>
      decide (4 * (v.flowRec f).ac * tfDen g.rate ≤ tfNum g.rate * 1000000)) 0x08000020]

/-- Layers of one flip group belong to channels of one Tf (R156). -/
def State.groupsOk (v : State) : Bool :=
  let layers := v.chansOn.flatMap fun c => (List.range 4).filterMap fun j =>
    if v.layerObj c j 1 = 1 ∧ v.layerObj c j 6 ≠ 0 then some (v.layerObj c j 6, v.ch c 0 7) else none
  layers.all fun x => layers.all fun y => x.1 != y.1 || x.2 == y.2

/-! ### Sums over the unit (R65, R88, R228, R330, R346) -/

/-- Distinct sources that pre-analysis serves: primary sources, and this unit's region flows. -/
def State.sources (v : State) : List Nat :=
  (v.chansOn.flatMap fun c => if v.isCanvas c then (v.auCfg c).regions.map fun i => (v.regionAt i).flow
    else [v.ch c 0 8]).eraseDups

/-- Pre-analysis load in source samples per second, times 1,001 (R65). -/
def State.analysisLoad (v : State) : Nat :=
  (v.sources.map fun f => let r := v.flowRec f; rate1001 r.width r.height r.rate).sum

/-- The pool of a channel: B and the buffer size, over the margin rectangle in a canvas (R86, R87, R195). -/
def State.poolOf (v : State) (c : Nat) : Nat × Nat :=
  let g := v.auCfg c
  let m := v.marginRect v.pos
  (poolCount g.d (v.chX c 6 1),
   if g.canvas then poolBytes m.w m.h g.chroma else poolBytes g.width g.height g.chroma)

/-- Pool bytes of all enabled channels (R88). -/
def State.poolSum (v : State) : Nat := (v.chansOn.map fun c => (v.poolOf c).1 * (v.poolOf c).2).sum

/-- Largest D of the enabled channels that use a flow, 2 when none does. -/
def State.dMax (v : State) (f : Nat) : Nat :=
  (v.chansOn.filter fun c => (v.flowsUsed c).contains f).foldl (fun m c => max m (v.ch c 1 1)) 2

/-- Bytes of one ingress frame buffer (R228). -/
def frameBytes (w h : Nat) : Nat := cdiv (cdiv (2 * w) 3 * 4 * h) 2097152 * 2097152

/-- Ingress frame storage in force (R228). -/
def State.frameStore (v : State) : Nat :=
  ((v.flowsOn.filter v.isVideo).map fun f => let r := v.flowRec f; (v.dMax f + 2) * frameBytes r.width r.height).sum

/-- Rounded up to a multiple of 65,536. -/
def up64k (n : Nat) : Nat := cdiv n 65536 * 65536

/-- AU store: a canvas AU counts at the master (R346). -/
def State.auStore (v : State) : Nat :=
  ((v.chansOn.filter fun c => !v.isCanvas c || v.pos == 0).map fun c =>
    (v.ch c 1 1 + 2) * up64k (cdiv (auMax (v.ch c 6 2) (v.ch c 0 7)) 8)).sum

/-- Pre-analysis store of one source size at a largest D. -/
def analysisBytes (w h d : Nat) : Nat :=
  let a := cdiv w 64
  let b := cdiv h 64
  3 * up64k (2 * (a * 16 * (b * 16) + a * 4 * (b * 4))) + (d + 1) * up64k (16 * (a * 2 * (b * 2)))

/-- Pre-analysis store: each distinct primary source, and a canvas member's own rectangle (R346). -/
def State.analysisStore (v : State) : Nat :=
  let own := v.chansOn.filter fun c => !v.isCanvas c
  ((own.map fun c => v.ch c 0 8).eraseDups.map fun f =>
    let r := v.flowRec f
    analysisBytes r.width r.height ((own.filter fun c => v.ch c 0 8 == f).foldl (fun m c => max m (v.ch c 1 1)) 2)).sum +
  ((v.chansOn.filter v.isCanvas).map fun c => let g := v.auCfg c; analysisBytes g.width g.height g.d).sum

/-- Tasks and counters that the load reserves (R330). -/
def State.taskLoad (v : State) : Nat × Nat :=
  ((v.chansOn.map fun c => v.ch c 1 1 * ((v.ctuGrid c).2 + 4)).sum +
     (v.sources.map fun f => cdiv (v.flowRec f).height 64 + 1).sum,
   (v.chansOn.map fun c => v.ch c 1 1 * ((v.ctuGrid c).2 + 2)).sum)

/-- The sums that R30's admission bounds. -/
def State.checkSums (v : State) : Nat :=
  let t := v.taskLoad
  firstCode [
    need v.engines.isSome 0x08000020,
    need (decide (v.analysisLoad ≤ 10000000000 * 1001)) 0x08000020,
    need (decide (v.poolSum ≤ 12884901888)) 0x08000020,
    need (decide (v.frameStore ≤ 2684354560)) 0x08000020,
    need (decide (v.auStore ≤ 268435456)) 0x08000020,
    need (decide (v.analysisStore ≤ 134217728)) 0x08000020,
    need (decide (t.1 ≤ 8192)) 0x08000020,
    need (decide (t.2 ≤ 4096)) 0x08000020]

/-! ### Legend slots (R151) -/

/-- Bytes that a slot's geometry takes (R151, R154). -/
def State.slotBytes (v : State) (j : Nat) : Nat :=
  v.nat (0x6100 + j) 2 * v.nat (0x6100 + j) 3 * (if v.nat (0x6100 + j) 4 = 0 then 4 else 8)

/-- Non-empty slots lie inside the region and apart from each other. -/
def State.slotsOk (v : State) : Bool :=
  let l := ((List.range 256).filter fun j => v.slotBytes j != 0).map fun j => (j, v.nat (0x6100 + j) 5, v.slotBytes j)
  l.all fun x => decide (x.2.1 + x.2.2 ≤ 1073741824) &&
    l.all fun y => x.1 == y.1 || decide (x.2.1 + x.2.2 ≤ y.2.1) || decide (y.2.1 + y.2.2 ≤ x.2.1)

/-! ### The Flow Table (R211-R213) -/

/-- The fields of an enabled record lie in their ranges (Table 10-2, R215). -/
def FlowRec.inRange (r : FlowRec) : Bool :=
  decide (r.kind < 3) && (decide (r.pt < 128) || r.pt == 0x80) && decide (r.ethA < 8) && decide (r.ethB < 8) &&
  decide (100 ≤ r.ac) && decide (r.ac ≤ 4000) &&
  (match r.kind with
   | 0 => rateOk r.rate && decide (64 ≤ r.width) && decide (r.width ≤ 8192) && decide (64 ≤ r.height) && decide (r.height ≤ 8192) &&
     decide (r.width * r.height ≤ 35651584)
   | 1 => decide (1 ≤ r.width) && decide (r.width ≤ 64) && (r.height == 125 || (r.height == 1000 && decide (r.width ≤ 8))) &&
     decide (r.rate < 2)
   | _ => rateOk r.rate && r.width == 0 && r.height == 0)

/-- Addressing of a path: port, VLAN, destination, UDP port, source. -/
structure PathAddr where
  port : Nat
  vlan : Nat
  dst  : Nat
  udp  : Nat
  src  : Nat
  deriving DecidableEq, Repr

/-- The paths of a record. -/
def FlowRec.paths (r : FlowRec) : List PathAddr :=
  ⟨r.ethA, r.vlanA, r.dstA, r.portA, r.srcA⟩ :: (if r.hasB then [⟨r.ethB, r.vlanB, r.dstB, r.portB, r.srcB⟩] else [])

/-- Two entries would match one packet (R212). -/
def FlowRec.clash (a b : FlowRec) : Bool :=
  (a.pt == b.pt || a.pt == 0x80 || b.pt == 0x80) && (a.ssrc == b.ssrc || a.ssrc == 0 || b.ssrc == 0) &&
  a.paths.any fun p => b.paths.any fun q =>
    p.port == q.port && p.vlan == q.vlan && p.dst == q.dst && p.udp == q.udp && (p.src == q.src || p.src == 0 || q.src == 0)

/-- The bytes of a record that may not change while an enabled channel uses the entry (R213). -/
def State.fixedBytes (v : State) (f : Nat) : List Byte :=
  v.bytesAt 0x6200 1 (64 * f) 1 ++ v.bytesAt 0x6200 1 (64 * f + 27) 1 ++ v.bytesAt 0x6200 1 (64 * f + 32) 8

/-- Entries that an enabled channel uses in any way that R213 names. -/
def State.entriesUsed (v : State) (c : Nat) : List Nat :=
  v.flowsUsed c ++ (if v.ch c 7 0xD = 0xFFFF then [] else [v.ch c 7 0xD])

/-- The checks of the Flow Table. -/
def State.checkFlows (o v : State) : Nat :=
  let on := v.flowsOn
  let kept := v.chansOn.filter o.chanOn
  firstCode [
    need (on.all fun f => (v.flowRec f).inRange) 0x06090030,
    need (on.all fun f => on.all fun g => f == g || !(v.flowRec f).clash (v.flowRec g)) 0x06040043,
    need (kept.all fun c => (o.entriesUsed c).all fun f => o.fixedBytes f == v.fixedBytes f) 0x08000022]

/-! ### Lanes and ports (R208, R209, R258) -/

/-- The FEC options of a mode (Table 10-1). -/
def fecOk (mode fec : Nat) : Bool :=
  match mode with
  | 1 => fec == 0
  | 2 => fec == 0 || fec == 2
  | 3 => fec == 0
  | 4 => decide (fec ≤ 2)
  | 5 => fec == 2
  | _ => true

/-- The checks of lane groups and ports. -/
def State.checkLanes (o v : State) : Nat :=
  let mode (s : State) (g : Nat) : Nat := s.nat 0x2100 (g + 1)
  let before := o.portList
  let named := ((v.flowsOn.filter fun f => (o.flowRec f).on).flatMap fun f =>
    (v.flowRec f).paths.map (·.port))
  let mirror := v.nat 0x2200 6
  let shares (g : Nat) : Bool := v.nat 0x2200 1 == 1 && mirror / 4 == g &&
    ((g == 2 && v.hasLower) || (g == 3 && v.hasUpper))
  firstCode [
    need (mode v 0 != 6 && mode v 1 != 6) 0x06040043,
    need ((List.range 4).all fun g => fecOk (mode v g) (v.nat 0x2100 (g + 5))) 0x06040043,
    need (decide (v.portList.length ≤ 8)) 0x06040043,
    need ((List.range 4).all fun g => mode o g == mode v g ||
      !(named.any fun p => (before[p]?).any fun x => x.1 == g)) 0x08000022,
    need (v.nat 0x2200 1 != 1 || v.linkGroup mirror) 0x06040043,
    need ((List.range 4).all fun g => !shares g || v.nat 0x2200 7 == v.nat 0x2300 7) 0x06040043,
    need (!(v.nat 0x2200 1 == 1 && ((v.hasLower && decide (8 ≤ mirror ∧ mirror < 8 + v.nat 0x2300 6)) ||
      (v.hasUpper && decide (12 ≤ mirror ∧ mirror < 12 + v.nat 0x2300 6))))) 0x06040043]

/-! ### Egress (R16, R231, R234, R239, R242-R249) -/

/-- Enabled streams. -/
def State.streamsOn (v : State) : List Nat := (List.range 256).filter v.strOn

/-- The pairs that an audio PID's source takes: an odd count gains a channel. -/
def pidChannels (w : Nat) : Nat := (audioSource w).2.2.2

/-- An audio source of an egress stream is in range and at a rate the stream carries: a serial port must be an input
with the slots named (R312). -/
def State.portSourceOk (v : State) (w : Nat) : Bool :=
  let a := audioSource w
  !a.1 || (decide (a.2.1 < 8) && v.ap a.2.1 1 == 1 && decide (a.2.2.1 + a.2.2.2 ≤ v.ap a.2.1 3))

/-- A used ST 302M source (R239). -/
def State.aesSourceOk (v : State) (w : Nat) : Bool :=
  let a := audioSource w
  decide (a.2.2.2 ≤ 8) && v.portSourceOk w && !(a.1 && v.nat 0x2200 1 == 1) &&
    (if a.1 then v.portFs a.2.1 == 48000 else (v.flowRec a.2.1).clock == 48000)

/-- The payload of a kind 2 packet, bytes (R242). -/
def State.audioPayload (v : State) (st : Nat) : Nat :=
  let w := v.str st 0x12
  v.sourceRate w * v.packetUs st / 1000000 * (audioSource w).2.2.2 * (if v.str st 0x19 = 0 then 2 else 3)

/-- The checks of one enabled stream. -/
def State.checkStream (v : State) (st : Nat) : Nat :=
  let kind := v.str st 2
  let pids := (List.range (v.str st 0xA)).map fun i => v.str st (0x12 + i)
  match kind with
  | 0 => firstCode [
      need (v.chanOn (v.str st 3)) 0x06040043,
      need (pids.all fun w => decide (1 ≤ pidChannels w) && decide (pidChannels w ≤ 64)) 0x06090030,
      need (pids.all v.aesSourceOk) 0x06040043]
  | 1 => need (v.chanOn (v.str st 3) && decide (96 ≤ v.str st 5) && decide (v.str st 5 ≤ 127)) 0x06040043
  | 2 =>
    let w := v.str st 0x12
    firstCode [
      need (decide (1 ≤ pidChannels w) && decide (pidChannels w ≤ 64)) 0x06090030,
      need (v.portSourceOk w && (v.sourceRate w == 48000 || v.sourceRate w == 96000)) 0x06040043,
      need (decide (v.audioPayload st ≤ 1440)) 0x06040043]
  | _ => 0

/-- P_s of a stream (R249). -/
def State.packetsOf (v : State) (st : Nat) : Nat :=
  if v.str st 2 = 0 then cdiv (v.vs st) 1316
  else cdiv (v.vs st) 1457 + 8 + (if v.isCanvas (v.str st 3) then v.gratRegions else 1)

/-- Sums of exact rates: fractions, as numerator and denominator. -/
def addFrac (x y : Nat × Nat) : Nat × Nat :=
  if x.2 = y.2 then (x.1 + y.1, x.2) else (x.1 * y.2 + y.1 * x.2, x.2 * y.2)
def sumFrac (l : List (Nat × Nat)) : Nat × Nat := l.foldl addFrac (0, 1)

/-- Packets per second of a kind 2 or 3 stream, exact, and RTP payload bytes of each. -/
def State.timedRate (v : State) (st : Nat) : (Nat × Nat) × Nat :=
  if v.str st 2 = 2 then ((1000000 / v.packetUs st, 1), v.audioPayload st)
  else
    let code := v.atl 0x2A00 3
    (if v.atl 0x2A00 1 = 0 then (0, 1) else (rasterNp (v.atl 0x2A00 2) * tfDen code, tfNum code), 1208)

/-- An entry's wire rate in bit/s, exact (R249). -/
def State.wireRate (v : State) (e : Dest) (jp : Nat) : Nat × Nat :=
  let st := e.stream
  if 2 ≤ v.str st 2 then
    let q := v.timedRate st
    (q.1.1 * 8 * (q.2 + 82), q.1.2)
  else
    let code := v.ch (v.str st 3) 0 7
    (8000000000 * ((v.vs st + 82 * v.packetsOf st) * tfDen code),
     1000000000 * tfNum code - guardNs jp (v.portRate e.port) * tfDen code)

/-- A stream's payload rate in bit/s, exact (R249). -/
def State.payloadRate (v : State) (st : Nat) : Nat × Nat :=
  if 2 ≤ v.str st 2 then
    let q := v.timedRate st
    (q.1.1 * 8 * q.2, q.1.2)
  else
    let code := v.ch (v.str st 3) 0 7
    (8 * v.vs st * tfDen code, tfNum code)

/-- Greatest common divisor of two frame periods, in units of 1/120,000 s, where every Tf is a whole number of them times
1 or 1,001; the periods as such units. -/
def tfUnits (code : Nat) : Nat := tfNum code * (120000 / tfDen code)

/-- Reserved spans of two entries could overlap (R248): some multiple of g lies within Δ of their ranks' distance. -/
def spansMeet (a b ja jb dl : Nat) : Bool :=
  if a = b then false
  else
    -- in units of 1/120,000 ns·Δ: g · 10^9 against (j_A − j_B) · Δ · 120,000
    let g := Nat.gcd (tfUnits a) (tfUnits b) * 1000000000
    let d := ((ja : Int) - jb).natAbs * dl * 120000
    let r := d % g
    decide (r < dl * 120000) || decide (g - r < dl * 120000)

/-- The checks of one port's entries. -/
def State.checkPort (v : State) (p : Nat) : Nat :=
  let l := v.ranked p
  let rate := v.portRate p
  let dl := stagger rate
  let on := l.filter fun e => v.strOn e.stream
  let paced := on.filter fun e => decide (v.str e.stream 2 ≤ 1)
  let code (e : Dest) : Nat := v.ch (v.str e.stream 3) 0 7
  let sum := sumFrac (on.map fun e => v.wireRate e l.length)
  let armed := match Tab.find? v.egress.armed p with
    | some x => gatesOf x.2.1
    | none => []
  firstCode [
    need (l.isEmpty || rate != 0) 0x06040043,
    need (l.all fun e => e.udpDst != 0 && e.udpSrc != 0) 0x06090030,
    need (decide ((l.length - 1) * dl < 262144)) 0x08000020,
    need (decide (sum.1 ≤ 1000000000 * rate * sum.2)) 0x08000020,
    need (v.listOpen p (v.gateList 0x6204 p (v.nat (0x4410 + p) 5)) && v.listOpen p (v.gateList 0x6203 p (v.nat (0x4410 + p) 4)) &&
      v.listOpen p armed) 0x08000020,
    need (paced.all fun x => paced.all fun y =>
      !spansMeet (code x) (code y) (rankOf l x.d) (rankOf l y.d) dl) 0x08000020]

/-- Every check of egress. -/
def State.checkEgress (v : State) : Nat :=
  firstCode ((v.streamsOn.map v.checkStream) ++ ((List.range 8).map v.checkPort) ++
    [let sum := sumFrac (v.streamsOn.map v.payloadRate)
     need (decide (sum.1 ≤ 384000000000 * sum.2)) 0x08000020])

/-! ### Pair (R161, R177) -/

/-- Enabled streams of kinds 0 and 1 of a channel. -/
def State.pacedStreams (v : State) (c : Nat) : Nat :=
  (v.streamsOn.filter fun st => decide (v.str st 2 ≤ 1) && v.str st 3 == c).length

/-- The limit of R161. -/
def State.checkPair (v : State) : Nat :=
  need (v.nat 0x2200 1 != 1 || v.chansOn.all fun c => decide (v.pacedStreams c ≤ 16)) 0x06040043

/-! ### Cascade (R186-R189, R201) -/

/-- The regions of a position form one rectangle of whole cells. -/
def State.memberRectangle (v : State) (p : Nat) : Bool :=
  let own := v.regionsOf p
  let m := v.memberCells p
  !own.isEmpty && own.length == (m.2.1 - m.1) * (m.2.2.2 - m.2.2.1)

/-- The Graticule meets R186. -/
def State.graticuleOk (v : State) : Bool :=
  let xs := v.gratX
  let ys := v.gratY
  let size := 2 ^ ctuLog (v.ch v.canvasChan 0 2) (v.chX v.canvasChan 0 1)
  let steps (l : List Nat) (least : Nat) : Bool := (l.zip (l.drop 1)).all fun x => decide (x.1 + least ≤ x.2)
  steps xs 256 && steps ys 128 && (xs.dropLast.all fun x => x % size == 0) && (ys.dropLast.all fun y => y % size == 0) &&
  decide (xs.getLastD 0 % 8 = 0 ∧ ys.getLastD 0 % 8 = 0 ∧ xs.getLastD 0 ≤ 32768 ∧ ys.getLastD 0 ≤ 17408) &&
  ((List.range v.gratRegions).all fun i => decide (v.ownerOf i < v.members)) &&
  (List.range v.members).all v.memberRectangle

/-- Links that a message from q to p crosses: link i joins positions i and i + 1; true upward (R183). `lost` is a ring
link that is lost. -/
def crossed (n : Nat) (ring : Bool) (lost : Option Nat) (q p : Nat) : List (Nat × Bool) :=
  let up := (List.range ((p + n - q) % n)).map fun k => ((q + k) % n, true)
  let down := (List.range ((q + n - p) % n)).map fun k => ((q + n - 1 - k) % n, false)
  if !ring then (if q < p then up else down)
  else match lost with
    | none => if up.length ≤ down.length then up else down
    | some x =>
      if up.length ≤ down.length then (if up.any fun l => l.1 == x then down else up)
      else (if down.any fun l => l.1 == x then up else down)

/-- Samples of every plane that position q exports to p in one frame (R195, R196). -/
def State.exportSamples (v : State) (q p chroma : Nat) : Nat :=
  ((v.regionsOf q).map fun i =>
    let r := v.regionAt i
    match Rect.meet ⟨r.x, r.y, r.w, r.h⟩ (v.marginRect p) with
    | some m => if chroma = 0 then m.w * m.h * 3 / 2 else 2 * m.w * m.h
    | none => 0).sum

/-- Payload rate of a link's lanes in bit/s. -/
def State.lanePayload (v : State) : Nat := v.nat 0x2300 6 * [5000000000, 8250000000, 10000000000].getD (v.nat 0x2300 7) 0

/-- The load of every link in both directions fits, with a link of a ring lost (R201). -/
def State.linkLoadOk (v : State) (c : Nat) (lost : Option Nat) : Bool :=
  let n := v.members
  let ring := v.nat 0x2300 5 == 1
  let code := v.ch c 0 7
  let pairs := (List.range n).flatMap fun q => ((List.range n).filter (· != q)).map fun p => (q, p)
  (List.range n).all fun i => [true, false].all fun up =>
    let hit (q p : Nat) : Bool := (crossed n ring lost q p).contains (i, up)
    let bands := ((pairs.filter fun x => hit x.1 x.2).map fun x => v.exportSamples x.1 x.2 (v.ch c 0 3)).sum * 10
    let subs := if (List.range n).any fun q => q != 0 && hit q 0 then v.ch c 6 2 * 1000 else 0
    decide (10 * (bands * tfDen code + (subs + 50000000) * tfNum code) ≤ 9 * v.lanePayload * tfNum code)

/-- Every member passes R188. -/
def State.canvasAdmitted (v : State) (c : Nat) : Bool :=
  let ring := v.nat 0x2300 5 == 1
  ((List.range v.members).all fun p =>
    let g := v.auCfgAt c p
    let m := v.marginRect p
    let luma := rate1001 g.width g.height g.rate
    let flows := ((v.regionsOf p).map fun i => (v.regionAt i).flow).eraseDups
    decide (luma ≤ 8000000000 * 1001) && decide (cdiv luma (engineRate * 1001) ≤ 16) &&
    decide ((flows.map fun f => let r := v.flowRec f; rate1001 r.width r.height r.rate).sum ≤ 10000000000 * 1001) &&
    decide (poolCount g.d (v.chX c 6 1) * poolBytes m.w m.h g.chroma ≤ 12884901888) &&
    decide (2 * g.cols * g.size * g.size * tfDen g.rate + 800 * 500 * tfDen g.rate ≤ tfNum g.rate * 500000000)) &&
  (if ring then v.linkLoadOk c none && (List.range v.members).all fun x => v.linkLoadOk c (some x) else v.linkLoadOk c none)

/-- Every member is present and reports the master's Survey value, as far as this unit sees (R188): a member that has sent
no report counts as equal (log 37). -/
def State.membersReady (s : State) : Bool :=
  s.pos != 0 ||
    ((List.range s.members).all fun q => (s.nat 0x2300 9).testBit q && !s.casc.lost.testBit q &&
      (q == 0 || match Tab.find? s.casc.lastReport q with
        | some m => field m 8 4 == s.survey.value
        | none => true))

/-- The checks of the cascade. -/
def State.checkCascade (o v : State) : Nat :=
  if v.nat 0x2300 1 ≠ 1 then 0
  else
    let c := v.canvasChan
    let on := v.chanOn c
    firstCode [
      need v.graticuleOk 0x06040043,
      need (v.chansOn.all fun d => d == c) 0x06040043,
      need (!on || v.canvasAdmitted c) 0x08000020,
      need (!on || (o.chanOn c && o.isCanvas c) || o.membersReady) 0x08000022]

/-! ### Serial audio (R300, R304, R312) -/

/-- Ports that are on. -/
def State.audioOn (v : State) : List Nat := (List.range 8).filter fun i => v.ap i 1 != 0

/-- The checks of one port that is on. That a word fits its slot is R299's; the code is the model's choice (log 128). -/
def State.audioPortOk (v : State) (i : Nat) : Bool :=
  let fs := v.portFs i
  let w := v.ap i 9
  let src := w / 0x40000000
  let n := w / 0x10000 % 0x4000
  decide (v.ap i 3 * v.ap i 4 * fs ≤ 512 * v.audioBase) && decide (fs % v.audioBase = 0) &&
  (v.ap i 2 == 2 || v.ap i 3 == 2) && decide (v.ap i 5 ≤ v.ap i 4) &&
  (v.ap i 1 != 2 ||
    (if src = 1 then
      let r := v.flowRec n
      r.on && r.kind == 1 && r.clock == fs && decide (r.ac + 250 ≤ v.ap i 0xA)
     else if src = 2 then
      decide (n < 8) && v.ap n 1 == 1 && v.portFs n == fs && decide (w / 0x100 % 0x100 < v.ap n 3) &&
        decide (2000000 + 350 * fs ≤ v.ap i 0xA * fs)
     else true))

/-- A serial input that is still named by an enabled stream or output port. -/
def State.audioNamed (v : State) (i : Nat) : Bool :=
  (v.streamsOn.any fun st => (v.str st 2 == 2 && v.str st 0x12 / 0x10000 == 0x4000 + i) ||
    (v.str st 2 == 0 && (List.range (v.str st 0xA)).any fun k => v.str st (0x12 + k) / 0x10000 == 0x4000 + i)) ||
  v.audioOn.any fun j => v.ap j 1 == 2 && v.ap j 9 / 0x10000 == 0x8000 + i

/-- The checks of the serial audio ports: first that no port that is named goes off. -/
def State.checkAudio (o v : State) : Nat :=
  firstCode [
    need ((List.range 8).all fun i => o.ap i 1 == 0 || v.ap i 1 != 0 || !v.audioNamed i) 0x08000022,
    need (v.audioOn.all v.audioPortOk) 0x06040043]

/-! ### Power (R398, R441) -/

/-- Idle takes no channel; Standby leaves nothing running, both from the request on (log 77); a memory test that is
suspended or running keeps channels, streams and Atlas off (R363, R398, R441). -/
def State.checkPower (o v : State) : Nat :=
  let st := v.nat 0x2000 2
  let next := v.power.transition.getD st
  let newStream := v.streamsOn.any fun x => !o.strOn x
  let newChan := v.chansOn.any fun c => !o.chanOn c
  let testing := v.nat 0x2F00 0x24 == 1 || v.nat 0x2F00 0x24 == 2
  firstCode [
    need ((st != 1 && next != 1) || v.chansOn.isEmpty) 0x08000022,
    need ((st != 2 && next != 2) || (v.chansOn.isEmpty && v.streamsOn.isEmpty && v.audioOn.isEmpty && v.nat 0x2200 1 == 0 &&
      v.nat 0x2300 1 == 0)) 0x08000022,
    need (!testing || (!newStream && !newChan)) 0x08000022]

/-- Every commit-time check. -/
def State.checkConfig (o v : State) : Nat :=
  firstCode ([State.checkPower o v, State.checkFlows o v, State.checkLanes o v, State.checkAudio o v, v.checkPair,
    State.checkCascade o v] ++ (v.chansOn.map v.checkChannel) ++
    [need v.groupsOk 0x06040043, need v.slotsOk 0x06040043, v.checkSums, v.checkEgress])

end Sys2Proof.Machine
end

