-- ==== Sys2Proof/Machine/Survey.lean ====
section
/-! DEFINITION. Survey.lean: the configuration image and its check value (R370-R372), and the host check (R369). -/

namespace Sys2Proof.Machine

/-! ### The configuration image (R370, R371) -/

/-- The number that the bytes of a value give, least significant first (R374). -/
def Ty.value (ty : Ty) (bs : List Byte) : Int :=
  if ty.signed then Machine.signed (8 * ty.size) (leNat bs) else leNat bs

/-- The bytes of a number, least significant first. -/
def Ty.bytes (ty : Ty) (v : Int) : List Byte := leBytes ty.size (wrapInt ty.size v)

/-- The sub-indices of a row at an index: those of four layers for the Insets and Legend layers (R158), of six operations
for an operation block (R398). -/
def ObjRow.subsAt (r : ObjRow) (idx : Nat) : List Nat :=
  let own := (List.range (r.subHi + 1 - r.subLo)).map (r.subLo + ·)
  let b := (place idx 1).base
  if b = 0x3008 ∨ b = 0x3009 then own.flatMap fun k => [k, k + 0x10, k + 0x20, k + 0x30]
  else if idx = 0x2F00 ∧ 0x10 ≤ r.subLo then own.flatMap fun k => (List.range 6).map fun j => k + 0x10 * j
  else own

/-- Insertion by sub-index. -/
def insertSub (x : Nat × ObjRow) : List (Nat × ObjRow) → List (Nat × ObjRow)
  | [] => [x]
  | y :: ys => if x.1 < y.1 then x :: y :: ys else y :: insertSub x ys

/-- Every object at an index with its row, by sub-index. -/
def objectsAt (idx : Nat) : List (Nat × ObjRow) :=
  ((rowsOf (place idx 1).base).flatMap fun r => (r.subsAt idx).map fun k => (k, r)).foldl (fun l x => insertSub x l) []

/-- The object belongs to a stream of kind 3. -/
def State.atlasStream (v : State) (idx : Nat) : Bool :=
  decide (0x2500 ≤ idx ∧ idx < 0x2600) && v.nat idx 2 == 3

/-- Indices of Table 18-3 that are excluded whole. -/
def unsurveyed (idx : Nat) : Bool :=
  decide (idx < 0x2000) || (decide (0x2101 ≤ idx) && decide (idx ≤ 0x2104)) ||
  (decide (0x2720 ≤ idx) && decide (idx < 0x2728)) || (decide (0x4710 ≤ idx) && decide (idx < 0x4718)) ||
  (decide (0x4410 ≤ idx) && decide (idx < 0x4418)) || (decide (0x2800 ≤ idx) && decide (idx ≤ 0x2812)) ||
  (decide (0x4800 ≤ idx) && decide (idx < 0x4810)) || (decide (0x2900 ≤ idx) && decide (idx ≤ 0x2908)) ||
  (decide (0x4900 ≤ idx) && decide (idx < 0x4908)) || (decide (0x2A00 ≤ idx) && decide (idx ≤ 0x2A1F)) ||
  [0x4A00, 0x2B00, 0x4B00, 0x4B01, 0x2C00, 0x2C10, 0x4C00, 0x4C01, 0x4C02, 0x2D00, 0x2D01, 0x2F00, 0x4E00, 0x2000,
    0x2400, 0x2600].contains idx

/-- Single objects of Table 18-3. -/
def unsurveyedObj (idx sub : Nat) : Bool :=
  (idx == 0x2E00) || (idx == 0x2200 && [2, 5, 6, 8, 0xC].contains sub) || (idx == 0x2300 && sub == 2) ||
  (idx == 0x4700 && (sub == 1 || sub == 2)) || (idx == 0x2700 && sub == 1) ||
  ((place idx sub).base == 0x3002 && sub == 7)

/-- An object is covered by Survey (R370). -/
def State.surveyed (v : State) (idx sub : Nat) (r : ObjRow) : Bool :=
  r.rw &&
  ((decide (0x2000 ≤ idx ∧ idx < 0x6000) && !unsurveyed idx && !unsurveyedObj idx sub && !v.atlasStream idx) ||
    (decide (0x6100 ≤ idx ∧ idx < 0x6200) && decide (2 ≤ sub ∧ sub ≤ 6)) ||
    (sub == 1 && (idx == 0x6200 || idx == 0x6202)))

/-- A stored byte as Survey feeds it: byte 0 bit [1] of a Destination record is fed as 0. -/
def State.surveyByte (v : State) (idx sub off : Nat) : Byte :=
  let b := v.byteAt idx sub off
  if idx = 0x6202 ∧ off % 32 = 0 then b &&& 0xFD else b

/-- What unit 0 feeds for one object (R371). -/
def State.surveyFeed (v : State) (idx sub : Nat) (r : ObjRow) : List Byte :=
  let value := if r.ty.numeric then r.ty.bytes (v.obj idx sub)
    else (List.range r.ty.size).map (v.surveyByte idx sub)
  beBytes 2 idx ++ beBytes 1 sub ++ beBytes 4 value.length ++ value

/-- The configuration image: covered objects in ascending index, then ascending sub-index. -/
def State.surveyImage (v : State) : List Byte :=
  (List.range 0x4203).flatMap fun i =>
    ((objectsAt (0x2000 + i)).filter fun x => v.surveyed (0x2000 + i) x.1 x.2).flatMap fun x =>
      v.surveyFeed (0x2000 + i) x.1 x.2

/-- The Survey value of a configuration. -/
def State.surveyOf (v : State) : Nat := crc32c v.surveyImage

/-! ### Writes, as they change the objects -/

/-- Objects that take a write as a command and always read 0 (R45, R177). -/
def isCommandObj (idx sub : Nat) : Bool :=
  (idx == 0x2200 && sub == 0xC) || ((place idx sub).base == 0x3002 && sub == 7)

/-- The objects after one write. -/
def State.putWrite (s : State) (w : HostWrite) : State :=
  match rowOf w.obj.idx w.obj.sub with
  | some r =>
    if isCommandObj w.obj.idx w.obj.sub then s
    else if r.ty.numeric then s.setObj w.obj.idx w.obj.sub (r.ty.value w.data)
    else s.putBytes w.obj.idx w.obj.sub (w.off.getD 0) w.data
  | none => s

/-- The objects after a list of writes, in order. -/
def State.putWrites (s : State) (ws : List HostWrite) : State := ws.foldl State.putWrite s

/-- The configuration after the first `k` pending commits, each at its target; accepted Frame writes that wait are part of
it (R381). -/
def State.afterPending (s : State) (k : Nat) : State :=
  let held := s.commit.held.foldl (fun v p => v.setObj (keyIdx p.1) (keySub p.1) p.2) s
  (s.commit.pending.take k).foldl (fun v p => v.putWrites p.writes) held

/-! ### The value in force (R372) -/

/-- Every pending commit's Survey value, computed anew. -/
def State.resurveyPending (s : State) : State :=
  { s with commit := { s.commit with
      pending := s.commit.pending.mapIdx fun i p => { p with survey := (s.afterPending (i + 1)).surveyOf } } }

/-- A Frame or Immediate object has changed; where it is covered, the image is computed anew, and its value comes into
force at the first decision at least 1 ms later (R372). -/
def State.surveyChanged (s : State) (idx sub : Nat) : State :=
  match rowOf idx sub with
  | none => s
  | some r =>
    if !s.surveyed idx sub r then s
    else
      let v := s.surveyOf
      let s := { s with survey := { s.survey with changes := s.survey.changes ++ [(s.now, v)] } }
      s.resurveyPending.count 0x2D00 2

/-! ### Host check (R369) -/

/-- The range that 0x2D01:01 to :03 name: index, sub-index, offset, length. -/
def State.checkRange (s : State) : Nat × Nat × Nat × Nat :=
  (s.nat 0x2D01 1 / 0x100 % 0x10000, s.nat 0x2D01 1 % 0x100, s.nat 0x2D01 2, s.nat 0x2D01 3)

/-- The result of a host check becomes visible: value, state, and a mismatch of kind 8. -/
def State.hostCheckEnds (s : State) (value : Nat) (expected : Nat) : State :=
  let s := { s with hostCheck := none }
  let s := ((s.setObj 0x2D01 5 0).setObj 0x2D01 6 value).setObj 0x2D01 7 (if value = expected then 2 else 3)
  s.checkValue 8 0xFF 0 expected value

/-- The size in bytes of an object that has an offset: of a Legend slot, by its geometry in force (R487). -/
def State.sizeOf (s : State) (idx sub : Nat) : Nat :=
  if isSlot idx ∧ sub = 1 then s.slotBytes (idx - 0x6100)
  else match rowOf idx sub with
    | some r => r.ty.size
    | none => 0

/-- Whether an object is a DOMAIN. -/
def isDomain (idx sub : Nat) : Bool :=
  match rowOf idx sub with
  | some r => (match r.ty with | .domain _ => true | _ => false)
  | none => false

/-- The effect of HOST_CHECK_START with its answer. -/
def State.hostCheckStart (s : State) : State × Nat :=
  let r := s.checkRange
  let len := r.2.2.2
  if s.hostCheck.isSome then (s, 0x08000022)
  else if len = 0 then (s.hostCheckEnds 0 (s.nat 0x2D01 4), 0)
  else if !indexExists r.1 then (s, 0x06020000)
  else if (rowOf r.1 r.2.1).isNone then (s, 0x06090011)
  else if !isDomain r.1 r.2.1 ∨ s.sizeOf r.1 r.2.1 < r.2.2.1 + len then (s, 0x06090030)
  else
    let s := { s with hostCheck := some ⟨r.1, r.2.1, r.2.2.1, len, s.nat 0x2D01 4⟩ }
    ((s.setObj 0x2D01 5 1).setObj 0x2D01 7 1, 0)

/-- A write meets the range of a running host check. -/
def State.checkLocked (s : State) (idx sub off len : Nat) : Bool :=
  match s.hostCheck with
  | some h => h.idx == idx && h.sub == sub && decide (off < h.off + h.len) && decide (h.off < off + len)
  | none => false

end Sys2Proof.Machine
end

