-- ==== Sys2Proof/Machine/Activate.lean ====
section
/-! DEFINITION. Activate.lean: what comes of a change of the configuration in force: channels, streams, flows, ports, links, the
pair, the cascade and the audio ports start and stop, and the admitted values are reported (R30, R40, R122, R132, R162,
R210, R213, R233, R305, R449, R488). -/

namespace Sys2Proof.Machine

/-! ### Admitted values (R29, R56, R84, R104, R245, R330, R346) -/

/-- The admitted values of an enabled channel. -/
def State.reportChannel (s : State) (c : Nat) : State :=
  let lv := (s.levelOf c).getD (0, 0, 0)
  let live := s.nat 0x2B00 3
  let mask := ((s.engines.bind fun t => Tab.find? t c).getD 0) &&& live
  let b := s.poolOf c
  let s := ((s.setObj (basic c 0) 9 lv.1).setObj (basic c 0) 0xA lv.2.1).setObj (basic c 0) 0xB lv.2.2
  let s := ((s.setObj (basic c 3) 1 (s.engineCount c)).setObj (basic c 3) 2 mask).setObj (basic c 3) 3 (s.rowLag c)
  let s := s.setObj (basic c 3) 4 (s.luma1001 c / 1001 : Nat)
  let s := (s.setObj (basic c 4) 2 (s.auCfg c).rh).setObj (basic c 4) 3 (s.auCfg c).rv
  let s := (s.setObj (basic c 5) 2 b.1).setObj (basic c 5) 6 b.2
  (s.setObj (basic c 6) 4 (s.ceilingOf c)).setObj (basic c 6) 5 (s.reserveOf c)

/-- The reports of a channel that has stopped read 0 again. -/
def State.clearChannel (s : State) (c : Nat) : State :=
  [(0, 9), (0, 0xA), (0, 0xB), (3, 1), (3, 2), (3, 3), (3, 4), (4, 2), (4, 3), (5, 2), (5, 6), (6, 4), (6, 5), (6, 9),
    (6, 0xB), (0xB, 1)].foldl (fun s k => s.setObj (basic c k.1) k.2 0)
    ((List.range 4).foldl (fun s j => s.setObj (basic c 9) (0x10 * j + 7) 0xFFFF) s)

/-- Pace rate and entry count of a stream (R246). -/
def State.reportStream (s : State) (st : Nat) : State :=
  let mine := s.dests.filter fun e => e.stream == st
  let rates := mine.map fun e => s.paceKbit st (s.ranked e.port).length (s.portRate e.port)
  let s := s.setObj (0x2500 + st) 0x1E mine.length
  s.setObj (0x2500 + st) 0x1D (if s.str st 2 ≤ 1 then rates.foldl max 0 else 0 : Nat)

/-- The sums in force, and every admitted value. -/
def State.reportAll (s : State) : State :=
  let s := s.chansOn.foldl State.reportChannel s
  let t := s.taskLoad
  let s := (s.setObj 0x4010 3 (s.analysisLoad / 1001 : Nat)).setObj 0x4011 1 s.poolSum
  let s := (s.setObj 0x4100 3 s.frameStore).setObj 0x2C00 4 s.auStore
  let s := (s.setObj 0x2C00 5 s.analysisStore).setObj 0x2B00 4 t.1
  let s := s.setObj 0x2B00 5 t.2
  let s := s.streamsOn.foldl State.reportStream s
  (List.range 8).foldl (fun s p =>
    s.setObj 0x4401 (0x11 + p) (if s.portRate p = 0 then 0 else guardNs (s.ranked p).length (s.portRate p) : Nat)) s

/-! ### Channels (R40, R45, R122, R132, R488) -/

/-- A channel starts with an IDR picture in slot n (R40). While an earlier run still has AUs to send, the new run waits behind it;
else it begins at once, with the initial α values in force (R119, R488). -/
def State.startChannel (s : State) (c n : Nat) : State :=
  let r := s.chan c
  let rate := s.ch c 0 7
  if r.running then s.setChan c { r with later := r.later ++ [⟨n, none, rate, []⟩] }
  else
    let al := (s.chX c 8 6, s.chX c 8 7)
    let s := s.setChan c { ChanRt.empty with
      running := true, firstSlot := n, nextSlot := n, rate := rate, alpha0 := al
      bufs := List.replicate (s.poolOf c).1 PoolBuf.empty, layers := List.replicate 4 LayerRt.empty, evals := r.evals }
    (s.setObj (expert c 8) 8 al.1).setObj (expert c 8) 9 al.2

/-- Every AU of a channel is complete and has left: packetised on the streams that send it, and no packet of it in a wheel. On a
member of a canvas its part of each has settled. -/
def State.channelSent (s : State) (c : Nat) : Bool :=
  ((s.chan c).aus.all fun a =>
    if a.cfg.canvas && !s.isMaster then a.settled || a.replaced
    else a.complete.isSome && (a.packetised || (s.streamsOf (s.atSlot a.cfg.rate a.slot) c a.slot).isEmpty)) &&
  s.egress.wheel.all fun x => x.chan != c

/-- A stopped channel whose last AU has been completed and has left frees its buffers, and its reports read 0 (R488). -/
def State.retire (s : State) (c : Nat) : State :=
  let r := s.chan c
  if r.running && !r.deciding && r.later.isEmpty && s.channelSent c then
    (s.setChan c { r with running := false, bufs := [], marks := [] }).clearChannel c
  else s

/-- The same for every channel. -/
def State.retireAll (s : State) : State := s.chans.foldl (fun s p => s.retire p.1) s

/-- The last run of a channel changes; one that has no slot left goes. -/
def ChanRt.onLastRun (r : ChanRt) (f : RunSpec → RunSpec) : ChanRt :=
  match r.later.getLast? with
  | some x =>
    let y := f x
    { r with later := r.later.dropLast ++ (if (match y.stop with | some k => decide (k ≤ y.first) | none => false) then [] else [y]) }
  | none =>
    let y := f ⟨r.firstSlot, r.stopSlot, r.rate, r.orders⟩
    { r with stopSlot := y.stop, orders := y.orders }

/-- A commit disables a channel at an instant: no slot of its grid from there on is decided (R488). -/
def State.stopChannel (s : State) (c : Nat) (t : Tick) : State :=
  (s.onChan c fun r => r.onLastRun fun x => { x with stop := some (slotFrom x.rate t) }).retire c

/-- A refresh that a commit orders for slot n: cause bits, and whether it is an IDR picture. -/
def State.order (s : State) (c n cause : Nat) (idr : Bool) : State :=
  s.onChan c fun r => r.onLastRun fun x => { x with orders := x.orders ++ [(n, cause, idr)] }

/-- What a commit orders for slot n of a channel that runs on: an IDR picture for new parameter sets (R122, R132), a forced
refresh (R45); and the Legend requests that it changes (R157). -/
def State.orderChanges (before s : State) (c n : Nat) (forced : Bool) : State :=
  let changed (i k : Nat) : Bool := before.obj i k != s.obj i k
  let layout := s.isCanvas c && ((List.range 0x13).any (fun k => changed 0x2310 (k + 1)) ||
    (List.range 0x40).any (fun k => changed 0x2311 (k + 1)))
  let sets := changed (basic c 6) 2 || changed (expert c 8) 3 || changed (basic c 2) 1 ||
    [7, 8, 9, 0xA].any (changed (basic c 7)) || layout
  let s := State.noteRequests before s c n
  let s := if sets then s.order c n 32 true else s
  if forced then s.order c n 4 (s.ch c 2 1 == 0) else s

/-- Channels start, stop and take their orders at an instant. `forced` names the channels with a forced refresh. -/
def State.switchChannels (before s : State) (t : Tick) (forced : List Nat) : State :=
  (List.range 64).foldl (fun s c =>
    let n := slotFrom (s.ch c 0 7) t
    if before.chanOn c && !s.chanOn c then s.stopChannel c t
    else if !before.chanOn c && s.chanOn c then
      (State.orderChanges s (s.startChannel c n) c n (forced.contains c)).pairChannel c
    else if s.chanOn c then State.orderChanges before s c n (forced.contains c)
    else s) s

/-! ### Streams (R233, R238, R242, R243) -/

/-- What PAT and PMT say of a stream: kind, channel, PIDs used. -/
def State.psiObjs (s : State) (st : Nat) : List Nat :=
  [2, 3, 0xA, 0xB, 0xC].map (s.str st) ++ (List.range (s.str st 0xA)).map fun i => s.str st (0xD + i)

/-- A stream that has not been enabled. -/
def StreamRt.empty : StreamRt := ⟨[], [], [], none, none⟩

/-- The present run of a stream ends before a slot or packet index (R233). -/
def StreamRt.endRun (r : StreamRt) (k : Nat) : StreamRt :=
  { r with runs := r.runs.mapIdx fun i x => if i = 0 ∧ x.stop = none then { x with stop := some k } else x }

/-- A run of a stream begins at an instant, at its initial sequence number where the stream is enabled with it (R233). -/
def State.startStream (s : State) (st : Nat) (t : Tick) (restart : Bool) : State :=
  let n := s.streamSlot st t
  let r := (s.stream? st).getD StreamRt.empty
  let run : StreamRun := ⟨s.str st 2, s.str st 3, n, none, restart⟩
  let same := match r.runs.head? with
    | some x => x.kind == run.kind && x.chan == run.chan
    | none => false
  let s := s.setStream st { r with
    runs := run :: r.runs.take 3, psi := (t, s.nat 0x2F00 7) :: r.psi.take 7
    counted := if same then r.counted else none, sentSlot := if same then r.sentSlot else none }
  if !restart then s else s.setObj (0x2500 + st) 0x1C (if s.str st 2 ≤ 1 then s.str st 6 else n % 0x10000)

/-- The present run of a stream ends at an instant, by the configuration it ran under. -/
def State.stopStream (before s : State) (st : Nat) (t : Tick) : State :=
  match s.stream? st with
  | some r => s.setStream st (r.endRun (before.streamSlot st t))
  | none => s

/-- Streams start and stop at an instant, change to another kind or channel, and note the epoch of a change to their tables. -/
def State.switchStreams (before s : State) (t : Tick) : State :=
  (List.range 256).foldl (fun s st =>
    if before.strOn st && !s.strOn st then State.stopStream before s st t
    else if !before.strOn st && s.strOn st then s.startStream st t true
    else if s.strOn st ∧ (before.str st 2 ≠ s.str st 2 ∨ before.str st 3 ≠ s.str st 3) then
      (State.stopStream before s st t).startStream st t false
    else if s.strOn st ∧ before.psiObjs st ≠ s.psiObjs st then
      match s.stream? st with
      | some r => s.setStream st { r with psi := (t, s.nat 0x2F00 7) :: r.psi.take 7 }
      | none => s
    else s) s

/-! ### Flows (R210, R211, R213) -/

/-- N_t of an entry: the first slot of its grid at or after an instant; for audio the first sample index. -/
def FlowRec.slotFromT (r : FlowRec) (t : Tick) : Nat :=
  if r.kind = 1 then cdiv (t * r.clock) perSec else slotFrom r.rate t

/-- The entries that differ between two configurations and are enabled in one of them. -/
def State.changedFlows (a b : State) : List Nat :=
  (a.flowsOn ++ b.flowsOn).eraseDups.filter fun f => a.flowRec f != b.flowRec f

/-- A change of an entry at an instant is noted once: packets of slots before N_t are handled by the old fields, later ones by the
new (R213). -/
def State.noteMove (s : State) (f : Nat) (old new : FlowRec) (t : Tick) : State :=
  let r := s.flow f
  if r.old.any fun o => o.target == t then s
  else
    let move : OldAddress := ⟨old, new, (if new.on then new else old).slotFromT t, t, false⟩
    s.setFlow f { r with old := r.old.drop (r.old.length - 31) ++ [move] }

/-- An entry is enabled, or its media change: the numbers, buckets and runs of the flow begin anew from slot N_t on. What came for
earlier slots stays (R488). -/
def FlowRt.restart (r : FlowRt) (n : Nat) (sameClock : Bool) : FlowRt :=
  { r with bucketA := none, bucketB := none, lastA := none, lastB := none, heard := false, held := [], counted := 0, run := 0
           lastFrame := none, audioNext := if sameClock then r.audioNext else none, since := n }

/-- Entries start, stop and change at an instant; groups are joined and left as they need. -/
def State.switchFlows (before s : State) (t : Tick) : State :=
  let s := (State.changedFlows before s).foldl (fun s f =>
    let old := before.flowRec f
    let new := s.flowRec f
    let was := before.flowState f
    let s := s.noteMove f old new t
    let anew := !old.on || old.kind != new.kind || old.rate != new.rate || old.width != new.width || old.height != new.height
    let s := if new.on && anew then s.setFlow f ((s.flow f).restart (new.slotFromT t) (old.clock == new.clock)) else s
    s.flowStateEvent f was) s
  s.settleGroups

/-- A commit is accepted that changes entries: its changes are noted, and the new groups of enabled entries are joined at once
(R213). `base` is the configuration that the commit meets, `after` the one it leaves. -/
def State.announceMoves (s base after : State) (t : Tick) : State :=
  ((State.changedFlows base after).foldl (fun s f => s.noteMove f (base.flowRec f) (after.flowRec f) t) s).settleGroups

/-- The commit of a target is withdrawn: its changes are noted no more, and its new groups are left again. -/
def State.withdrawMoves (s : State) (t : Tick) : State :=
  (s.flows.foldl (fun s p =>
    if p.2.old.any fun o => o.target == t then s.setFlow p.1 { p.2 with old := p.2.old.filter fun o => o.target != t } else s)
    s).settleGroups

/-! ### Pair, cascade, audio ports -/

/-- The pair starts, stops, or exchanges its roles (R162, R177). -/
def State.switchPair (before s : State) (t : Tick) (swap : Bool) : State :=
  if before.paired && !s.paired then s.pairStop
  else if !before.paired && s.paired then s.pairStart
  else if swap && s.paired then s.roleSwap t
  else s

/-- The cascade starts or stops. -/
def State.switchCascade (before s : State) : State :=
  if s.nat 0x2300 1 = 0 then (if before.nat 0x2300 1 = 0 then s else s.cascadeStop)
  else if [1, 4, 5].any (fun k => before.nat 0x2300 k != s.nat 0x2300 k) then s.cascadeStart
  else s

/-- Audio ports start or stop at an instant (R305). -/
def State.switchAudio (before s : State) (t : Tick) : State :=
  (List.range 8).foldl (fun s i =>
    if before.ap i 1 = s.ap i 1 then s
    else if s.ap i 1 = 0 then
      { s with audio := { s.audio with ports := Tab.erase s.audio.ports i } }.setObj (0x2900 + i) 0xB 0
    else
      let st := if s.ap i 8 = 0 then some (startAfter s.audioBase (msT 1 + t)).1 else none
      (s.setPort i (AudioPort.fresh st s.now)).setObj (0x2900 + i) 0xB 1) s

/-! ### Together -/

/-- What network, lanes and cascade make of a new configuration, from an instant on. -/
def State.switchNet (before s : State) (t : Tick) : State :=
  let s := State.switchFlows before s t
  let s := (s.configurePorts before.portList).configureLinks
  let s := if s.portList = before.portList then s else s.ptpReconfigure
  State.switchCascade before s

/-- What runs on a clock starts and stops (R264). -/
def State.switchRun (before s : State) (t : Tick) (forced : List Nat) (swap : Bool) : State :=
  let s := State.switchPair before s t swap
  let s := State.switchChannels before s t forced
  let s := State.switchStreams before s t
  (State.switchAudio before s t).configurePlls

/-- The configuration with nothing in it, against which a start compares. -/
def State.bare (s : State) : State := { s with dict := [], bytes := [], atlas := AtlasSt.reset }

/-- The effect of HOLD_RELEASE (R449): the time state reaches 2 or the module is grandmaster; what the configuration in force
enables starts as a commit would start it, 1 ms from now, and a cascade member waits for a join. -/
def State.holdRelease (s : State) : State :=
  let master := s.ptpRole != 0 && s.ptp.parent.isNone
  if !s.power.hold ∨ s.power.stage ≠ 4 ∨ ¬(s.timeState = 2 ∨ master) then s
  else
    let s := { s with power := { s.power with hold := false } }
    let s := State.switchRun s.bare s (msT 1 + s.now) [] false
    let s := if s.inCascade ∧ s.pos ≠ 0 then s.onCasc fun x => { x with masterLost := true } else s
    if s.atl 0x2A00 1 = 1 then s.atlasStart s.atlas.inForce [] else s

end Sys2Proof.Machine
end

