-- ==== Sys2Proof/Machine/Commit.lean ====
section
/-! DEFINITION. Commit.lean: commit sessions, the checks of a write and of a commit, and how a commit comes into force
(R379-R385, R206). -/

namespace Sys2Proof.Machine

/-! ### A client's own fields and session (R379, R401) -/

/-- A client's commit fields before it writes any. -/
def ClientRegs.fresh (c : Client) : ClientRegs := ⟨c, 0, 0, 0, 0, 0, 0, 0⟩

/-- A client's commit fields. -/
def State.regsOf (s : State) (c : Client) : ClientRegs :=
  (s.commit.regs.find? fun r => r.client == c).getD (ClientRegs.fresh c)

/-- A client's commit fields change. -/
def State.onRegs (s : State) (c : Client) (f : ClientRegs → ClientRegs) : State :=
  { s with commit := { s.commit with regs := f (s.regsOf c) :: s.commit.regs.filter fun r => r.client != c } }

/-- What the module holds of commits changes. -/
def State.onCommit (s : State) (f : CommitSt → CommitSt) : State := { s with commit := f s.commit }

/-- A client's open session. -/
def State.sessionOf (s : State) (c : Client) : Option Session := s.commit.sessions.find? fun x => x.client == c

/-- Without a client's session. -/
def State.dropSession (s : State) (c : Client) : State :=
  s.onCommit fun x => { x with sessions := x.sessions.filter fun y => y.client != c }

/-- A client's session takes a value. -/
def State.putSession (s : State) (x : Session) : State :=
  (s.dropSession x.client).onCommit fun y => { y with sessions := y.sessions ++ [x] }

/-- A unit holds this many sessions (R379), and this many pending commits (R381). -/
def sessionLimit : Nat := 4
def pendingLimit : Nat := 8

/-- A write of a non-zero identifier opens the session. -/
def State.openSession (s : State) (c : Client) (ident : Nat) : State × Nat :=
  let busy := match s.sessionOf c with
    | some x => !x.writes.isEmpty
    | none => decide (sessionLimit ≤ s.commit.sessions.length)
  if busy then (s, 0x08000022)
  else ((s.putSession ⟨c, ident, [], s.now⟩).onRegs c fun r => { r with ident := ident, status := 1 }, 0)

/-- A write of 0 abandons the session. -/
def State.abandonSession (s : State) (c : Client) : State :=
  let open_ := (s.sessionOf c).isSome
  (s.dropSession c).onRegs c fun r => { r with ident := 0, status := if open_ then 0 else r.status }

/-- The effect of SESSION_TIMEOUT: 60 s after a session's last write. -/
def State.sessionTimeout (s : State) (c : Client) : State :=
  match s.sessionOf c with
  | none => s
  | some x =>
    let s := s.until (secT 60 + x.last)
    ((s.dropSession c).onRegs c fun r => { r with status := 0 }).raiseUnit 0x0803 x.ident

/-! ### The checks of one write (R374, R375, R379, R487) -/

/-- What type, existence, access, length and range say of a write. -/
def State.typeCode (s : State) (w : HostWrite) : Nat :=
  match rowOf w.obj.idx w.obj.sub with
  | none =>
    if !indexExists w.obj.idx then 0x06020000
    else if w.obj.sub = 0 ∧ hasSub00 w.obj.idx then 0x06010002 else 0x06090011
  | some r =>
    if !r.rw then 0x06010002
    else match r.ty with
    | .vstr => if w.data.length ≤ 32 then 0 else 0x06070010
    | .domain _ => if w.off.getD 0 + w.data.length ≤ s.sizeOf w.obj.idx w.obj.sub then 0 else 0x06090030
    | .octets n =>
      (match w.off with
       | none => if w.data.length = n then 0 else 0x06070010
       | some o => if o + w.data.length ≤ n then 0 else 0x06090030)
    | ty =>
      if w.data.length ≠ ty.size then 0x06070010
      else if r.rng.has (ty.value w.data) then 0 else 0x06090030

/-- A cascade or canvas object of a member that takes no direct write while the cascade is formed (R206). -/
def State.memberLocked (s : State) (idx : Nat) : Bool :=
  s.inCascade && s.pos != 0 && decide (2 ≤ s.nat 0x2300 8) && decide (0x2300 ≤ idx ∧ idx < 0x2320)

/-- What the state of the moment says of a Staged write (R154, R301). -/
def State.stagedCode (s : State) (o : Obj) : Nat :=
  let audio := decide (0x2900 ≤ o.idx ∧ o.idx < 0x2908) && [2, 3, 4, 5, 6, 7, 9, 0xA].contains o.sub ||
    decide (0x4900 ≤ o.idx ∧ o.idx < 0x4908) && [3, 4].contains o.sub
  if audio ∧ s.ap (o.idx % 0x100) 1 ≠ 0 then 0x08000022
  else if isSlot o.idx ∧ 2 ≤ o.sub ∧ o.sub ≤ 5 ∧ s.slotBusy (o.idx - 0x6100) then 0x08000022
  else 0

/-- A write of a record window reaches the record that the window shows at that moment (R231, R211). -/
def State.throughWindow (s : State) (w : HostWrite) : HostWrite :=
  if w.obj = ⟨0x2400, 2⟩ then ⟨⟨0x6200, 1⟩, some (64 * s.nat 0x2400 1 + w.off.getD 0), w.data⟩
  else if w.obj = ⟨0x2600, 2⟩ then ⟨⟨0x6202, 1⟩, some (32 * s.nat 0x2600 1 + w.off.getD 0), w.data⟩
  else w

/-- Two writes to the same object, or to the same range of it. -/
def sameWrite (a b : HostWrite) : Bool :=
  a.obj == b.obj && a.off.getD 0 == b.off.getD 0 && a.data.length == b.data.length

/-- A Staged write that has passed its checks is held in the client's session; it replaces an earlier one. -/
def State.holdWrite (s : State) (x : Session) (w : HostWrite) : State :=
  let w := s.throughWindow w
  s.putSession { x with writes := (x.writes.filter fun y => !(sameWrite y w)) ++ [w], last := s.now }

/-! ### The checks of a commit (R380, R381) -/

/-- Bytes of DOMAIN data in a list of writes. -/
def domainBytes (ws : List HostWrite) : Nat :=
  (ws.map fun w => if isDomain w.obj.idx w.obj.sub then w.data.length else 0).sum

/-- The configuration after every pending commit. -/
def State.last (s : State) : State := s.afterPending s.commit.pending.length

/-- The writes ask for a role swap (R177). -/
def asksSwap (ws : List HostWrite) : Bool := ws.any fun w => w.obj == ⟨0x2200, 0xC⟩ && w.data == [1]

/-- The channels whose refresh the writes force (R45). -/
def forcedChannels (ws : List HostWrite) : List Nat :=
  (ws.filter fun w => (place w.obj.idx w.obj.sub).base == 0x3002 && w.obj.sub == 7 && w.data == [1]).map
    fun w => (place w.obj.idx w.obj.sub).inst

/-- What R381 says of a list of writes with a target: 0, or the abort code. -/
def State.judgeCommit (s : State) (ws : List HostWrite) (target : Tick) : Nat :=
  if target < msT 1 + s.now ∨ s.commit.pending.any (fun p => decide (target < p.target)) then 0x08000022
  else if secT 3600 + s.now < target then 0x06090030
  else if pendingLimit ≤ s.commit.pending.length ∨ s.commit.relay.isSome then 0x08000022
  else if 4096 < ws.length ∨ 4194304 < domainBytes ws then 0x08000020
  else if asksSwap ws ∧ !s.swapOk then 0x08000022
  else State.checkConfig s.last (s.last.putWrites ws)

/-- The epoch of a commit (R383): as named, or the next one. -/
def State.epochFor (s : State) (named : Nat) : Nat :=
  if named ≠ 0 then named
  else
    let e := ((s.commit.pending.getLast?.map (·.epoch)).getD (s.nat 0x2F00 7) + 1) % 0x100000000
    if e = 0 then 1 else e

/-- A commit becomes pending, with its epoch and its Survey value (R372, R383). -/
def State.enrol (s : State) (c : Option Client) (ident target epoch : Nat) (ws : List HostWrite) (relayed : Bool) :
    State :=
  let p : PendingCommit := ⟨c, ident, target, s.epochFor epoch, ws, (s.last.putWrites ws).surveyOf, relayed⟩
  (s.onCommit fun x => { x with pending := x.pending ++ [p] }).count 0x2D00 2

/-- The latest pending commit is accepted: moved flows join their new groups (R213). -/
def State.accepted (s : State) : State :=
  match s.commit.pending.getLast? with
  | none => s
  | some p => s.announceMoves (s.afterPending (s.commit.pending.length - 1)) s.last p.target

/-- A write of a cascade or canvas object, or of an object of the canvas channel. -/
def State.canvasWrite (s : State) (w : HostWrite) : Bool :=
  let p := place w.obj.idx w.obj.sub
  (decide (0x2300 ≤ w.obj.idx ∧ w.obj.idx < 0x2320)) ||
  (decide (0x3000 ≤ p.base ∧ p.base < 0x3040 ∨ 0x5000 ≤ p.base ∧ p.base < 0x5040) && p.inst == s.canvasChan)

/-- A canvas commit at the master of a formed canvas: it is relayed, whatever 0x2F00:0B says (R206, log 126). -/
def State.canvasCommit (s : State) (ws : List HostWrite) : Bool :=
  s.isMaster && s.canvasOn && decide (2 ≤ s.nat 0x2300 8) && ws.any s.canvasWrite

/-- An implicit commit of one write (R380); its target is too near for a relay. -/
def State.implicitCommit (s : State) (c : Client) (w : HostWrite) : State × Nat :=
  let wholeOnly := w.obj = ⟨0x2200, 1⟩ ∨ w.obj = ⟨0x2200, 7⟩ ∨ s.canvasCommit [w]
  let target := msT 1 + s.now
  let code := if wholeOnly then 0x08000022 else s.judgeCommit [s.throughWindow w] target
  if code ≠ 0 then (s, code)
  else (((s.enrol (some c) 0 target 0 [s.throughWindow w] false).accepted).onRegs c fun r => { r with status := 2 }, 0)

/-- A client's commit is turned down: its session stays open (R381). -/
def State.turnDown (s : State) (c : Client) (code : Nat) : State :=
  s.onRegs c fun r => { r with status := 4, abort := code }

/-- A client's commit is accepted: its session closes (R381). -/
def State.closeSession (s : State) (c : Client) : State :=
  (s.dropSession c).onRegs c fun r => { r with status := 2 }

/-! ### The commit record (Table 19-2) -/

/-- One entry of a commit record. -/
def entryOf (w : HostWrite) : List Byte :=
  beBytes 2 w.obj.idx ++ beBytes 1 w.obj.sub ++ [0] ++ beBytes 4 (w.off.getD 0) ++ beBytes 4 w.data.length ++
    fit (cdiv w.data.length 4 * 4) w.data

/-- The record of a commit. -/
def commitRecord (ident target epoch : Nat) (ws : List HostWrite) : List Byte :=
  beBytes 4 ident ++ beBytes 6 (tickSecs target) ++ beBytes 4 (tickNanos target) ++ beBytes 4 epoch ++
    beBytes 2 ws.length ++ zeros 4 ++ ws.flatMap entryOf

/-- `n` entries of a record; none where the bytes do not hold them. -/
def readEntries : Nat → List Byte → Option (List HostWrite)
  | 0, [] => some []
  | 0, _ :: _ => none
  | n + 1, bs =>
    let len := field bs 8 4
    let size := 12 + cdiv len 4 * 4
    if bs.length < size then none
    else
      let o : Obj := ⟨field bs 0 2, field bs 2 1⟩
      let off := if isDomain o.idx o.sub then some (field bs 4 4) else none
      (readEntries n (bs.drop size)).map fun ws => ⟨o, off, slice bs 12 len⟩ :: ws

/-- A record read: identifier, target, epoch, writes. -/
def readRecord (bs : List Byte) : Option (Nat × Tick × Nat × List HostWrite) :=
  if bs.length < 24 then none
  else (readEntries (field bs 18 2) (bs.drop 24)).map fun ws =>
    (field bs 0 4, secT (field bs 4 6) + nsT (field bs 10 4), field bs 14 4, ws)

/-- A Frame object of a canvas channel in a canvas: a relayed commit may hold it (25_bring_up_examples.md, the cascade canvas;
log 129). -/
def State.canvasFrame (s : State) (w : HostWrite) : Bool :=
  let p := place w.obj.idx w.obj.sub
  s.inCascade && s.canvasOn && (rowOf w.obj.idx w.obj.sub).any (fun r => r.apply == .frame) && p.inst == s.canvasChan &&
    decide (0x3000 ≤ p.base ∧ p.base < 0x3040 ∨ 0x5000 ≤ p.base ∧ p.base < 0x5040)

/-- An enabled stream of kind 2 takes its delay from a channel (R242). -/
def State.timesAudio (s : State) (c : Nat) : Bool := s.streamsOn.any fun st => s.str st 2 == 2 && s.str st 3 == c

/-- A Frame write of a channel is barred: the channel is enabled, or paces audio (R17, R34, R242). -/
def State.frameBarred (s : State) (w : HostWrite) : Bool :=
  let p := place w.obj.idx w.obj.sub
  let pacing := (p.base == 0x3001 && w.obj.sub == 1) || (p.base == 0x3000 && w.obj.sub == 7)
  s.chanOn p.inst || (pacing && s.timesAudio p.inst)

/-- What a commit says of the Frame writes that it holds: their channel stays disabled until it comes into force. -/
def State.heldFrames (s : State) (ws : List HostWrite) : Nat :=
  need (!(ws.any fun w => s.canvasFrame w && s.last.frameBarred w)) 0x08000022

/-- The checks of every write of a record, as though it had been written locally (R206). -/
def State.recordCode (s : State) (ws : List HostWrite) : Nat :=
  firstCode ((ws.map fun w =>
    let staged := match rowOf w.obj.idx w.obj.sub with
      | some r => r.apply == .staged || s.canvasFrame w
      | none => true
    firstCode [s.typeCode w, need staged 0x08000022, s.stagedCode w.obj]) ++ [s.heldFrames ws])

/-! ### Relay on a cascade (R206, R385) -/

/-- Two frame periods, of the canvas channel or of the slowest enabled channel. -/
def State.relayAhead (s : State) : Tick :=
  if s.canvasOn then t0 (s.ch s.canvasChan 0 7) 2
  else (s.chansOn.map fun c => t0 (s.ch c 0 7) 2).foldl max 0

/-- A member that a relayed commit cannot reach. -/
def State.memberAway (s : State) (q : Nat) : Bool :=
  !(s.nat 0x2300 9).testBit q || s.casc.lost.testBit q

/-- A relayed commit is withdrawn: it is no longer pending, and its client is told. -/
def State.relayFails (s : State) (code : Nat) : State :=
  match s.commit.relay with
  | none => s
  | some r =>
    let s := s.onCommit fun x => { x with relay := none, pending := x.pending.filter fun p => !p.relayed }
    (s.turnDown r.client code).confirm r.client code

/-- A commit that no longer hangs on votes. -/
def PendingCommit.local_ (p : PendingCommit) : PendingCommit := { p with relayed := false }

/-- Every vote is in: the commit is accepted, and its client is told. -/
def State.relayPasses (s : State) : State :=
  match s.commit.relay with
  | none => s
  | some r =>
    let s := (s.onCommit fun x => { x with relay := none, pending := x.pending.map PendingCommit.local_ }).accepted
    let own := (s.sessionOf r.client).any fun x => x.ident == r.ident
    (if own then s.closeSession r.client else s.onRegs r.client fun x => { x with status := 2 }).confirm r.client 0

/-- A member lost while its vote is missing counts as rejecting. -/
def State.relayReview (s : State) : State :=
  match s.commit.relay with
  | none => s
  | some r => if r.waiting.any s.memberAway then s.relayFails 0x08000022 else s

/-- The master executes a relayed commit: it checks it itself, and sends it to every member. No answer yet: none. -/
def State.relayExecute (s : State) (x : Session) (target epoch : Nat) : State × Option Nat :=
  let code := firstCode [need (s.isMaster && decide (s.now + s.relayAhead ≤ target)) 0x08000022,
    need (!(s.others.any s.memberAway)) 0x08000022, s.heldFrames x.writes, s.judgeCommit x.writes target]
  if code ≠ 0 then (s.turnDown x.client code, some code)
  else
    let s := s.enrol (some x.client) x.ident target epoch x.writes true
    let s := s.onCommit fun y => { y with relay := some ⟨x.client, x.ident, s.others⟩ }
    let body := commitRecord x.ident target epoch x.writes
    let s := s.others.foldl (fun s q => s.sendTo q 0x18 0xFF 0 body) s
    if s.others.isEmpty then (s.relayPasses, none) else (s, none)

/-- A commit that comes whole in a record: the Exfer commit message (R381, R385). No answer yet: none. -/
def State.commitFromRecord (s : State) (c : Client) (bs : List Byte) : State × Option Nat :=
  match readRecord bs with
  | none => (s, some 0x06070010)
  | some (ident, target, epoch, ws) =>
    let ws' := ws.map s.throughWindow
    let first := firstCode [s.recordCode ws, need (ws.all fun w => !s.memberLocked w.obj.idx) 0x08000022]
    if first = 0 ∧ s.canvasCommit ws' then s.relayExecute ⟨c, ident, ws', s.now⟩ target epoch
    else
      let code := firstCode [first, s.judgeCommit ws' target]
      if code ≠ 0 then (s.turnDown c code, some code)
      else (((s.enrol (some c) ident target epoch ws' false).accepted).onRegs c fun r => { r with status := 2 }, some 0)

/-- The effect of RELAYED_COMMIT on a member: the check of a local commit, and the vote. -/
def State.relayedCommit (s : State) (msg : List Byte) : State :=
  let t := s.takeCasc 0x18 msg
  let s := t.1
  if !t.2 ∨ s.isMaster ∨ msgFrom msg ≠ 0 then s
  else
    let vote (ident code : Nat) := beBytes 4 ident ++ beBytes 1 (b2n (code != 0)) ++ zeros 3 ++ beBytes 4 code
    let body := slice msg 8 (msg.length - 12)
    match readRecord body with
    | none => s.sendTo 0 0x19 0xFF 0 (vote (field body 0 4) 0x06070010)
    | some (ident, target, epoch, ws) =>
      let code := firstCode [s.recordCode ws, s.judgeCommit ws target]
      let s := if code = 0 then (s.enrol none ident target epoch ws true).accepted else s
      s.sendTo 0 0x19 0xFF 0 (vote ident code)

/-- The effect of COMMIT_VOTE at the master. -/
def State.commitVote (s : State) (msg : List Byte) : State :=
  let t := s.takeCasc 0x19 msg
  let s := t.1
  match s.commit.relay with
  | none => s
  | some r =>
    if !t.2 ∨ field msg 8 4 ≠ r.ident ∨ !r.waiting.contains (msgFrom msg) then s
    else if field msg 12 1 % 2 = 1 then s.relayFails (field msg 16 4)
    else
      let w := r.waiting.filter (· != msgFrom msg)
      let s := s.onCommit fun x => { x with relay := some { r with waiting := w } }
      if w.isEmpty then s.relayPasses else s

/-! ### Execute and withdraw (R381, R384) -/

/-- A write of 1 to 0x2F00:05. No answer yet: none. -/
def State.execute (s : State) (c : Client) : State × Option Nat :=
  match s.sessionOf c with
  | none => (s, some 0x08000022)
  | some x =>
    let r := s.regsOf c
    let target := secT r.secs + nsT r.nanos
    if r.relay = 1 ∨ s.canvasCommit x.writes ∨ x.writes.any s.canvasFrame then s.relayExecute x target r.epoch
    else
      let code := s.judgeCommit x.writes target
      if code ≠ 0 then (s.turnDown c code, some code)
      else (((s.enrol (some c) x.ident target r.epoch x.writes false).accepted).closeSession c, some 0)

/-- A write of an identifier to 0x2F00:0C. -/
def State.withdraw (s : State) (ident : Nat) : State × Nat :=
  match s.commit.pending.getLast? with
  | none => (s, 0x08000022)
  | some p =>
    if ident = 0 ∨ p.ident ≠ ident ∨ p.target < msT 1 + s.now ∨ s.commit.relay.isSome then (s, 0x08000022)
    else
      let s := (s.onCommit fun x => { x with pending := x.pending.dropLast }).withdrawMoves p.target
      match p.client with
      | some c => (s.onRegs c fun r => { r with status := 5 }, 0)
      | none => (s, 0)

/-! ### Coming into force (R382, R383) -/

/-- What the objects whose value differs held before. -/
def dictBefore (old new : Tab Int) : Tab Int :=
  ((old ++ new).map (·.1)).foldl (fun t k =>
    let a := Tab.get (defaultOf k) old k
    if a = Tab.get (defaultOf k) new k then t else Tab.put t k a) []

/-- What the bytes that differ held before. -/
def bytesBefore (old new : State) (ws : List HostWrite) : Tab Byte :=
  ws.foldl (fun t w =>
    (List.range w.data.length).foldl (fun t i =>
      let o := w.off.getD 0 + i
      let a := old.byteAt w.obj.idx w.obj.sub o
      if a = new.byteAt w.obj.idx w.obj.sub o then t
      else Tab.put t (byteKey w.obj.idx w.obj.sub o) a) t) []

/-- The objects, the epoch and the Survey value of a commit, and its client's status. -/
def State.takeWrites (s : State) (p : PendingCommit) : State :=
  let s := (s.putWrites p.writes).setObj 0x2F00 7 p.epoch
  let s := { s.setObj 0x2F00 9 p.ident with survey := ⟨p.survey, []⟩ }
  match p.client with
  | some c => if s.commit.pending.any (fun q => q.client == some c) then s else s.onRegs c fun r => { r with status := 3 }
  | none => s

/-- What slots before an instant still read, of what some writes changed, is kept (R382). -/
def State.keepUndo (s before : State) (t : Tick) (ws : List HostWrite) : State :=
  let now := s.now
  let entry : Undo := ⟨t, dictBefore before.dict s.dict,
    bytesBefore before s (ws.filter fun w => isDomain w.obj.idx w.obj.sub), before.survey.value⟩
  s.onCommit fun x => { x with undo := entry :: x.undo.filter fun u => decide (now < secT 2 + u.target) }

/-- A commit comes into force whole. -/
def State.putInForce (s : State) (p : PendingCommit) : State :=
  let t := State.switchNet s (s.takeWrites p).reportAll p.target
  let t := if t.power.hold then t else State.switchRun s t p.target (forcedChannels p.writes) (asksSwap p.writes)
  t.reviewDisagreement.keepUndo s p.target p.writes

/-- A pending commit does not come into force: its writes and epoch are never used. -/
def State.discardCommit (s : State) (p : PendingCommit) : State := s.withdrawMoves p.target

/-- The effect of COMMIT_TARGET: the first pending commit reaches its target. At the master a relayed commit whose votes
are not all in fails; at a member, whether every present member accepted it is a free value (log 38). -/
def State.commitTarget (s : State) : State :=
  match s.commit.pending with
  | [] => s
  | p :: rest =>
    let s := s.until p.target
    if p.relayed ∧ s.commit.relay.isSome then s.relayFails 0x08000022
    else
      let s := s.onCommit fun x => { x with pending := rest }
      if p.relayed then
        (if s.draw % 2 = 0 then s.drawn.putInForce p else s.drawn.discardCommit p)
      else s.putInForce p

end Sys2Proof.Machine
end

