-- ==== Sys2Proof/Machine/Tasks.lean ====
section
/-! DEFINITION. Tasks.lean: what follows on an effect of the coding path: task creation and completion in Orchard (Table 16-1),
numbering, records and retirement of a complete AU. Each is read off the state before and after the effect. -/

namespace Sys2Proof.Machine

/-! ### Creation (R327, Table 16-1) -/

/-- A task that does not exist yet is created. -/
def State.newTask (s : State) (kind c n row : Nat) : State :=
  if (s.taskOf kind c n row).isSome then s else s.createTask kind c n row

/-- Every line of band b of a slot has closed. -/
def State.bandClosed (s : State) (f n b : Nat) : Bool :=
  let x := (s.flow f).frame n
  x.gift == .present && (bandLines (s.flowRec f).height b).all fun l =>
    match x.line l with
    | .closed _ _ => true
    | .collecting _ => false

/-- The bands of a slot that have closed since. -/
def State.newBands (before s : State) (f n : Nat) : List Nat :=
  (List.range (cdiv (s.flowRec f).height 64)).filter fun b => s.bandClosed f n b && !before.bandClosed f n b

/-- The picture decision task of slot n on the channels of a source: in a canvas its master's alone. -/
def State.decisionTasks (s : State) (f n : Nat) : State :=
  (s.chansOf f n).foldl (fun s c => if s.isCanvas c && !s.isMaster then s else s.newTask 3 c n 0) s

/-- The slots of a channel's source that it has not decided yet and whose frame it composes. -/
def State.aheadSlots (s : State) (c : Nat) : List Nat :=
  let r := s.chan c
  let f (n : Nat) : FlowRt := s.flow ((s.forSlot c n).auCfg c).source
  ((s.flows.flatMap fun p => p.2.frames.map (·.1)).eraseDups).filter fun n =>
    decide (r.upcoming ≤ n) && r.inSlot n && (r.au? n).isNone && !s.isCanvas c &&
    decide (((f n).frame n).gift ≠ .undecided) && decide (((f n).frame n).gift ≠ .absent)

/-- An AU as its band tasks see it before its decision: the layers of its slot (R146). -/
def State.aheadAu (s : State) (c n : Nat) : Au :=
  let v := s.forSlot c n
  { Au.blank (v.auCfg c) n with insetFrames := (s.insetFrames v c n).1, insetWait := s.insetsOpen v c n }

/-- The composition tasks of a channel whose input has closed, also before the picture decision, which is then a counted
dependence (R146, R331). -/
def State.composeTasks (s : State) (c : Nat) : State :=
  (((s.chan c).aus ++ (s.aheadSlots c).map (s.aheadAu c)).foldl (fun s a =>
    if a.skip || a.replaced || a.settled then s
    else
      let v := s.atSlot a.cfg.rate a.slot
      (List.range a.cfg.rows).foldl (fun s r =>
        if (Tab.find? a.bands r).isSome || !v.composable c a r then s else s.newTask 2 c a.slot r) s) s)

/-! ### After an effect of ingress -/

/-- Slots of a flow whose frame differs from before. -/
def State.changedSlots (before s : State) (f : Nat) : List Nat :=
  ((s.flow f).frames.filter fun p => (before.flow f).frame p.1 != p.2).map (·.1)

/-- What follows when lines of a flow close or its frames' presence is decided: tasks, band records (R165), a canvas
member's frame report (R191), and the ingress pulse. -/
def State.ingressFollow (before s : State) (f : Nat) : State :=
  let slots := State.changedSlots before s f
  if slots.isEmpty then s
  else
    let s := slots.foldl (fun s n =>
      let s := if (s.chansOf f n).isEmpty then s
        else (State.newBands before s f n).foldl (fun s b => s.newTask 1 f n b) s
      let s := if ((before.flow f).frame n).gift = .undecided ∧ ((s.flow f).frame n).gift ≠ .undecided
        then s.decisionTasks f n else s
      (s.bandRecords f n).frameReportDue f n) s
    let s := s.runningChans.foldl State.fillInsets s
    (s.runningChans.foldl State.composeTasks s).pulse 24 none

/-! ### After an effect of the coding path -/

/-- AU n has been decided: its task ends; replacement and assembly tasks, and the composition tasks whose input waits. -/
def State.decided (s : State) (c n : Nat) : State :=
  let s := (s.taskDone 3 c n 0).newTask 5 c n 0
  let s := if s.isCanvas c && !s.isMaster then s else s.newTask 6 c n 0
  s.composeTasks c

/-- AU n is complete: its numbers, its record to the partner, its packetisation task. -/
def State.completed (s : State) (c n : Nat) : State :=
  (((s.numberAu c n).auSent c n).taskDone 6 c n 0).newTask 7 c n 0

/-- AUs of a channel that meet a test now and did not before. -/
def newAus (old new : List Au) (test : Au → Bool) : List Nat :=
  (new.filter fun a => test a && !(old.any fun b => b.slot == a.slot && test b)).map (·.slot)

/-- What follows for one channel. -/
def State.channelFollow (before s : State) (c : Nat) : State :=
  let old := (before.chan c).aus
  let new := (s.chan c).aus
  let opened := newAus old new fun _ => true
  let s := opened.foldl (fun s n => s.decided c n) s
  let s := if opened.isEmpty then s else if s.isCanvas c then s.settleBands else s
  let s := (newAus old new fun a => a.complete.isSome).foldl (fun s n => s.completed c n) s
  s.retire c

/-- What follows for every channel where one has changed; then the tasks created Ready are dispatched. -/
def State.follow (before s : State) : State :=
  if s.chans = before.chans then s
  else (s.chans.foldl (fun s p => State.channelFollow before s p.1) s).dispatchAll

/-! ### The coding path's commands with what follows on each -/

/-- PRE_ANALYSIS_BAND. -/
def State.bandStep (s : State) (f n b : Nat) : State :=
  let t := s.preAnalysis f n b
  if (t.anaGet f n).bands = (s.anaGet f n).bands then s else (t.taskDone 1 f n b).frameReportDue f n

/-- The row task takes over the ID of the composition band that ends (R330). -/
def State.rowTask (s : State) (c n r : Nat) : State :=
  match s.taskOf 2 c n r with
  | some (id, t) =>
    let e := match t.state with
      | .running e => e
      | _ => 17
    (((s.dropTask id t).trace 6 e id t 0).createTask 4 c n r (some id)).pulse 17 none
  | none => (s.newTask 4 c n r).pulse 17 none

/-- COMPOSITION_BAND. -/
def State.composeStep (s : State) (c n r : Nat) : State :=
  let t := s.composeBand c n r
  if t.chan c = s.chan c then s else t.rowTask c n r

/-- ROW_DECISION. -/
def State.rowDecisionStep (s : State) (c n r : Nat) : State :=
  let t := s.rowDecision c n r
  if t.chan c = s.chan c then s else t.rowTaskCodes c n r

/-- ROW_CODING. -/
def State.rowCodingStep (s : State) (c n r : Nat) : State :=
  let t := s.rowCoding c n r
  if t.chan c = s.chan c then s
  else if s.isCanvas c then (t.taskDone 4 c n r).canvasRowSettled c n r
  else t.taskDone 4 c n r

/-- REPLACEMENT_AU. -/
def State.replacementStep (s : State) (c n : Nat) : State :=
  if ((s.chan c).au? n).isNone then s else (s.replacementAu c n).taskDone 5 c n 0

/-- AU_ASSEMBLY, of a canvas at its master. -/
def State.assemblyStep (s : State) (c n : Nat) : State :=
  State.follow s (if s.isCanvas c then s.canvasAssembly c n else s.auAssembly c n)

/-- MODEL_UPDATE, of a canvas from the AU reports. -/
def State.modelStep_ (s : State) (c n : Nat) : State :=
  (if s.isCanvas c then s.canvasModel c n else s.modelUpdate c n).pulse 18 none

/-- PACKETISATION. -/
def State.packetStep (s : State) (c n : Nat) : State :=
  let t := s.packetisation c n
  if t.chan c = s.chan c then s else (t.taskDone 7 c n 0).retire c

/-- DEADLINE_RESCUE: the tasks of the AU are cancelled (R329); a canvas is rescued at its master, whose next decision names the
AU (R192). -/
def State.rescueStep (s : State) (c n : Nat) : State :=
  if s.isCanvas c && !s.isMaster then s
  else
    let t := s.deadlineRescue c n
    if t.chan c = s.chan c then s
    else
      let t := t.cancelTasks c n
      let poc := s.pocOf c n
      State.follow s (if s.isCanvas c then t.onCasc fun x => { x with rescue := some poc } else t)

/-- TASK_CREATION_DELAYED (R330): a creation that found no free ID goes on, is counted and raises a capacity event. -/
def State.delayedTask (s : State) (kind c n row : Nat) : State :=
  let s := ((s.createTask kind c n row).count 0x2B00 7).raise ⟨0x0702, if kind = 1 then 0xFF else c, n % 0x100000000, kind, 0, 0⟩
  match s.taskOf kind c n row with
  | some (id, t) => s.trace 10 18 id t 0
  | none => s

end Sys2Proof.Machine
end

