-- ==== Sys2Proof/Machine/Operations.lean ====
section
/-! DEFINITION. Operations.lean: the six long operations (R398, R399). -/

namespace Sys2Proof.Machine

/-! ### The block of an operation (Table 19-10) -/

/-- A field of kind k's block: 0 command, 1 to 3 arguments, 4 state, 5 progress, 6 result, 7 detail. -/
def State.op (s : State) (k m : Nat) : Nat := s.nat 0x2F00 (0x10 * k + m)
def State.setOp (s : State) (k m v : Nat) : State := s.setObj 0x2F00 (0x10 * k + m) v

/-- Nothing held for an operation. -/
def OpRun.empty : OpRun := ⟨0, 0, [], [], []⟩

/-- What kind k holds. -/
def State.run (s : State) (k : Nat) : OpRun := Tab.get OpRun.empty s.ops k

/-- A kind runs or is suspended. -/
def State.opBusy (s : State) (k : Nat) : Bool := s.op k 4 == 1 || s.op k 4 == 2

/-- An operation starts. -/
def State.beginOp (s : State) (k : Nat) (x : OpRun) : State :=
  let s := ((((s.setOp k 0 1).setOp k 4 1).setOp k 5 0).setOp k 6 0).setOp k 7 0
  { s with ops := Tab.put s.ops k x }

/-- Nothing more is held for an operation. -/
def State.clearRun (s : State) (k : Nat) : State := { s with ops := Tab.erase s.ops k }

/-- An operation completes (R399, R420): state, progress and result together, and its event. -/
def State.endOp (s : State) (k result detail : Nat) : State :=
  let s := s.clearRun k
  let s := if result = 0 then (s.setOp k 4 3).setOp k 5 1000 else s.setOp k 4 4
  ((s.setOp k 6 result).setOp k 7 detail).raiseUnit 0x0804 k result detail

/-- An operation ends cancelled. -/
def State.endCancelled (s : State) (k : Nat) : State := ((s.clearRun k).setOp k 0 4).setOp k 4 5

/-! ### Firmware install (kind 1) -/

/-- The bank that does not run. -/
def State.idleBank (s : State) : FlashBank := if s.power.bank = 0 then s.flash.bank1 else s.flash.bank0

/-- The bank that runs. -/
def State.runningBank (s : State) : FlashBank := if s.power.bank = 0 then s.flash.bank0 else s.flash.bank1

/-- The bank that does not run takes a value. -/
def State.setIdleBank (s : State) (b : FlashBank) : State :=
  if s.power.bank = 0 then { s with flash := { s.flash with bank1 := b } } else { s with flash := { s.flash with bank0 := b } }

/-- A bank without its valid mark. -/
def FlashBank.marked (b : FlashBank) : FlashBank := { b with valid := false }

/-- The installed image stands in the bank as its newest. -/
def State.installed (s : State) (image : List Byte) : State :=
  s.setIdleBank ⟨true, max s.flash.bank0.seq s.flash.bank1.seq + 1, image, some (Config.imagePatch image)⟩

/-- The install starts: from here to its end the inactive bank is not valid. -/
def State.startInstall (s : State) : State × Nat :=
  if 67108864 < s.op 1 1 then (s, 0x06090030)
  else ((s.setIdleBank s.idleBank.marked).beginOp 1 ⟨s.op 1 1, 0, [], [], []⟩, 0)

/-- The install ends (Table 19-7): image malformed, signature invalid, flash write failed, or installed. -/
def State.endInstall (s : State) (fail : Nat) : State :=
  let image := s.bytesAt 0x6F00 1 0 (s.run 1).argA
  if !Config.imageForm image then s.endOp 1 0x08000000 2
  else if !Config.imageSigned image then s.endOp 1 0x08000000 1
  else if fail ≠ 0 then s.endOp 1 0x06060000 3
  else (s.installed image).endOp 1 0 0

/-! ### Memory test (kind 2, R363) -/

/-- Whether a memory test writes an address: the DRAM regions but the last, and the SRAM outside the search caches. -/
def tested (a : Nat) : Bool := decide (a < 0x3F8000000) || moverMay a && decide (0x1006000000 ≤ a)

/-- Whether a byte of an object lies in tested memory: Legend slots and Atlas backgrounds. -/
def testedByte (k : Nat) : Bool :=
  let idx := keyIdx (k / 0x100000000)
  isSlot idx || idx == 0x6205

/-- Every tested byte is zero, and both Atlas backgrounds are black. -/
def State.testMemory (s : State) : State :=
  { s with
    mem := s.mem.filter fun p => !tested p.1
    bytes := s.bytes.filter fun p => !testedByte p.1
    slotsZero := true }

/-- Something is enabled, now or by a pending commit, that a memory test may not meet. -/
def State.testBarred (s : State) : Bool :=
  s.atl 0x2A00 1 == 1 || (List.range (s.commit.pending.length + 1)).any fun k =>
    let v := s.afterPending k
    !v.chansOn.isEmpty || !v.streamsOn.isEmpty

def State.startMemoryTest (s : State) : State × Nat :=
  if s.testBarred then (s, 0x08000022) else (s.beginOp 2 OpRun.empty, 0)

def State.endMemoryTest (s : State) (fail addr : Nat) : State :=
  if fail = 0 then s.testMemory.endOp 2 0 0 else s.testMemory.endOp 2 0x06060000 (addr / 64 % 0x100000000)

/-! ### Eye scan (kind 3, R288) -/

/-- Eyes of a lane: three in the PAM4 modes of its group (Table 10-1). -/
def State.eyes (s : State) (l : Nat) : Nat :=
  let m := s.nat 0x2100 (l / 4 + 1)
  if m = 1 ∨ m = 3 then 3 else 1

/-- The scan starts on a lane that is up. -/
def State.startEyeScan (s : State) : State × Nat :=
  let l := s.op 3 1
  if 16 ≤ l then (s, 0x06090030)
  else if s.nat (0x2800 + l) 9 ≠ 4 then (s, 0x08000022)
  else (s.beginOp 3 ⟨l, s.now32, [s.nat (0x4800 + l) 1], [], []⟩, 0)

/-- The result of a scan (Table 13-5): how it ended, and its cells; a cell that was not measured reads 0xFFFF. -/
def State.writeScan (s : State) (status : Nat) (cells : List Nat) : State :=
  let r := s.run 3
  let l := r.argA
  let n := s.eyes l
  let head := beBytes 1 l ++ beBytes 1 n ++ beBytes 1 (r.chans.headD 0) ++ beBytes 1 (s.nat (0x2800 + l) 2) ++
    beBytes 4 r.argB ++ beBytes 1 status ++ zeros 7
  let body := (List.range (n * 63 * 64)).flatMap fun i => beBytes 2 (match cells[i]? with
    | some v => if v = 0xFFFF then 0xFFFF else min v 0xFFFE
    | none => 0xFFFF)
  s.putBytes (0x6300 + l) 1 0 (head ++ body)

def State.endEyeScan (s : State) (fail : Nat) (cells : List Nat) : State :=
  if fail = 0 then (s.writeScan 0 cells).endOp 3 0 0 else (s.writeScan 1 cells).endOp 3 0x08000022 0

/-- A cancelled scan: which points had been measured, and what they held, no operand says: free values (log 3). -/
def State.cancelEyeScan (s : State) : State :=
  let n := s.eyes (s.run 3).argA * 63 * 64
  let cells := (List.range n).map fun i => Config.freeNat (s.free + i) % 0x10000
  { (s.writeScan 2 cells) with free := s.free + n }

/-! ### Cascade join (kind 4, R205) -/

/-- The rate of the grid that a join counts on. -/
def State.joinRate (s : State) : Nat := s.ch s.canvasChan 0 7

/-- The target slot: the one within 2^31 slots ahead whose low 32 bits are given. -/
def State.joinTarget (s : State) (low : Nat) : Nat :=
  let n := slotAt s.joinRate s.now
  n + (low + 0x100000000 - n % 0x100000000) % 0x100000000

/-- What admits a member (R205): heard, with a link to it, PTP-locked, and with the master's Survey value in its last report.
No message of R185 tells the master whether a member is PTP-locked: a free value (log 127). -/
def State.mayRejoin (s : State) (p : Nat) : Bool :=
  (s.nat 0x2300 9).testBit p && (s.route p).isSome && s.draw % 2 == 0 &&
  (match Tab.find? s.casc.lastReport p with
   | some m => field m 8 4 == s.survey.value
   | none => true)

def State.startJoin (s : State) : State × Nat :=
  let p := s.op 4 1
  let n := s.joinTarget (s.op 4 2)
  if !s.isMaster then (s, 0x08000022)
  else if p = 0 ∨ s.members ≤ p then (s, 0x06090030)
  else if t0 s.joinRate n < s.now + t0 s.joinRate 3 ∨ s.casc.rejoin.isSome then (s, 0x08000022)
  else
    let s := s.beginOp 4 ⟨p, n, [], [], []⟩
    let ok := s.mayRejoin p
    let s := s.drawn
    if ok then (s.onCasc fun x => { x with rejoin := some (p, n) }, 0) else (s.endOp 4 0x08000022 0, 0)

/-- The join is complete once the AU of its target is, with the member's own slices. In group mode there is no such AU: it
is complete at its target. -/
def State.endJoin (s : State) : State :=
  let r := s.run 4
  let p := r.argA
  let n := r.argB
  if !s.canvasOn then ((s.until (t0 s.joinRate n)).rejoined p).endOp 4 0 0
  else if s.casc.rejoin.isSome then s
  else match (s.chan s.canvasChan).au? n with
    | some a =>
      if a.complete.isNone then s
      else if s.casc.lost.testBit p ∨ (s.regionsOf p).any (fun i => (s.region n i).completed) then s.endOp 4 0x08000022 0
      else s.endOp 4 0 0
    | none => if s.casc.lost.testBit p then s.endOp 4 0x08000022 0 else s.endOp 4 0 0

/-! ### Pair resync (kind 5, R171) -/

/-- The channels that argument A names. -/
def State.resyncNamed (s : State) (a : Nat) : List Nat := if a = 0xFF then s.chansOn.filter s.chanDiverged else [a]

def State.startResync (s : State) : State × Nat :=
  let a := s.op 5 1
  let named := s.resyncNamed a
  if a ≠ 0xFF ∧ 64 ≤ a then (s, 0x06090030)
  else if !s.paired ∨ (a ≠ 0xFF ∧ !s.chanOn a) then (s, 0x08000022)
  else
    let s := named.foldl (fun s c => s.onPc c fun p => { p with withdrawn := false }) (s.beginOp 5 ⟨a, 0, named, [], []⟩)
    if s.pairResyncEnds named then (s.endOp 5 0 0, 0) else (s, 0)

/-- A channel's requests are withdrawn; a decision that waited for an answer goes on. -/
def State.withdrawResync (s : State) (c : Nat) : State :=
  let s := s.onPc c fun p => { p with withdrawn := true, requested := false }
  let s := if s.ch c 0xB 1 = 3 then s.setObj (basic c 0xB) 1 2 else s
  match (s.pc c).deferred with
  | some n => s.resumeDeferred c n
  | none => s

/-! ### Dictionary save (kind 6, R388, R451) -/

/-- The values of the stored classes in force: of the Atlas objects those of the set in force. -/
def State.storedDict (s : State) : Tab Int :=
  let own := s.dict.filter fun p => retentionOf p.1 == .stored && !atlasKeys.contains p.1
  s.atlas.inForce.foldl (fun t p => Tab.put t p.1 p.2) own

/-- The bytes of the stored objects. -/
def State.storedBytes (s : State) : Tab Byte := s.bytes.filter fun p => retentionOf (p.1 / 0x100000000) == .stored

def State.startSave (s : State) : State × Nat :=
  (s.beginOp 6 ⟨s.nat 0x2F00 7, 0, [], s.storedDict, s.storedBytes⟩, 0)

/-- Image A is the newest good image. -/
def FlashSt.newestA (f : FlashSt) : Bool :=
  match f.imageA, f.imageB with
  | some a, some b => a.good && (!b.good || decide (b.seq < a.seq))
  | some a, none => a.good
  | none, _ => false

/-- The newest image whose CRC is good (R451). -/
def FlashSt.newest (f : FlashSt) : Option FlashImage :=
  if f.newestA then f.imageA else f.imageB.filter (·.good)

/-- The image that is not newest is written. -/
def FlashSt.write (f : FlashSt) (x : FlashImage) : FlashSt :=
  if f.newestA then { f with imageB := some x } else { f with imageA := some x }

/-- The image that a save writes, one past the newest. -/
def State.savedImage (s : State) (good : Bool) : FlashImage :=
  let r := s.run 6
  ⟨((s.flash.newest.map (·.seq)).getD 0) + 1, good, r.argA, r.saved, r.savedBytes⟩

/-- The save ends; a client that wrote "save" is answered (R388). -/
def State.endSave (s : State) (fail : Nat) : State :=
  let code := if fail = 0 then 0 else 0x06060000
  let img := s.savedImage (fail == 0)
  let s := { s with flash := s.flash.write img }.endOp 6 code 0
  match s.can.saveWait with
  | some c => { s with can := { s.can with saveWait := none } }.confirm c code
  | none => s

/-! ### Commands (R398) -/

/-- A write of 1 to a kind's command field. -/
def State.startOp (s : State) (k : Nat) : State × Nat :=
  if s.opBusy k then (s, 0x08000022)
  else match k with
    | 1 => s.startInstall
    | 2 => s.startMemoryTest
    | 3 => s.startEyeScan
    | 4 => s.startJoin
    | 5 => s.startResync
    | _ => s.startSave

/-- A write of 2. -/
def State.suspendOp (s : State) (k : Nat) : State × Nat :=
  if s.op k 4 = 1 ∧ k ≤ 3 then ((s.setOp k 0 2).setOp k 4 2, 0) else (s, 0x08000022)

/-- A write of 3. -/
def State.resumeOp (s : State) (k : Nat) : State × Nat :=
  if s.op k 4 = 2 then ((s.setOp k 0 3).setOp k 4 1, 0) else (s, 0x08000022)

/-- What a cancel does to a running or suspended operation of each kind. -/
def State.cancelInstall (s : State) : State × Nat := ((s.setIdleBank s.idleBank.marked).endCancelled 1, 0)
def State.cancelTest (s : State) : State × Nat := (s.testMemory.endCancelled 2, 0)
def State.cancelScan (s : State) : State × Nat := (s.cancelEyeScan.endCancelled 3, 0)
def State.cancelResync (s : State) : State × Nat :=
  ((State.follow s ((s.run 5).chans.foldl State.withdrawResync s)).endCancelled 5, 0)

/-- A join is cancelled up to 1 ms before its target. -/
def State.cancelJoin (s : State) : State × Nat :=
  if t0 s.joinRate (s.run 4).argB < msT 1 + s.now then (s, 0x08000022)
  else ((s.onCasc fun x => { x with rejoin := none }).endCancelled 4, 0)

/-- A write of 4, with the kind's clean-up (Table 19-7). -/
def State.cancelOp (s : State) (k : Nat) : State × Nat :=
  if !s.opBusy k then (s, 0x08000022)
  else match k with
    | 1 => s.cancelInstall
    | 2 => s.cancelTest
    | 3 => s.cancelScan
    | 4 => s.cancelJoin
    | 5 => s.cancelResync
    | _ => (s, 0x08000022)

/-- A write to a kind's command field. -/
def State.commandOp (s : State) (k v : Nat) : State × Nat :=
  match v with
  | 1 => s.startOp k
  | 2 => s.suspendOp k
  | 3 => s.resumeOp k
  | 4 => s.cancelOp k
  | _ => (s, 0x06090030)

/-- The effect of OPERATION_COMPLETE: kind k's work is done, as `o` says; kinds 4 and 5 follow the state. -/
def State.operationComplete (s : State) (k : Nat) (o : OpOutcome) : State :=
  if s.op k 4 ≠ 1 then s
  else match k with
    | 1 => s.endInstall o.fail
    | 2 => s.endMemoryTest o.fail o.addr
    | 3 => s.endEyeScan o.fail o.cells
    | 4 => s.endJoin
    | 5 => if s.pairResyncEnds (s.run 5).chans then s.endOp 5 0 0 else s
    | 6 => s.endSave o.fail
    | _ => s

end Sys2Proof.Machine
end

