-- ==== Sys2Proof/Machine/Events.lean ====
section
/-! DEFINITION. Events.lean: the event writer, the log, ATTN_N, the error register, EMCY production and the notify queues
(R419-R427). -/

namespace Sys2Proof.Machine

/-- Codes of Table 21-3 by severity; every other code of the table is a warning, severity 2. -/
def infoCodes : List Nat := [0x0205, 0x0402, 0x0502, 0x0506, 0x0804]
def noticeCodes : List Nat :=
  [0x0102, 0x0104, 0x0106, 0x0107, 0x0108, 0x0202, 0x0303, 0x0304, 0x0405, 0x0508, 0x0603, 0x0604, 0x0801, 0x0803]
def faultCodes : List Nat := [0x0204, 0x0301, 0x0302, 0x0305, 0x0503, 0x0507, 0x0701, 0x0705, 0x0707]

/-- The severity of an event code (Tables 21-2 and 21-3). -/
def severity (code : Nat) : Nat :=
  if infoCodes.contains code then 0
  else if noticeCodes.contains code then 1
  else if faultCodes.contains code then 3
  else 2

/-- The 32 bytes of an event record (Table 21-1). -/
def eventRecord (serial ns : Nat) (e : Event) : List Byte :=
  beBytes 8 serial ++ beBytes 4 ns ++ beBytes 2 e.code ++ beBytes 1 (severity e.code) ++ beBytes 1 e.chan ++
    beBytes 4 e.slot ++ beBytes 4 e.p0 ++ beBytes 4 e.p1 ++ beBytes 4 e.p2

/-- Serial, code and severity of a record. -/
def recSerial (r : List Byte) : Nat := field r 0 8
def recCode (r : List Byte) : Nat := field r 12 2
def recSeverity (r : List Byte) : Nat := field r 14 1 % 4

/-- Records the log keeps (R423). -/
def logSize : Nat := 1024

/-! ### ATTN_N and the error register (R424, R426) -/

/-- The acknowledged serial. -/
def State.acked (s : State) : Nat := s.nat 0x2E00 4

/-- The log holds an event that asserts ATTN_N. -/
def State.attnDue (s : State) : Bool :=
  s.evt.log.any fun r => decide (s.nat 0x2E00 3 ≤ recSeverity r) && decide (s.acked < recSerial r)

/-- ATTN_N follows the log; during a freeze it is asserted. -/
def State.updateAttn (s : State) : State := s.setAttn (s.attnDue || s.power.freeze.isSome)

/-- 0x1001:00. -/
def State.errorRegister (s : State) : Nat :=
  let link := decide (s.acked < s.evt.faultLink)
  let other := decide (s.acked < s.evt.faultOther)
  b2n (link || other) + 16 * b2n link + 128 * b2n other

/-! ### EMCY (R425) -/

/-- Messages that wait at most (R425). -/
def emcySize : Nat := 16

/-- An EMCY message joins the queue; where the queue is full it is not produced. -/
def State.produceEmcy (s : State) (m : List Byte) : State :=
  if s.can.emcy.length < emcySize then { s with can := { s.can with emcy := s.can.emcy ++ [m] } } else s

/-- The message of an event (Table 21-4). -/
def State.emcyOf (s : State) (serial : Nat) (e : Event) : List Byte :=
  leBytes 2 (0xFF00 + e.code / 256) ++ beBytes 1 s.errorRegister ++ beBytes 2 e.code ++ beBytes 1 e.chan ++ beBytes 2 serial

/-! ### The writer (R421, R422) -/

/-- A record joins a subscription's queue. -/
def ExferSub.push (u : ExferSub) (now : Tick) (rec : List Byte) (sev : Nat) : ExferSub :=
  if sev < u.minSev then u
  else { u with queue := u.queue ++ [(now, rec)] }

/-- A record joins every notify queue that it passes (R427). -/
def State.pushNotify (s : State) (rec : List Byte) (sev : Nat) : State :=
  let now := s.now
  { s with exfer := { s.exfer with
      sessions := s.exfer.sessions.map fun x => { x with sub := x.sub.map fun u => u.push now rec sev } } }

/-- A record is logged: the newest 1,024 stay. -/
def EvtSt.logged (v : EvtSt) (rec : List Byte) (serial : Nat) (code : Nat) : EvtSt :=
  let fault := severity code == 3
  let link := decide (2 ≤ code / 256 ∧ code / 256 ≤ 4)
  let log := v.log ++ [rec]
  { v with
    log := log.drop (log.length - logSize), newest := serial
    faultLink := if fault && link then serial else v.faultLink
    faultOther := if fault && !link then serial else v.faultOther }

/-- One event is written: serial and time, log, ATTN_N, EMCY queue, notify queues, in that order. -/
def State.writeEvent (s : State) (e : Event) : State :=
  let serial := s.evt.newest + 1
  let r := eventRecord serial s.now32 e
  let s := { s with evt := s.evt.logged r serial e.code }.updateAttn
  let s := if s.nat 0x2E00 5 ≤ severity e.code then s.produceEmcy (s.emcyOf serial e) else s
  (s.pushNotify r (severity e.code)).traceStop e.code

/-- The queue without its first event; the oldest event that a producer holds joins it. -/
def EvtSt.next (v : EvtSt) : Option (Event × EvtSt) :=
  match v.queue, v.stalled with
  | e :: q, x :: r => some (e, { v with queue := q ++ [x], stalled := r })
  | e :: q, [] => some (e, { v with queue := q })
  | [], x :: r => some (x, { v with stalled := r })
  | [], [] => none

/-- The effect of EVENT_WRITE. -/
def State.eventWrite (s : State) : State :=
  match s.evt.next with
  | none => s
  | some (e, v) => { s with evt := v }.writeEvent e

/-! ### Acknowledgement (R424, R426) -/

/-- A write of the acknowledged serial. -/
def State.acknowledge (s : State) (serial : Nat) : State × Nat :=
  if serial < s.acked then (s, 0x08000022)
  else if s.evt.newest < serial then (s, 0x06090030)
  else
    let before := s.errorRegister
    let s := (s.setObj 0x2E00 4 serial).updateAttn
    if before % 2 = 1 ∧ s.errorRegister % 2 = 0 then
      (s.produceEmcy (leBytes 2 0 ++ beBytes 1 s.errorRegister ++ beBytes 2 0 ++ beBytes 1 0xFF ++ beBytes 2 serial), 0)
    else (s, 0)

end Sys2Proof.Machine
end

