-- ==== Sys2Proof/Machine/Power.lean ====
section
/-! DEFINITION. Power.lean: supply, power states, the six reset kinds, the start sequence, retention, and the end of a freeze
(R355, R387, R430-R454). -/

namespace Sys2Proof.Machine

/-! ### Domains and states (Tables 22-1 and 22-2, R437, R438) -/

/-- Power's own state changes. -/
def State.onPower (s : State) (f : PowerSt → PowerSt) : State := { s with power := f s.power }

/-- The domains that a power state has on. -/
def domainMask (st : Nat) : Nat := if st = 0 then 0x00FFFFFF else if st = 1 then 0x00F801FF else 0x00000003

/-- 0x2000:03 follows the state in force, without what a fault removed. -/
def State.showDomains (s : State) : State :=
  s.setObj 0x2000 3 ((domainMask (s.nat 0x2000 2)) &&& (0x00FFFFFF ^^^ s.power.isolated) : Nat)

/-- Whether a domain is on. -/
def State.domainOn (s : State) (d : Nat) : Bool := (s.nat 0x2000 3).testBit d

/-- 10 ms and the offsets of Table 22-4, in 125 MHz cycles. -/
def msCycles (n : Nat) : Nat := 125000 * n
def stageOffsets : List Nat := [1, 150, 400, 600]

/-! ### Retention (Tables 22-5 and 22-6) -/

/-- Whether a class keeps its values across a reset of a kind. -/
def classKept (kind : Nat) : Retention → Bool
  | .stored => kind == 4 || kind == 5
  | .volatile => false
  | .runtime => false
  | .counter => kind == 4 || kind == 5
  | .calibration => true
  | .pd0 => kind != 0

/-- The values and bytes that a reset keeps. -/
def State.keptDict (s : State) (kind : Nat) : Tab Int := s.dict.filter fun p => classKept kind (retentionOf p.1)
def State.keptBytes (s : State) (kind : Nat) : Tab Byte :=
  s.bytes.filter fun p => classKept kind (retentionOf (p.1 / 0x100000000))

/-- The saved image that a start of a kind loads (R451). -/
def State.imageFor (s : State) (kind : Nat) : Option FlashImage :=
  if kind = 2 ∧ s.flash.restore then none else s.flash.newest

/-- The defaults that follow the straps: node ID, and the COB-IDs built from it (R386). -/
def State.strapDefaults (s : State) : State :=
  let id := 16 + s.power.straps
  let s := (s.setObj 0x1FF0 1 id).setObj 0x1014 0 (0x80 + id : Nat)
  (List.range 4).foldl (fun s i =>
    (s.setObj (0x1400 + i) 1 (0x80000200 + 0x100 * i + id : Nat)).setObj (0x1800 + i) 1 (0x80000180 + 0x100 * i + id : Nat)) s

/-- Tables joined: the second wins. -/
def overlay {α : Type} (a b : Tab α) : Tab α := b.foldl (fun t p => Tab.put t p.1 p.2) a

/-- The stored class from flash, or from defaults (R451, R453, R383). -/
def State.loadStored (s : State) (kind : Nat) : State :=
  match s.imageFor kind with
  | some x =>
    let s := { s with dict := overlay s.dict x.dict, bytes := overlay s.bytes x.bytes }
    s.setObj 0x2F00 7 x.epoch
  | none => s.strapDefaults.setObj 0x2F00 7 0

/-- The Atlas set in force and the pending set, equal after a start. -/
def State.atlasFromDict (s : State) : State :=
  { s with atlas := { AtlasSt.reset with inForce := s.atlasPending } }
def State.atlasFromForce (s : State) : State :=
  let set := s.atlas.inForce
  let plain := s.dict.filter fun p => !atlasKeys.contains p.1
  { s with dict := overlay plain set, atlas := { AtlasSt.reset with inForce := set } }

/-! ### A reset (R443-R447) -/

/-- The data plane and the peers at rest. -/
def State.restData (s : State) : State :=
  { s with
    flows := [], ports := [], ana := [], chans := [], orch := OrchSt.reset, egress := ⟨[], [], [], [], [], []⟩, queues := []
    audio := ⟨[], none, false⟩, movers := [], hole := none, ptp := PtpSt.reset, vpll := PllRt.reset
    apll := PllRt.reset, tio := [], links := [], pair := PairSt.reset, casc := CascSt.reset, hostCheck := none }

/-- Sessions, pending commits and long operations are discarded (R382, R399). -/
def State.dropSessions (s : State) : State :=
  { s with commit := ⟨[], [], [], none, [], []⟩, ops := [], exfer := ⟨[], 1, 1, none⟩ }

/-- The bank that the next start runs (Table 22-3). -/
def State.bankFor (s : State) (kind : Nat) : Nat :=
  let f := s.flash
  if kind ≠ 0 ∧ kind ≠ 2 then s.power.bank
  else if f.bank0.valid ∧ (!f.bank1.valid ∨ f.bank1.seq ≤ f.bank0.seq) then 0
  else if f.bank1.valid then 1
  else s.power.bank

/-- The management core's side of a reset: kinds 4 and 5 do not restart it; the others start CAN FD and the writer anew, and a
power-on the log too (R387, R423, R445). -/
def State.restCore (s : State) (kind : Nat) : State :=
  if kind = 4 ∨ kind = 5 then { s with can := { s.can with saveWait := none } }
  else
    let evt : EvtSt := if kind = 0 then ⟨[], [], [], 0, 0, 0, false⟩ else { s.evt with queue := [], stalled := [], attn := false }
    { s with can := CanSt.reset, evt := evt }

/-- The restore-defaults marker acts at a reset-node, and a power-on or RESET_N discards it (R451). -/
def State.useMarker (s : State) (kind : Nat) : State :=
  if kind ≤ 2 then { s with flash := { s.flash with restore := false } } else s

/-- What power and reset hold at the start of a start of a kind. -/
def PowerSt.restarted (p : PowerSt) (kind bank now : Nat) : PowerSt :=
  { p with
    held := if kind = 4 ∨ kind = 5 then some kind else none
    core := p.core && (kind == 4 || kind == 5)
    stage := 0, hold := true, transition := none, isolated := 0, freeze := none, bank := bank
    start := kind, base := now + (if kind = 4 ∨ kind = 5 then msCycles 10 else 0), since := now }

/-- The time state, where a freeze exit keeps it (R450). -/
def State.keepTime (s before : State) (kind : Nat) : State :=
  if kind = 5 then
    { s with ptp := { s.ptp with holdSince := before.ptp.holdSince } }.setObj 0x2700 2 (before.obj 0x2700 2)
  else { s with clk := { s.clk with addend := nominalAddend } }

/-- A reset of a kind other than NMT reset-communication (Table 22-6): outputs stop, and what the kind does not keep takes its
default or its saved value. -/
def State.resetInto (s : State) (kind : Nat) : State :=
  let before := s
  let count := if kind = 0 then 0 else before.nat 0x2000 5 + 1
  let s := { s with dict := before.keptDict kind, bytes := before.keptBytes kind, mem := [], slotsZero := false,
                    survey := ⟨0, []⟩, flowStats := if kind = 4 ∨ kind = 5 then s.flowStats else [] }
  let s := if kind = 4 ∨ kind = 5 then s.atlasFromForce else (s.loadStored kind).atlasFromDict
  let s := ((s.restData.dropSessions).restCore kind).useMarker kind
  let s := s.onPower fun p => p.restarted kind (before.bankFor kind) before.clk.cycles
  let s := ((s.setObj 0x2000 4 kind).setObj 0x2000 5 count).setObj 0x2300 3 s.power.straps
  (s.keepTime before kind).say .quiet

/-- A freeze ends (R355): the reset is of kind 5 whatever ended it, and ATTN_N follows the log again (R424, R445). -/
def State.freezeExit (s : State) : State := (s.resetInto 5).updateAttn

/-- The effect of NMT_RESET_NODE: within 1 ms. -/
def State.resetNode (s : State) : State :=
  if s.power.freeze.isSome then s.freezeExit else (s.cycles (msCycles 1)).resetInto 2

/-- The effect of FREEZE_HOLD_EXPIRY. -/
def State.freezeHoldExpiry (s : State) : State :=
  match s.power.freeze with
  | none => s
  | some te =>
    let h := s.nat 0x4C00 3
    if h = 0 then s else (s.until (te + secT h)).freezeExit

/-! ### RESET_N (R444) -/

/-- RESET_N is taken: the module is in reset while the pin is low. -/
def State.enterReset (s : State) : State :=
  let s := if s.power.held = some 0 then s else if s.power.freeze.isSome then s.freezeExit else s.resetInto 1
  s.onPower fun p => { p with resetLow := true }

/-- The effect of RESET_N_ASSERT. Between 1 and 10 µs the pulse may be taken or not: a free value. -/
def State.resetNAssert (s : State) (lowNs : Nat) : State :=
  if s.power.vin ≠ .running ∨ s.power.resetLow ∨ lowNs < 1000 then s
  else if 10000 ≤ lowNs then s.enterReset
  else if s.draw % 2 = 0 then s.drawn.enterReset else s.drawn

/-- The straps are sampled (R434); where nothing is saved they set their defaults. -/
def State.sampleStraps (s : State) (straps : Nat) : State :=
  let s := (s.onPower fun p => { p with straps := straps }).setObj 0x2300 3 straps
  if s.power.start ≤ 2 ∧ (s.imageFor s.power.start).isNone then s.strapDefaults else s

/-- The effect of RESET_N_RELEASE. -/
def State.resetNRelease (s : State) (straps : Nat) : State :=
  if s.power.vin ≠ .running ∨ !s.power.resetLow then s
  else
    let s := s.onPower fun p => { p with resetLow := false }
    match s.power.held with
    | some 0 => ((s.onPower fun p => { p with held := none, straps := straps }).resetInto 0).sampleStraps straps
    | some _ => s.sampleStraps straps
    | none =>
      let now := s.clk.cycles
      (s.onPower fun p => { p with base := now, since := now }).sampleStraps straps

/-! ### Watchdog and domain failures (R259, R439, R446) -/

/-- The unit is powered and neither held in reset by its pin, nor frozen (R355, R429). -/
def State.mayFail (s : State) : Bool :=
  s.power.vin == .running && !s.power.resetLow && s.power.held.isNone && s.power.freeze.isNone

/-- A watchdog reset, its event raised before the domains are released. -/
def State.watchdog (s : State) (code cause domain : Nat) : State := (s.raiseUnit code cause domain).resetInto 4

/-- The effect of WATCHDOG_RESET: 0 firmware supervision, 1 PD0 hardware watchdog. -/
def State.watchdogReset (s : State) (cause : Nat) : State := if s.mayFail then s.watchdog 0x0707 cause 0 else s

/-- The effect of SYSTEM_PLL_LOSS. -/
def State.systemPllLoss (s : State) : State := if s.mayFail then s.watchdog 0x0507 0 0 else s

/-- The engines of the isolated engine-pair domains, as a mask (R439). -/
def isolatedEngines (isolated : Nat) : Nat :=
  (List.range 8).foldl (fun m d => if isolated.testBit (10 + d) then m + 3 * 4 ^ d else m) 0

/-- The effect of DOMAIN_POWER_FAIL: an engine pair is isolated; any other domain but PD0 causes a watchdog reset. -/
def State.domainFail (s : State) (d : Nat) : State :=
  if !s.mayFail ∨ d = 0 ∨ !s.domainOn d then s
  else if 10 ≤ d ∧ d ≤ 17 then
    let mask := 3 * 4 ^ (d - 10)
    let s := s.onPower fun p => { p with isolated := setBit p.isolated d true }
    (s.showDomains.loseEngines mask).raiseUnit 0x0701 mask
  else s.watchdog 0x0707 2 d

/-- The effect of PD0_POWER_FAIL: every domain is held, and the records of PD0 are lost. -/
def State.pd0Fail (s : State) : State :=
  if s.power.vin ≠ .running then s
  else (s.onPower fun p => { p with held := some 0, core := false, freeze := none, transition := none }).say .quiet

/-- The effect of DOMAIN_RELEASE: 10 ms after the cause; or PD0's power is good again, with RESET_N high. -/
def State.domainRelease (s : State) : State :=
  if s.power.vin ≠ .running ∨ s.power.resetLow then s
  else match s.power.held with
    | none => s
    | some 0 => (s.onPower fun p => { p with held := none }).resetInto 0
    | some _ => (s.untilCycle s.power.base).onPower fun p => { p with held := none }

/-! ### Supply (R430, R431) -/

/-- The effect of VIN_START_GATE: the supply is good; RESET_N still holds the module. -/
def State.startGate (s : State) : State :=
  if s.power.vin = .off then s.onPower fun p => { p with vin := .running, resetLow := true, held := some 0 } else s

/-- The effect of VIN_OFF: everything is lost but the flash and calibration. -/
def State.vinOff (s : State) : State :=
  { State.reset with
    pending := s.pending, flash := { s.flash with restore := false }, free := s.free
    power := { PowerSt.reset with vin := .off, resetLow := true, held := some 0, bank := s.power.bank }
    out := s.out ++ [.quiet] }

/-- The effect of VIN_BELOW_LIMIT. -/
def State.vinBelowLimit (s : State) : State :=
  if s.power.vin = .running then s.onPower fun p => { p with vin := .undefinedBand } else s

/-! ### The start sequence (Table 22-4) -/

/-- COB-ID of the boot-up and heartbeat messages. -/
def State.hbCob (s : State) : Nat := 0x700 + s.can.nodeId

/-- The CAN FD path starts: boot-up, pre-operational, and operational by itself where 0x1FF0:03 says so (R387). -/
def State.bootUp (s : State) : State :=
  let op := s.nat 0x1FF0 3 == 1
  let c : CanSt := { s.can with
    nodeId := s.nat 0x1FF0 1, phase := s.nat 0x1FF0 2, nmt := if op then .operational else .preOperational
    sdo := none, usdo := [], tpdo := [], late := none, hbLast := some s.now }
  let s := { s with can := c }
  s.say (.can s.hbCob [0])

/-- The configuration in force starts to act (R453): Survey value, admitted values, ports, lanes, cascade. -/
def State.bringUp (s : State) : State :=
  let v := s.surveyOf
  let s := { s with survey := ⟨v, []⟩ }
  State.switchNet s.bare s.reportAll s.now

/-- What a stage brings, once its offset has passed. -/
def State.enterStage (s : State) (k : Nat) : State :=
  match k with
  | 1 => if s.power.start = 5 then s else { s with clk := { s.clk with merid := 0 } }
  | 2 =>
    let s := if s.power.core then s else (s.onPower fun p => { p with core := true }).bootUp
    (s.updateAttn).raiseUnit 0x0801 s.power.start (s.nat 0x1018 3)
  | 3 => s.setObj 0x2C00 1 2
  | _ => s.bringUp

/-- The effect of START_STAGE. -/
def State.startStage (s : State) : State :=
  if s.power.vin ≠ .running ∨ s.power.resetLow ∨ s.power.held.isSome ∨ s.power.freeze.isSome ∨ 4 ≤ s.power.stage then s
  else
    let k := s.power.stage
    let s := s.untilCycle (s.power.base + msCycles (stageOffsets.getD k 0))
    (s.onPower fun p => { p with stage := k + 1 }).enterStage (k + 1)

/-! ### NMT reset-communication (R387, R443) -/

/-- The communication objects 0x1000 to 0x1FFF as saved, or at their defaults. -/
def State.reloadComm (s : State) : State :=
  let comm (k : Nat) : Bool := decide (0x1000 ≤ keyIdx k ∧ keyIdx k < 0x2000) && retentionOf k == .stored
  let commB (k : Nat) : Bool := comm (k / 0x100000000)
  let s := { s with dict := s.dict.filter fun p => !comm p.1, bytes := s.bytes.filter fun p => !commB p.1 }
  match s.flash.newest with
  | some x => { s with
      dict := overlay s.dict (x.dict.filter fun p => comm p.1), bytes := overlay s.bytes (x.bytes.filter fun p => commB p.1) }
  | none => s.strapDefaults

/-- Every object of 0x2F00 but the epoch takes its default. -/
def State.clearCommitObjects (s : State) : State :=
  { s with dict := s.dict.filter fun p => keyIdx p.1 != 0x2F00 || keySub p.1 == 7 }

/-- The effect of NMT_RESET_COMMUNICATION. Nothing else stops. -/
def State.resetComm (s : State) : State :=
  let s := s.commit.pending.foldl (fun s p => s.withdrawMoves p.target) s
  let commit := { s.commit with sessions := [], regs := [], pending := [], relay := none }
  let s := { s with commit := commit, ops := [], exfer := ⟨[], s.exfer.nextId, s.exfer.nextXfer, none⟩ }
  let s := (s.onCasc fun x => { x with rejoin := none }).clearCommitObjects.reloadComm
  let s := (s.setObj 0x2000 4 3).setObj 0x2000 5 (s.nat 0x2000 5 + 1 : Nat)
  let now := s.clk.cycles
  ({ s with can := { CanSt.reset with emcy := s.can.emcy, emcyLast := s.can.emcyLast } }.onPower
    fun p => { p with since := now }).bootUp

/-! ### Power states (R440, R441) -/

/-- A configuration that leaves nothing running, and pair and cascade off. -/
def State.atRest (v : State) : Bool :=
  v.chansOn.isEmpty && v.streamsOn.isEmpty && v.audioOn.isEmpty && v.nat 0x2200 1 == 0 && v.nat 0x2300 1 == 0

/-- Every configuration from the one in force to the last pending one. -/
def State.everyAhead (s : State) (f : State → Bool) : Bool :=
  (List.range (s.commit.pending.length + 1)).all fun k => f (s.afterPending k)

/-- Whether Table 22-2 allows a request. -/
def State.mayEnter (s : State) (v : Nat) : Bool :=
  match s.nat 0x2000 2, v with
  | 0, 1 => s.everyAhead fun x => x.chansOn.isEmpty
  | 1, 0 => true
  | 0, 2 => !s.isRunning && s.everyAhead State.atRest && (List.range 6).all fun k => !s.opBusy (k + 1)
  | 1, 2 => !s.isRunning && s.everyAhead State.atRest && (List.range 6).all fun k => !s.opBusy (k + 1)
  | 2, 0 => true
  | 2, 1 => true
  | _, _ => false

/-- The effect of POWER_STATE_REQUEST, and its answer. -/
def State.powerRequest (s : State) (v : Nat) : State × Nat :=
  if s.power.transition.isSome ∨ s.power.freeze.isSome ∨ s.power.stage ≠ 4 ∨ !s.mayEnter v then (s, 0x08000022)
  else ((s.setObj 0x2000 1 v).onPower fun p => { p with transition := some v }, 0)

/-- Standby is entered: ports and lanes go down, and Exfer's sessions with them. -/
def State.enterStandby (s : State) : State :=
  let s := s.setObj 0x2C00 1 0
  { s with ports := [], links := [], egress := ⟨[], [], [], [], [], []⟩, queues := [], exfer := ⟨[], s.exfer.nextId, s.exfer.nextXfer, none⟩ }.say
    .quiet

/-- Standby is left (Table 22-6): Volatile configuration and Runtime state take their defaults, but for Meridian and the time
state; the stored values act again, and nothing is held (R440). -/
def State.leaveStandby (s : State) : State :=
  let keep (k : Nat) : Bool := match retentionOf k with
    | .volatile => false
    | .runtime => keyIdx k == 0x2000 || keyIdx k == 0x2700
    | _ => true
  let s := { s with dict := s.dict.filter fun p => keep p.1, bytes := s.bytes.filter fun p => keep (p.1 / 0x100000000),
                    mem := [], slotsZero := false }
  let ptp := s.ptp
  let s := { s.atlasFromForce.restData.dropSessions with ptp := ptp }
  let s := ((s.setObj 0x2300 3 s.power.straps).setObj 0x2C00 1 2).setObj 0x2B00 3 (0xFFFF ^^^ isolatedEngines s.power.isolated : Nat)
  (s.onPower fun p => { p with hold := false }).bringUp

/-- The effect of POWER_TRANSITION_COMPLETE. -/
def State.transitionComplete (s : State) : State :=
  match s.power.transition with
  | none => s
  | some v =>
    let was := s.nat 0x2000 2
    let s := s.onPower fun p => { p with transition := none }
    let s := if was = 2 ∧ v ≠ 2 then s.leaveStandby else if v = 2 then s.enterStandby else s
    ((s.setObj 0x2000 2 v).setObj 0x2000 1 v).showDomains

end Sys2Proof.Machine
end

