-- ==== Sys2Proof/Machine/Access.lean ====
section
/-! DEFINITION. Access.lean: reading and writing the object dictionary, by whichever path (R374-R380, R400-R403, R487). -/

namespace Sys2Proof.Machine

/-! ### Which objects are served (R353, R389, R441) -/

/-- The PD0 set (R353). -/
def pd0Obj (idx : Nat) : Bool :=
  (decide (0x1000 ≤ idx) && decide (idx < 0x2000)) || [0x2000, 0x2C00, 0x2C10, 0x2E00, 0x4E00, 0x6E00].contains idx

/-- The whole dictionary is served: the configuration is in force, and the module is not frozen. -/
def State.allServed (s : State) : Bool :=
  s.coreUp && s.power.held.isNone && s.power.stage == 4 && s.power.freeze.isNone

/-- The meaning of a command that needs the whole dictionary served: the configuration in force, and no freeze. -/
def State.actServed (s : State) (f : State → State) : Host.Outcome State Fault Refusal :=
  s.act fun s => if s.allServed then f s else s

/-- A client's access to an index is served. Exfer is up with its ports: not in Standby. -/
def State.served (s : State) (c : Client) (idx : Nat) : Bool :=
  match c with
  | .exfer _ => s.allServed && s.nat 0x2000 2 != 2
  | _ => s.coreUp && (s.allServed || pd0Obj idx)

/-! ### Reading -/

/-- The name of an object's template. -/
def baseOf (idx sub : Nat) : Nat := (place idx sub).base

/-- Read-only objects of a channel that read 0 while it is disabled (R56, R104, R124). -/
def zeroWhileOff (base sub : Nat) : Bool :=
  (base == 0x3000 && [9, 0xA, 0xB].contains sub) || (base == 0x3003) || (base == 0x3004 && [2, 3].contains sub) ||
  (base == 0x3005 && [2, 6].contains sub) || (base == 0x3006 && [4, 5, 9, 0xB].contains sub) || base == 0x5007 ||
  (base == 0x5008 && [8, 9, 0xA].contains sub)

/-- The group of a lane is off (R297). -/
def State.laneOff (s : State) (lane : Nat) : Bool := s.nat 0x2100 (lane / 4 + 1) == 0

/-- A read-only object of a numbered unit that is off: streams, audio ports, pair and cascade state (R180, R207), lanes
whose group is off, and links that are not configured (R297). -/
def State.offObject (s : State) (idx sub : Nat) : Bool :=
  let p := place idx sub
  (zeroWhileOff p.base sub && !s.chanOn p.inst) ||
  (p.base == 0x2500 && decide (0x1C ≤ sub ∧ sub ≤ 0x1E) && !s.strOn p.inst) ||
  (p.base == 0x2900 && [0xB, 0xC, 0xD].contains sub && s.ap p.inst 1 == 0) ||
  (p.base == 0x4900 && sub == 2 && s.ap p.inst 1 == 0) ||
  ((idx == 0x2200 && [3, 9, 0xD, 0xE, 0x11, 0x12].contains sub || p.base == 0x300B && [1, 5, 6].contains sub) && !s.paired) ||
  ((idx == 0x2300 && [3, 8, 9].contains sub || idx == 0x2301 || p.base == 0x300C && sub == 4) && s.nat 0x2300 1 == 0) ||
  (p.base == 0x2800 && [2, 8, 9, 0xB, 0xC, 0xD, 0xE].contains sub && s.laneOff p.inst) ||
  (decide (0x2810 ≤ idx ∧ idx ≤ 0x2812) && (s.link (idx - 0x2810)).lanes.isEmpty)

/-- State of the entry that the destination window shows (Table 11-4). -/
def State.entryState (s : State) : Nat :=
  let d := s.nat 0x2600 1
  let e := s.dest d
  if !s.destOn d then 0 else if !s.selected e then 2 else if (s.destMac e).isNone then 3 else 1

/-- The master's own status word (0x2301:01): state, lost, Survey value (R206). -/
def State.ownStatus (s : State) : Nat :=
  s.nat 0x2300 8 % 8 + 8 * b2n (s.casc.lost.testBit 0) + 0x100 * (s.survey.value % 0x1000000)

/-- Numeric objects that are computed when they are read. -/
def State.computed (s : State) (c : Client) (idx sub : Nat) : Option Int :=
  let r := s.regsOf c
  let p := place idx sub
  if s.offObject idx sub then some 0
  else match p.base, sub with
  | 0x1001, 0 => some (s.errorRegister : Int)
  | 0x1018, 4 => some (Config.serial % 0x100000000 : Nat)
  | 0x1FF1, 2 => some (s.exfer.sessions.length : Int)
  | 0x2000, 6 => some (((s.clk.cycles - s.power.since) / 125000000) % 0x100000000 : Nat)
  | 0x2301, 1 => if s.isMaster then some (s.ownStatus : Int) else none
  | 0x2600, 3 => some ((if s.destOn (s.nat 0x2600 1) then
      rankOf (s.ranked (s.dest (s.nat 0x2600 1)).port) (s.nat 0x2600 1) else 0 : Nat) : Int)
  | 0x2600, 4 => some (s.entryState : Int)
  | 0x2700, 8 => some (s.holdError : Int)
  | 0x2702, 1 => some (b2n (decide (1 ≤ s.power.stage)) : Nat)
  | 0x2908, 1 => some ((4 * s.audioBase * s.now / perSec) % 0x10000000000000000 : Nat)
  | 0x2C00, 9 => if s.domainOn 21 then none else some (-128)
  | 0x2D00, 1 => some (s.survey.value : Int)
  | 0x2E00, 1 => some (s.evt.newest : Int)
  | 0x2E00, 2 => some (((s.evt.log.head?.map recSerial).getD 0 : Nat) : Int)
  | 0x2F00, 1 => some (r.ident : Int)
  | 0x2F00, 2 => some (r.secs : Int)
  | 0x2F00, 3 => some (r.nanos : Int)
  | 0x2F00, 4 => some (r.epoch : Int)
  | 0x2F00, 5 => some 0
  | 0x2F00, 6 => some (r.status : Int)
  | 0x2F00, 8 => some (s.commit.pending.length : Int)
  | 0x2F00, 0xA => some (r.abort : Int)
  | 0x2F00, 0xB => some (r.relay : Int)
  | 0x3001, 3 => some (if s.ch p.inst 1 1 = 2 then 0 else 1)
  | 0x5007, k => some ((s.chan p.inst).bufWord (k - 1) : Nat)
  | 0x6100, 7 => some (b2n (s.slotBusy p.inst) : Nat)
  | _, _ => none

/-- A decimal number's characters. -/
def decimal (n : Nat) : List Byte := (Nat.repr n).toList.map fun ch => BitVec.ofNat 8 ch.toNat

/-- The characters of a text. -/
def text (t : String) : List Byte := t.toList.map fun ch => BitVec.ofNat 8 ch.toNat

/-- The strings of Table 0-5. -/
def State.stringOf (s : State) (idx : Nat) : List Byte :=
  if idx = 0x1008 then text "OVL4808"
  else if idx = 0x1009 then text "C"
  else text "4.1." ++ decimal (s.runningBank.patch.getD Config.patchLevel)

/-- One byte of an OCTET_STRING or DOMAIN as a read sees it. -/
def State.readByte (s : State) (idx sub off : Nat) : Byte :=
  if idx = 0x1FF2 ∨ (0x6300 ≤ idx ∧ idx ≤ 0x630F ∧ s.laneOff (idx - 0x6300)) then 0
  else if idx = 0x6201 then (s.flowStatus (off / 64)).getD (off % 64) 0
  else if idx = 0x6E00 then (s.evt.log.getD (off / 32) []).getD (off % 32) 0
  else if idx = 0x2E00 then (s.evt.log.getLastD []).getD off 0
  else if idx = 0x2400 ∧ sub = 2 then s.byteAt 0x6200 1 (64 * s.nat 0x2400 1 + off)
  else if idx = 0x2400 then (s.flowStatus (s.nat 0x2400 1)).getD off 0
  else if idx = 0x2600 then s.byteAt 0x6202 1 (32 * s.nat 0x2600 1 + off)
  else if idx = 0x2700 ∧ sub = 1 then s.meridianBytes.getD off 0
  else s.byteAt idx sub off

/-- The value of a numeric object as a client reads it. -/
def State.readNum (s : State) (c : Client) (idx sub : Nat) : Int := (s.computed c idx sub).getD (s.obj idx sub)

/-- Bytes `off` to `off + len − 1`, or all from `off` on. -/
def State.readRange (s : State) (idx sub off : Nat) (len : Option Nat) : List Byte :=
  (List.range (len.getD (s.sizeOf idx sub - off))).map fun i => s.readByte idx sub (off + i)

/-- The capture FIFO's read, which removes what it returns (R282). -/
def isCapture (o : Obj) : Bool := (baseOf o.idx o.sub == 0x2710) && o.sub == 0xB

/-- The die temperature is a free value (log 3). -/
def isTemperature (o : Obj) : Bool := o == ⟨0x2000, 7⟩

/-- The lanes of a group send code words of RS-FEC (Table 10-1). -/
def State.rsFec (s : State) (lane : Nat) : Bool :=
  let mode := s.nat 0x2100 (lane / 4 + 1)
  decide (1 ≤ mode ∧ mode ≤ 4) && s.nat 0x2100 (lane / 4 + 5) == 0

/-- A counter of what happens in memory or on a lane and is no command: corrected errors (R348, R356), requests past
their latency target (R349), RS-FEC code words (Table 13-6). -/
def State.physicalCounter (s : State) (o : Obj) : Bool :=
  let p := place o.idx o.sub
  (o == ⟨0x2C00, 2⟩ && s.domainOn 21) || (o == ⟨0x2C00, 7⟩ && (s.domainOn 22 || s.domainOn 23)) ||
  (o.idx == 0x4C01 && decide (0x11 ≤ o.sub ∧ o.sub ≤ 0x1A) && s.domainOn 21) ||
  (p.base == 0x2800 && [0xC, 0xD].contains o.sub && s.rsFec p.inst)

/-- Such a counter has risen by a free amount since it was last read (R416). -/
def State.counted (s : State) (o : Obj) : State :=
  if s.physicalCounter o then (s.count o.idx o.sub s.draw).drawn else s

/-- A read: the state after it, the abort code or 0, and the value. `len` is none for the whole value. -/
def State.hostRead (s : State) (c : Client) (o : Obj) (off : Nat) (len : Option Nat) : State × Nat × List Byte :=
  if !s.served c o.idx then (s, 0x08000022, [])
  else match rowOf o.idx o.sub with
  | none =>
    if !indexExists o.idx then (s, 0x06020000, [])
    else if o.sub = 0 ∧ hasSub00 o.idx then (s, 0, [BitVec.ofNat 8 (highestSub o.idx)])
    else (s, 0x06090011, [])
  | some r =>
    match r.ty with
    | .vstr => (s, 0, s.stringOf o.idx)
    | .octets n =>
      if n < off + len.getD 0 ∨ n < off then (s, 0x06090030, [])
      else if isCapture o then
        let t := s.captureRead ((place o.idx o.sub).inst)
        (t.1, 0, slice t.2 off (len.getD (n - off)))
      else (s, 0, s.readRange o.idx o.sub off len)
    | .domain _ =>
      if s.sizeOf o.idx o.sub < off + len.getD 0 then (s, 0x06090030, []) else (s, 0, s.readRange o.idx o.sub off len)
    | ty =>
      if isTemperature o then (s.drawn, 0, [BitVec.ofNat 8 s.draw])
      else (s.counted o, 0, ty.bytes ((s.counted o).readNum c o.idx o.sub))

/-! ### Immediate objects that are commands, or that act at once -/

/-- The number that a write carries. -/
def HostWrite_num (w : HostWrite) : Nat := leNat w.data

/-- What a changed value means for every configuration ahead (R381): the one in force and that of each pending commit. -/
def State.aheadCode (s t : State) : Nat :=
  firstCode (State.checkConfig s t :: (List.range s.commit.pending.length).map fun k =>
    State.checkConfig (t.afterPending k) (t.afterPending (k + 1)))

/-- A write that only changes its object. -/
def State.plainWrite (s : State) (w : HostWrite) : State × Nat :=
  ((s.putWrite w).surveyChanged w.obj.idx w.obj.sub, 0)

/-- A write to a commit field (R379-R385). No answer yet: none. -/
def State.commitField (s : State) (c : Client) (sub v : Nat) : State × Option Nat :=
  match sub with
  | 1 => if v = 0 then (s.abandonSession c, some 0) else (let t := s.openSession c v; (t.1, some t.2))
  | 2 => (s.onRegs c fun r => { r with secs := v }, some 0)
  | 3 => (s.onRegs c fun r => { r with nanos := v }, some 0)
  | 4 => (s.onRegs c fun r => { r with epoch := v }, some 0)
  | 5 => if v = 1 then s.execute c else (s, some 0)
  | 0xB => (s.onRegs c fun r => { r with relay := v }, some 0)
  | _ => let t := s.withdraw v; (t.1, some t.2)

/-- "save" and "load" (R388). -/
def saveWord : Nat := 0x65766173
def loadWord : Nat := 0x64616F6C

/-- The save object: the answer follows when the save has ended. -/
def State.storeParameters (s : State) (c : Client) (v : Nat) : State × Option Nat :=
  if v ≠ saveWord then (s, some 0x08000020)
  else
    let t := s.startOp 6
    if t.2 ≠ 0 then (s, some t.2) else ({ t.1 with can := { t.1.can with saveWait := some c } }, none)

/-- The restore object. -/
def State.restoreDefaults (s : State) (v : Nat) : State × Nat :=
  if v = loadWord then ({ s with flash := { s.flash with restore := true } }, 0) else (s, 0x08000020)

/-- The common trigger is armed (R306). -/
def State.triggerArm (s : State) : State × Nat :=
  let source := s.nat 0x2908 2
  let t := secT (s.nat 0x2908 3) + nsT (s.nat 0x2908 4)
  if source = 0 ∧ t < msT 1 + s.now then (s, 0x08000022)
  else ({ s with audio := { s.audio with trigger := some ⟨source, t⟩ } }.setObj 0x2908 5 1, 0)

/-- The common trigger is disarmed. -/
def State.triggerDisarm (s : State) : State :=
  { s with audio := { s.audio with trigger := none } }.setObj 0x2908 5 0

/-- A stopped trace starts again (Table 16-6). -/
def State.traceEnable (s : State) (v : Nat) : State :=
  let s := s.setObj 0x4B01 5 v
  if v = 1 then { s with orch := { s.orch with stopLeft := none } }.setObj 0x2B00 0xB 0 else s

/-- An Immediate object that the configuration checks read: it must leave every configuration ahead admissible, and links and
cascade follow it. -/
def State.configWrite (s : State) (w : HostWrite) : State × Nat :=
  let t := s.putWrite w
  let code := State.aheadCode s t
  if code ≠ 0 then (s, code)
  else
    let t := t.surveyChanged w.obj.idx w.obj.sub
    let t := if w.obj = ⟨0x2300, 2⟩ ∧ t.nat 0x2300 1 ≠ 0 ∧ s.nat 0x2300 2 ≠ t.nat 0x2300 2 then t.cascadeStart else t
    (t.configureLinks, 0)

/-- Whether a PDO may map an object: it exists, and an RPDO's takes Immediate writes (R387). -/
def mayMap (rpdo : Bool) (v : Nat) : Bool :=
  v == 0 ||
  match rowOf (v / 0x10000 % 0x10000) (v / 0x100 % 0x100) with
  | some r => decide (8 * r.ty.size = v % 0x100) && (!rpdo || (r.rw && r.apply == .immediate))
  | none => false

/-- Bytes that a PDO's first n mapped objects take. -/
def State.mapBytes (s : State) (idx n : Nat) : Nat :=
  ((List.range n).map fun i => s.nat idx (i + 1) % 0x100 / 8).sum

/-- A write to a PDO mapping object. -/
def State.mapWrite (s : State) (w : HostWrite) : State × Nat :=
  let v := HostWrite_num w
  let rpdo := decide (w.obj.idx < 0x1800)
  let limit := if s.can.phase = 0 then 8 else 64
  let after := s.putWrite w
  if w.obj.sub ≠ 0 ∧ !mayMap rpdo v then (s, 0x06040041)
  else if limit < after.mapBytes w.obj.idx (after.nat w.obj.idx 0) then (s, 0x06040042)
  else s.plainWrite w

/-- Pre-cursor and post-cursor together (R285). -/
def State.cursorWrite (s : State) (w : HostWrite) : State × Nat :=
  let other := s.nat w.obj.idx (9 - w.obj.sub)
  if 16 < HostWrite_num w + other then (s, 0x06040043) else s.plainWrite w

/-- The write of 1 that ends a freeze (R355). -/
def State.exitWrite (s : State) (v : Nat) : State × Nat :=
  if v ≠ 1 then (s, 0) else if s.power.freeze.isSome then (s.freezeExit, 0) else (s, 0x08000022)

/-- The write of 1 that commits the Atlas pending set; what stops with it may end a disagreement. -/
def State.atlasWrite (s : State) (v : Nat) : State × Nat :=
  if v ≠ 1 then (s, 0)
  else
    let t := s.atlasCommit
    if t.2 ≠ 0 then (s, t.2) else (t.1.configurePlls.reviewDisagreement, 0)

/-- The rest of a pair, without its last part. -/
def answered (t : State × Nat) : State × Option Nat := (t.1, some t.2)

/-- Objects whose Immediate write needs the state's leave: 0x08000022 where it is withheld (R154, R180, R316). -/
def State.busyWrite (s : State) (o : Obj) : Bool :=
  (isSlot o.idx && o.sub == 1 && s.slotBusy (o.idx - 0x6100)) ||
  (o.idx == 0x6205 && s.bufferLocked (o.sub - 1)) ||
  (o.idx == 0x2200 && [2, 6, 8].contains o.sub && s.nat 0x2200 1 == 1)

/-- An Immediate write in its place (R377). -/
def State.immediateWrite (s : State) (c : Client) (w : HostWrite) : State × Option Nat :=
  let v := HostWrite_num w
  let sub := w.obj.sub
  let p := place w.obj.idx sub
  if s.busyWrite w.obj then (s, some 0x08000022)
  else match p.base, sub with
  | 0x1010, _ => s.storeParameters c v
  | 0x1011, _ => answered (s.restoreDefaults v)
  | 0x1600, _ => answered (s.mapWrite w)
  | 0x1A00, _ => answered (s.mapWrite w)
  | 0x2000, _ => answered (s.powerRequest v)
  | 0x2200, _ => answered (s.configWrite w)
  | 0x2300, _ => answered (s.configWrite w)
  | 0x2700, _ => answered (s.meridianWrite w.data)
  | 0x2701, k => if k ≤ 3 then ((s.plainWrite w).1.ptpReconfigure, some 0) else answered (s.plainWrite w)
  | 0x2710, 1 => (let t := s.tioModeWrite p.inst v; (t.1.reviewDisagreement, some t.2))
  | 0x2800, 4 => answered (s.cursorWrite w)
  | 0x2800, 5 => answered (s.cursorWrite w)
  | 0x2800, 0xA => if v = 1 then (s.laneRetrain p.inst, some 0) else (s, some 0)
  | 0x2908, 5 => if v = 1 then answered s.triggerArm else (s.triggerDisarm, some 0)
  | 0x2A00, _ => answered (s.atlasWrite v)
  | 0x2C10, _ => answered (s.exitWrite v)
  | 0x2D01, 5 => if v = 1 then answered s.hostCheckStart else (s, some 0)
  | 0x2E00, 4 => answered (s.acknowledge v)
  | 0x2E00, _ => ((s.plainWrite w).1.updateAttn, some 0)
  | 0x2F00, k =>
    if k < 0x10 then s.commitField c k v
    else if k % 0x10 = 0 then answered (s.commandOp (k / 0x10) v)
    else answered (s.plainWrite w)
  | 0x4410, 4 => answered (s.gateListArm p.inst v)
  | 0x4700, 4 => ((s.plainWrite w).1.reviewDisagreement, some 0)
  | 0x4B01, 5 => (s.traceEnable v, some 0)
  | _, _ => answered (s.plainWrite w)

/-! ### Frame objects (R377, R322) -/

/-- A Frame write of a channel (R17, R34): only while it is disabled, and in force at once; the last slots of a channel that
still runs read what was in force before (R488). -/
def State.channelFrame (s : State) (w : HostWrite) : State × Nat :=
  let p := place w.obj.idx w.obj.sub
  let t := s.putWrite w
  if s.frameBarred w then (s, 0x08000022)
  else
    let code := State.aheadCode s t
    if code ≠ 0 then (s, code)
    else
      let t := t.surveyChanged w.obj.idx w.obj.sub
      (if (s.chan p.inst).running then t.keepUndo s s.now [w] else t, 0)

/-- The paths setting: at once while no channel runs, else at the next picture-level decision. -/
def State.pathsWrite (s : State) (w : HostWrite) : State × Nat :=
  if s.chans.any (fun p => p.2.running) then
    (s.onCommit fun x => { x with held := Tab.put x.held (key w.obj.idx w.obj.sub) (HostWrite_num w) }, 0)
  else s.plainWrite w

/-- The session of a client at the master that marks its commit for relay: it holds the Frame writes of the canvas channel
(log 129). -/
def State.relaySession (s : State) (c : Client) (w : HostWrite) : Option Session :=
  if s.isMaster && (s.regsOf c).relay == 1 && s.canvasFrame w then s.sessionOf c else none

/-- A Frame write. -/
def State.frameWrite (s : State) (c : Client) (w : HostWrite) : State × Nat :=
  let b := baseOf w.obj.idx w.obj.sub
  match s.relaySession c w with
  | some x => if s.frameBarred w then (s, 0x08000022) else (s.holdWrite x w, 0)
  | none =>
    if b = 0x2A00 ∨ b = 0x2A10 then (s.putWrite w, 0)
    else if b = 0x2200 then s.pathsWrite w
    else s.channelFrame w

/-! ### Writing -/

/-- A Staged write (R379, R380). -/
def State.stagedWrite (s : State) (c : Client) (w : HostWrite) : State × Nat :=
  let code := s.stagedCode w.obj
  if code ≠ 0 then (s, code)
  else match s.sessionOf c with
    | some x => (s.holdWrite x w, 0)
    | none => s.implicitCommit c w

/-- Keys may be written only over CAN FD (R392). -/
def keyBarred (c : Client) (idx : Nat) : Bool :=
  match c with
  | .exfer _ => idx == 0x1FF2
  | _ => false

/-- What stands against a write before its own effect (R353, R375, R374, R206, R369). -/
def State.writeCode (s : State) (c : Client) (w : HostWrite) : Nat :=
  if !s.served c w.obj.idx then 0x08000022
  else
    let code := s.typeCode w
    if code ≠ 0 then code
    else if keyBarred c w.obj.idx then 0x06010002
    else if s.memberLocked w.obj.idx ∨ s.checkLocked w.obj.idx w.obj.sub (w.off.getD 0) w.data.length then 0x08000022
    else 0

/-- A host write: the state after it, and the answer; none where the answer follows later. -/
def State.hostWrite (s : State) (c : Client) (w : HostWrite) : State × Option Nat :=
  let code := s.writeCode c w
  if code ≠ 0 then (s, some code)
  else match rowOf w.obj.idx w.obj.sub with
    | none => (s, some 0x06020000)
    | some r =>
      match r.apply with
      | .staged => answered (s.stagedWrite c w)
      | .frame => answered (s.frameWrite c w)
      | .immediate => s.immediateWrite c w

/-- The answer goes out, where there is one. -/
def State.answer (t : State × Option Nat) (c : Client) : State :=
  match t.2 with
  | some code => t.1.say (.confirm c code)
  | none => t.1

/-- A host write with its answer. -/
def State.write (s : State) (c : Client) (w : HostWrite) : State :=
  if s.coreUp then State.answer (s.hostWrite c w) c else s

/-- A write of a number of n bytes. -/
def numWrite (idx sub n v : Nat) : HostWrite := ⟨⟨idx, sub⟩, none, leBytes n v⟩

/-! ### Host check (R369) -/

/-- The effect of HOST_CHECK_COMPLETE. -/
def State.hostCheckComplete (s : State) : State :=
  match s.hostCheck with
  | none => s
  | some h => s.hostCheckEnds (crc32c ((List.range h.len).map fun i => s.readByte h.idx h.sub (h.off + i))) h.expected

end Sys2Proof.Machine
end

