-- ==== Sys2Proof/Machine/Can.lean ====
section
/-! DEFINITION. Can.lean: the CAN FD services: NMT, SDO, USDO, PDOs, heartbeat, EMCY (R386-R389, R400, R425). -/

namespace Sys2Proof.Machine

/-- What the CAN FD path holds changes. -/
def State.onCan (s : State) (f : CanSt → CanSt) : State := { s with can := f s.can }

/-! ### NMT (R387) -/

/-- The NMT slave runs, and a command for a node is for this one: 0 addresses all. -/
def State.nmtMine (s : State) (node : Nat) : Bool :=
  s.coreUp && s.can.nmt != .initialising && (node == 0 || node == s.can.nodeId)

/-- A command that only changes the NMT state. -/
def State.nmtState (s : State) (node : Nat) (n : Nmt) : State :=
  if s.nmtMine node then s.onCan fun c => { c with nmt := n } else s

/-- The effects of NMT_START, NMT_STOP, NMT_ENTER_PRE_OPERATIONAL, NMT_RESET_NODE and NMT_RESET_COMMUNICATION. -/
def State.nmtStart (s : State) (node : Nat) : State := s.nmtState node .operational
def State.nmtStop (s : State) (node : Nat) : State := s.nmtState node .stopped
def State.nmtPreOp (s : State) (node : Nat) : State := s.nmtState node .preOperational
def State.nmtResetNode (s : State) (node : Nat) : State := if s.nmtMine node then s.resetNode else s
def State.nmtResetComm (s : State) (node : Nat) : State := if s.nmtMine node then s.resetComm else s

/-- SDO, USDO and EMCY are served (Table 19-3). -/
def State.sdoUp (s : State) : Bool := s.coreUp && (s.can.nmt == .preOperational || s.can.nmt == .operational)

/-- The operational state. -/
def State.nmtOp (s : State) : Bool := s.coreUp && s.can.nmt == .operational

/-! ### SDO answers (CiA 301, as in the example of R389) -/

/-- The SDO transfer in progress. -/
def State.setSdo (s : State) (x : Option SdoXfer) : State := s.onCan fun c => { c with sdo := x }

/-- The transfer in progress ends with an abort code. -/
def State.sdoAbort (s : State) (o : Obj) (code : Nat) : State :=
  (s.setSdo none).sdoSay (abortFrame o code)

/-- The object of the transfer in progress. -/
def State.sdoObj (s : State) : Obj := (s.can.sdo.map (·.obj)).getD ⟨0, 0⟩

/-- The answer to a download: `ok` confirms it; one that is not known yet follows later. -/
def State.sdoAnswer (t : State × Option Nat) (o : Obj) (ok : List Byte) : State :=
  match t.2 with
  | none => t.1.onCan fun c => { c with late := some (o, ok) }
  | some 0 => t.1.sdoSay ok
  | some code => t.1.sdoAbort o code

/-! ### Transfers -/

/-- What stands against a download of a size: nothing of its value is known yet. -/
def State.sizeCode (s : State) (c : Client) (o : Obj) (size : Nat) : Nat :=
  if !s.served c o.idx then 0x08000022
  else match rowOf o.idx o.sub with
  | none =>
    if !indexExists o.idx then 0x06020000
    else if o.sub = 0 ∧ hasSub00 o.idx then 0x06010002 else 0x06090011
  | some r =>
    if !r.rw then 0x06010002
    else match r.ty with
    | .vstr => need (decide (size ≤ 32)) 0x06070010
    | .domain _ => need (decide (size ≤ s.sizeOf o.idx o.sub)) 0x06090030
    | ty => need (size == ty.size) 0x06070010

/-- A download that begins. -/
def State.downXfer (s : State) (o : Obj) (size : Nat) (block : Bool) : SdoXfer :=
  ⟨o, false, block, size, [], false, 127, [], s.now⟩

/-- The next segment of a download: the code against it, and the transfer after it. -/
def segmentInto (x : SdoXfer) (toggle last : Bool) (data : List Byte) (now : Tick) : Nat × SdoXfer :=
  let all := x.data ++ data
  if x.up || x.block then (0x05040001, x)
  else if toggle != x.toggle then (0x05030000, x)
  else if x.size < all.length ∨ (last ∧ all.length ≠ x.size) then (0x06070010, x)
  else (0, { x with data := all, toggle := !toggle, last := now })

/-- The bit of a toggle in a specifier. -/
def toggleBit (t : Bool) : Nat := if t then 0x10 else 0

/-- The effect of SDO_DOWNLOAD. -/
def State.sdoDownload (s : State) (r : SdoDown) : State :=
  if !s.sdoUp then s
  else match r with
  | .expedited o data => State.sdoAnswer ((s.setSdo none).hostWrite .sdo ⟨o, none, data⟩) o (sdoFrame 0x60 o [])
  | .initiate o size =>
    let code := s.sizeCode .sdo o size
    if code ≠ 0 then s.sdoAbort o code
    else (s.setSdo (some (s.downXfer o size false))).sdoSay (sdoFrame 0x60 o [])
  | .segment toggle last data =>
    (match s.can.sdo with
     | none => s.sdoAbort ⟨0, 0⟩ 0x05040001
     | some x =>
       let t := segmentInto x toggle last data s.now
       let ok := [BitVec.ofNat 8 (0x20 + toggleBit toggle)]
       if t.1 ≠ 0 then s.sdoAbort x.obj t.1
       else if last then State.sdoAnswer ((s.setSdo none).hostWrite .sdo ⟨x.obj, none, t.2.data⟩) x.obj ok
       else (s.setSdo (some t.2)).sdoSay ok)
  | .badSpecifier => s.sdoAbort s.sdoObj 0x05040001

/-- An upload begins: the value is read once, here. -/
def State.uploadStart (s : State) (o : Obj) : State :=
  match s.hostRead .sdo o 0 none with
  | (s, code, data) =>
    if code ≠ 0 then s.sdoAbort o code
    else if data.length ≤ 4 then (s.setSdo none).sdoSay (sdoFrame (0x43 + 4 * (4 - data.length)) o data)
    else (s.setSdo (some ⟨o, true, false, data.length, data, false, 0, data, s.now⟩)).sdoSay
      (sdoFrame 0x41 o (leBytes 4 data.length))

/-- The effect of SDO_UPLOAD. -/
def State.sdoUpload (s : State) (r : SdoUp) : State :=
  if !s.sdoUp then s
  else match r with
  | .initiate o => s.uploadStart o
  | .segment toggle =>
    match s.can.sdo with
    | none => s.sdoAbort ⟨0, 0⟩ 0x05040001
    | some x =>
      if !x.up || x.block then s.sdoAbort x.obj 0x05040001
      else if toggle != x.toggle then s.sdoAbort x.obj 0x05030000
      else
        let part := x.data.take 7
        let rest := x.data.drop 7
        let spec := toggleBit toggle + 2 * (7 - part.length) + b2n rest.isEmpty
        let next := if rest.isEmpty then none else some { x with data := rest, toggle := !toggle, last := s.now }
        (s.setSdo next).sdoSay (BitVec.ofNat 8 spec :: part)

/-! ### Block transfer -/

/-- The CRC that CiA 301 gives a block transfer: the polynomial of CRC-16 with initial value 0 (PRESUMED, log 40). -/
def sdoCrc (bs : List Byte) : Nat := bs.foldl crc16Byte 0

/-- The segments of the next block that the module sends: sequence number, with bit 7 on the transfer's last, and 7 bytes. -/
def blockFrames : Nat → Nat → List Byte → List (List Byte)
  | 0, _, _ => []
  | n + 1, q, bs =>
    if bs.isEmpty then []
    else
      let last := bs.length ≤ 7
      (BitVec.ofNat 8 (q + if last then 0x80 else 0) :: bs.take 7) :: blockFrames n (q + 1) (bs.drop 7)

/-- The module sends a block of an upload. -/
def State.sendBlock (s : State) (x : SdoXfer) : State :=
  (blockFrames x.blkSize 1 x.data).foldl State.sdoSay (s.setSdo (some { x with last := s.now }))

/-- A received block's segments: the code against them, and the data they bring. A block that does not begin with number 1
brings none. -/
def blockInto (x : SdoXfer) (firstSeq : Nat) (segs : List (List Byte)) : Nat × List Byte × Nat :=
  if x.up || !x.block || x.toggle then (0x05040001, [], 0)
  else if firstSeq = 0 ∨ 127 < firstSeq + segs.length - 1 then (0x05040003, [], 0)
  else if firstSeq ≠ 1 then (0, [], 0)
  else (0, segs.flatten, segs.length)

/-- The end of a block download: its length and CRC, then the write. -/
def State.endBlock (s : State) (x : SdoXfer) (crc : Nat) : State :=
  let data := x.data.take x.size
  if x.up || !x.block || !x.toggle then s.sdoAbort x.obj 0x05040001
  else if x.data.length < x.size ∨ x.size + 7 ≤ x.data.length then s.sdoAbort x.obj 0x06070010
  else if sdoCrc data ≠ crc then s.sdoAbort x.obj 0x05040004
  else State.sdoAnswer ((s.setSdo none).hostWrite .sdo ⟨x.obj, none, data⟩) x.obj [0xA1]

/-- A block upload begins, and its first block follows. -/
def State.blockUpload (s : State) (o : Obj) (blockSize : Nat) : State :=
  if blockSize = 0 ∨ 127 < blockSize then s.sdoAbort o 0x05040002
  else match s.hostRead .sdo o 0 none with
    | (s, code, data) =>
      if code ≠ 0 then s.sdoAbort o code
      else (s.sdoSay (sdoFrame 0xC6 o (leBytes 4 data.length))).sendBlock
        ⟨o, true, true, data.length, data, false, blockSize, data, s.now⟩

/-- The client acknowledges segments of the last block: the next block follows, or the end with the CRC. -/
def State.blockAck (s : State) (x : SdoXfer) (acked blockSize : Nat) : State :=
  if !x.up || !x.block then s.sdoAbort x.obj 0x05040001
  else if x.blkSize < acked ∨ cdiv x.data.length 7 < acked then s.sdoAbort x.obj 0x05040003
  else if blockSize = 0 ∨ 127 < blockSize then s.sdoAbort x.obj 0x05040002
  else
    let rest := x.data.drop (7 * acked)
    if rest.isEmpty then
      let pad := (7 - x.size % 7) % 7
      (s.setSdo none).sdoSay (BitVec.ofNat 8 (0xC1 + 4 * pad) :: leBytes 2 (sdoCrc x.whole))
    else s.sendBlock { x with data := rest, blkSize := blockSize }

/-- The effect of SDO_BLOCK_TRANSFER. -/
def State.sdoBlockTransfer (s : State) (r : SdoBlock) : State :=
  if !s.sdoUp then s
  else match r with
  | .initDown o size =>
    let code := s.sizeCode .sdo o size
    if code ≠ 0 then s.sdoAbort o code
    else (s.setSdo (some (s.downXfer o size true))).sdoSay (sdoFrame 0xA4 o [127])
  | .initUp o blockSize => s.blockUpload o blockSize
  | .block firstSeq segs last =>
    (match s.can.sdo with
     | none => s.sdoAbort ⟨0, 0⟩ 0x05040001
     | some x =>
       let t := blockInto x firstSeq segs
       if t.1 ≠ 0 then s.sdoAbort x.obj t.1
       else
         let x := { x with data := x.data ++ t.2.1, toggle := last && decide (t.2.2 = segs.length), last := s.now }
         (s.setSdo (some x)).sdoSay [0xA2, BitVec.ofNat 8 t.2.2, 127])
  | .endDown crc =>
    (match s.can.sdo with
     | none => s.sdoAbort ⟨0, 0⟩ 0x05040001
     | some x => s.endBlock x crc)
  | .ackUp acked blockSize =>
    match s.can.sdo with
    | none => s.sdoAbort ⟨0, 0⟩ 0x05040001
    | some x => s.blockAck x acked blockSize

/-! ### USDO -/

/-- Clients served at most (Table 19-3). -/
def usdoClients : Nat := 4

/-- A node's transfer takes a value; a node not served before joins the clients. -/
def State.setUsdo (s : State) (node : Nat) (x : Option SdoXfer) : State :=
  s.onCan fun c => { c with usdo := c.usdo.filter (fun p => p.1 != node) ++ [(node, x)] }

/-- A node's transfer in progress. -/
def State.usdoOf (s : State) (node : Nat) : Option SdoXfer := (s.can.usdo.find? fun p => p.1 == node).bind (·.2)

/-- A node is one of the clients, or can become one. -/
def State.usdoMay (s : State) (node : Nat) : Bool :=
  s.can.usdo.any (fun p => p.1 == node) || decide (s.can.usdo.length < usdoClients)

/-- The answer to a USDO write, where it is known. -/
def State.usdoAnswer (t : State × Option Nat) (node : Nat) : State :=
  match t.2 with
  | none => t.1
  | some code => t.1.say (.usdo node code [])

/-- One request of a client that is served. -/
def State.usdoServe (s : State) (node : Nat) (r : UsdoReq) : State :=
  let c := Client.usdo node
  match r with
  | .write o off data => State.usdoAnswer ((s.setUsdo node none).hostWrite c ⟨o, off, data⟩) node
  | .read o off len =>
    let t := (s.setUsdo node none).hostRead c o (off.getD 0) (off.map fun _ => len)
    t.1.say (.usdo node t.2.1 t.2.2)
  | .writeStart o size =>
    let code := s.sizeCode c o size
    (s.setUsdo node (if code = 0 then some (s.downXfer o size false) else none)).say (.usdo node code [])
  | .segment toggle last data =>
    match s.usdoOf node with
    | none => s.say (.usdo node 0x05040001 [])
    | some x =>
      let t := segmentInto x toggle last data s.now
      if t.1 ≠ 0 then (s.setUsdo node none).say (.usdo node t.1 [])
      else if last then State.usdoAnswer ((s.setUsdo node none).hostWrite c ⟨x.obj, none, t.2.data⟩) node
      else (s.setUsdo node (some t.2)).say (.usdo node 0 [])

/-- The effect of USDO_REQUEST: FD frames only. -/
def State.usdoRequest (s : State) (node : Nat) (r : UsdoReq) : State :=
  if !s.sdoUp || s.can.phase == 0 then s
  else if !s.usdoMay node then s.say (.usdo node 0x08000022 [])
  else s.usdoServe node r

/-- The effect of SDO_TIMEOUT: 1 s without the next segment (R400). -/
def State.sdoTimeout (s : State) (c : Client) : State :=
  if !s.sdoUp then s
  else match c with
  | .sdo =>
    (match s.can.sdo with
     | none => s
     | some x => (s.until (secT 1 + x.last)).sdoAbort x.obj 0x05040000)
  | .usdo node =>
    (match s.usdoOf node with
     | none => s
     | some x => ((s.until (secT 1 + x.last)).setUsdo node none).say (.usdo node 0x05040000 []))
  | .exfer _ => s
  | .rpdo _ => s

/-! ### PDOs (R387) -/

/-- A communication parameter's COB-ID is valid: bit 31 is clear (CiA 301). -/
def State.pdoOn (s : State) (idx : Nat) : Bool := !(s.nat idx 1).testBit 31

/-- Mapped objects of a PDO: object and bytes, in order. -/
def State.mapped_ (s : State) (idx : Nat) : List (Obj × Nat) :=
  ((List.range (s.nat idx 0)).map fun i =>
    let v := s.nat idx (i + 1)
    ((⟨v / 0x10000 % 0x10000, v / 0x100 % 0x100⟩ : Obj), v % 0x100 / 8)).filter fun p => p.1.idx != 0

/-- The mapped values of a received PDO are written in order. -/
def State.rpdoWrites (s : State) (c : Client) : List (Obj × Nat) → List Byte → State
  | [], _ => s
  | (o, n) :: r, data => State.rpdoWrites (s.hostWrite c ⟨o, none, data.take n⟩).1 c r (data.drop n)

/-- The effect of RPDO_RECEIVE. -/
def State.rpdoReceive (s : State) (n : Nat) (data : List Byte) : State :=
  let m := s.mapped_ (0x1600 + n)
  if !s.nmtOp || !s.pdoOn (0x1400 + n) || decide (data.length < (m.map (·.2)).sum) then s
  else s.rpdoWrites (.rpdo n) m data

/-- The present value of a TPDO, with the state after its objects have been read. -/
def State.tpdoValue (s : State) (n : Nat) : State × List Byte :=
  (s.mapped_ (0x1A00 + n)).foldl (fun t p =>
    let r := t.1.hostRead (.rpdo n) p.1 0 none
    (r.1, t.2 ++ fit p.2 r.2.2)) (s, [])

/-- When a TPDO is due: on change after the inhibit time, or at its event timer; none while neither holds. -/
def State.tpdoDue (s : State) (n : Nat) : Option Tick :=
  let r := Tab.get ⟨[], none⟩ s.can.tpdo n
  let timer := s.nat (0x1800 + n) 5
  let changed := (s.tpdoValue n).2 != r.sent
  match r.last with
  | none => if changed ∨ timer ≠ 0 then some s.now else none
  | some t =>
    let onTimer := t + msT timer
    let onChange := t + usT (100 * s.nat (0x1800 + n) 3)
    if changed then some (if timer = 0 then onChange else min onChange onTimer)
    else if timer = 0 then none else some onTimer

/-- The effect of TPDO_SEND. -/
def State.tpdoSend (s : State) (n : Nat) : State :=
  if !s.nmtOp || !s.pdoOn (0x1800 + n) || (s.mapped_ (0x1A00 + n)).isEmpty then s
  else match s.tpdoDue n with
    | none => s
    | some due =>
      let t := (s.until due).tpdoValue n
      let s := t.1
      let now := s.now
      let s := s.onCan fun c => { c with tpdo := Tab.put c.tpdo n ⟨t.2, some now⟩ }
      s.say (.can (s.nat (0x1800 + n) 1 % 0x800) t.2)

/-! ### Heartbeat, node-ID conflict, EMCY -/

/-- The state byte of a heartbeat. -/
def nmtByte : Nmt → Byte
  | .initialising => 0x00
  | .stopped => 0x04
  | .operational => 0x05
  | .preOperational => 0x7F

/-- The effect of CAN_HEARTBEAT_SEND. -/
def State.canHeartbeatSend (s : State) : State :=
  let period := s.nat 0x1017 0
  if !s.coreUp || s.can.nmt == .initialising || period == 0 then s
  else
    let s := match s.can.hbLast with
      | some t => s.until (t + msT period)
      | none => s
    let now := s.now
    (s.onCan fun c => { c with hbLast := some now }).say (.can s.hbCob [nmtByte s.can.nmt])

/-- The effect of NODE_ID_CONFLICT: a boot-up or heartbeat with the unit's own COB-ID (R386). -/
def State.nodeIdConflict (s : State) (cob : Nat) : State :=
  if s.coreUp && s.can.nmt != .initialising && cob == s.hbCob then s.raiseUnit 0x0802 s.can.nodeId else s

/-- The effect of EMCY_SEND: the oldest message, 1 ms after the last at the earliest (R425). -/
def State.emcySend (s : State) : State :=
  match s.can.emcy with
  | [] => s
  | m :: rest =>
    if !s.sdoUp || (s.nat 0x1014 0).testBit 31 then s
    else
      let s := match s.can.emcyLast with
        | some t => s.until (msT 1 + t)
        | none => s
      let now := s.now
      (s.onCan fun c => { c with emcy := rest, emcyLast := some now }).say (.can (s.nat 0x1014 0 % 0x800) m)

end Sys2Proof.Machine
end

