-- ==== Sys2Proof/Machine/Exfer.lean ====
section
/-! DEFINITION. Exfer.lean: the Exfer server: sessions, reads and writes, block transfers, subscriptions, relays, and pair
heartbeat notifies (R390-R397, R427). -/

namespace Sys2Proof.Machine

/-! ### What reaches the server (R390, R392, R397) -/

/-- The server runs on a port: all objects are served, the port is up, and 0x1FF1:01 is 1. -/
def State.exferUp (s : State) (p : Nat) : Bool :=
  s.allServed && s.nat 0x2000 2 != 2 && s.flag 0x1FF1 1 && s.portUp p

/-- A datagram is for the server: on the port's management VLAN, to its address. -/
def State.exferMine (s : State) (d : ExferHdr) : Bool :=
  s.exferUp d.port && d.vlan == s.nat 0x2104 (d.port + 1) && d.dst == s.nat 0x2101 (d.port + 1) && d.dst != 0

/-- The relay position names another unit. -/
def State.exferElsewhere (s : State) (d : ExferHdr) : Bool :=
  d.relay != 0xFF && !(s.inCascade && d.relay == s.pos)

/-- The link to another member of a formed cascade, that is present and not lost. -/
def State.relayLink (s : State) (q : Nat) : Option Nat :=
  if s.inCascade && decide (2 ≤ s.nat 0x2300 8) && !s.memberAway q then s.route q else none

/-- An error in answer to a datagram of no session of this unit. -/
def State.exferError (s : State) (d : ExferHdr) (code : Nat) : State :=
  let bytes := exferBytes (field d.raw 1 1) (flagResponse + flagError) 0 d.session d.seq 0xFF (beBytes 4 code)
  s.manage d.port (28 + bytes.length) (.exfer d.port bytes [])

/-- A datagram for another member is forwarded as it is (R397). -/
def State.exferForward (s : State) (d : ExferHdr) : State :=
  match s.relayLink d.relay with
  | some k => s.transmit k 2 3 3 (d.raw ++ d.tag)
  | none => s.exferError d 0x08000022

/-- A datagram's tag fits its session: an unauthenticated session takes none. -/
def State.tagGood (s : State) (x : ExferSession) (d : ExferHdr) : Bool :=
  if x.keySlot = 0 then !d.auth
  else d.auth && d.keySlot == x.keySlot && s.hasKey d.keySlot && d.tag == s.sessionTag x d.raw

/-- A datagram arrives: what passes every check is handled in its session, whose idle time starts again. -/
def State.exferIn (s : State) (d : ExferHdr) (f : State → ExferSession → State) : State :=
  if !s.exferMine d then s
  else if !d.good then s.count 0x1FF1 5
  else if s.exferElsewhere d then s.exferForward d
  else match s.exferSession d.session with
    | none => if d.auth then s.count 0x1FF1 6 else s
    | some x =>
      if !s.tagGood x d then s.count 0x1FF1 6
      else
        let x := { x with last := s.now }
        f (s.putExfer x) x

/-- The answer to the last request of a session: code and body. -/
def State.exferAnswer (s : State) (id type_ code : Nat) (body : List Byte) : State :=
  match s.exferSession id with
  | some x => s.exferReply x type_ code body
  | none => s

/-- A numbered request (R393): served once; `free` names the ones that an unauthenticated session serves. No answer yet:
none. -/
def State.exferRequest (s : State) (d : ExferHdr) (type_ : Nat) (free : Bool)
    (f : State → State × Option (Nat × List Byte)) : State :=
  s.exferIn d fun s x =>
    if d.seq = x.q then s.exferResend x
    else if d.seq ≠ (x.q + 1) % 0x100000000 then s.count 0x1FF1 7
    else
      let s := s.putExfer { x with q := d.seq, stored := (0, type_, []) }
      if x.keySlot = 0 ∧ !free then s.exferAnswer d.session type_ 0x06010000 []
      else
        let t := f s
        match t.2 with
        | some (code, body) => t.1.exferAnswer d.session type_ code body
        | none => t.1

/-! ### Sessions (R391) -/

/-- Sessions held at most, and the idle timeout in seconds. -/
def exferLimit : Nat := 16
def exferIdle : Nat := 60

/-- The next session or transfer ID from `n` on that is not 0 and not in use. -/
def freeId (used : List Nat) : Nat → Nat → Nat
  | 0, n => n % 0x10000
  | k + 1, n => if n % 0x10000 = 0 ∨ used.contains (n % 0x10000) then freeId used k (n + 1) else n % 0x10000

/-- A session opens. The module nonce is a free value. -/
def State.openExfer (s : State) (d : ExferHdr) (nonce : List Byte) : State :=
  let id := freeId (s.exfer.sessions.map (·.ident)) 32 s.exfer.nextId
  let x : ExferSession := ⟨id, d.port, d.keySlot, nonce, beBytes 8 (s.draw % 2 ^ 64), 0, (0, 0, []), s.now, none, none⟩
  let s := s.drawn.onExfer fun e => { e with sessions := e.sessions ++ [x], nextId := (id + 1) % 0x10000 }
  s.exferOut x 1 flagResponse d.seq
    (beBytes 2 id ++ x.moduleNonce ++ beBytes 4 (Config.serial % 0x100000000) ++ beBytes 2 exferIdle)

/-- The effect of EXFER_SESSION_OPEN. -/
def State.exferSessionOpen (s : State) (d : ExferHdr) (nonce : List Byte) : State :=
  if !s.exferMine d then s
  else if !d.good then s.count 0x1FF1 5
  else if s.exferElsewhere d then s.exferForward d
  else if d.keySlot ≠ 0 ∧ !s.hasKey d.keySlot then s.count 0x1FF1 6
  else if exferLimit ≤ s.exfer.sessions.length then s.exferError d 0x08000022
  else s.openExfer d nonce

/-- A session is no more. -/
def State.dropExfer (s : State) (id : Nat) : State :=
  s.onExfer fun e => { e with sessions := e.sessions.filter fun x => x.ident != id }

/-- The effect of EXFER_SESSION_CLOSE: answered, then gone. -/
def State.exferSessionClose (s : State) (d : ExferHdr) : State :=
  s.exferRequest d 2 true fun s => ((s.exferAnswer d.session 2 0 []).dropExfer d.session, none)

/-- The effect of EXFER_SESSION_IDLE_TIMEOUT. -/
def State.exferIdleTimeout (s : State) (id : Nat) : State :=
  match s.exferSession id with
  | none => s
  | some x => (s.until (x.last + secT exferIdle)).dropExfer id

/-! ### Reads, writes and commits -/

/-- Bytes of a body at most (R390). -/
def exferBody : Nat := 1400

/-- The effect of EXFER_READ. -/
def State.exferRead (s : State) (d : ExferHdr) (o : Obj) (off len : Nat) : State :=
  s.exferRequest d 0x10 true fun s =>
    if exferBody < len then (s, some (0x06070010, []))
    else
      let t := s.hostRead (.exfer d.session) o off (some len)
      (t.1, some t.2)

/-- An object's type carries an offset. -/
def hasOffset (o : Obj) : Bool :=
  match rowOf o.idx o.sub with
  | some r => (match r.ty with | .octets _ => true | .domain _ => true | _ => false)
  | none => false

/-- The effect of EXFER_WRITE. -/
def State.exferWrite (s : State) (d : ExferHdr) (o : Obj) (off : Nat) (data : List Byte) : State :=
  s.exferRequest d 0x11 false fun s =>
    let t := s.hostWrite (.exfer d.session) ⟨o, if hasOffset o then some off else none, data⟩
    (t.1, t.2.map fun code => (code, []))

/-- The effect of EXFER_COMMIT (R385). -/
def State.exferCommit (s : State) (d : ExferHdr) (record : List Byte) : State :=
  s.exferRequest d 0x40 false fun s =>
    let t := s.commitFromRecord (.exfer d.session) record
    (t.1, t.2.map fun code => (code, []))

/-- The effect of EXFER_RELAY: the datagram goes to the member; `response` is what it sent back, if it has. -/
def State.exferRelay (s : State) (d : ExferHdr) (response : Option (List Byte)) : State :=
  if !s.exferMine d || !d.good || !s.exferElsewhere d then (if s.exferMine d && !d.good then s.count 0x1FF1 5 else s)
  else
    let s' := s.exferForward d
    match s.relayLink d.relay, response with
    | some _, some bytes => s'.manage d.port (28 + bytes.length) (.exfer d.port bytes [])
    | _, _ => s'

/-! ### Block transfers (R394) -/

/-- Bytes of a block, and blocks past the last acknowledged offset. -/
def blockBytes : Nat := 1024
def blockWindow : Nat := 32

/-- A session's transfer takes a value. -/
def State.setBlock (s : State) (id : Nat) (b : Option ExferBlock) : State :=
  match s.exferSession id with
  | some x => s.putExfer { x with block := b }
  | none => s

/-- A session's transfer, where it has this ID. -/
def State.blockOf (s : State) (id transfer : Nat) : Option ExferBlock :=
  (s.exferSession id).bind fun x => x.block.filter fun b => b.ident == transfer

/-- What stands against a block open. -/
def State.blockCode (s : State) (c : Client) (o : Obj) (fromModule : Bool) (off total : Nat) : Nat :=
  if !s.served c o.idx then 0x08000022
  else match rowOf o.idx o.sub with
  | none => if indexExists o.idx then 0x06090011 else 0x06020000
  | some r =>
    let room := need (decide (off + total ≤ s.sizeOf o.idx o.sub)) 0x06090030
    let free := need (!(s.busyWrite o) && !(s.memberLocked o.idx)) 0x08000022
    if fromModule then firstCode [need (isDomain o.idx o.sub) 0x06070010, room]
    else firstCode [need r.rw 0x06010002, need (isDomain o.idx o.sub) 0x06070010, room, free]

/-- The module sends the blocks from an offset up to `upTo`, each with its offset. -/
def State.sendBlocks (s : State) (x : ExferSession) (b : ExferBlock) : Nat → Nat → State
  | 0, _ => s
  | k + 1, at_ =>
    let end_ := b.off + b.total
    if end_ ≤ at_ then s
    else
      let n := min blockBytes (end_ - at_)
      let body := beBytes 2 b.ident ++ zeros 2 ++ beBytes 4 at_ ++ slice b.held (at_ - b.off) n
      (s.exferOut x 0x21 0 0 body).sendBlocks x b k (at_ + n)

/-- The module sends what the window allows past the last acknowledged offset. -/
def State.fillWindow (s : State) (id : Nat) : State :=
  match s.exferSession id with
  | none => s
  | some x =>
    match x.block with
    | none => s
    | some b =>
      let limit := min (b.off + b.total) (b.next + blockWindow * blockBytes)
      let s := s.sendBlocks x b (cdiv (limit - b.sent) blockBytes) b.sent
      s.setBlock id (some { b with sent := max b.sent limit })

/-- The effect of EXFER_BLOCK_OPEN: from the module the first blocks follow the response. -/
def State.exferBlockOpen (s : State) (d : ExferHdr) (o : Obj) (fromModule : Bool) (off total : Nat) : State :=
  s.exferRequest d 0x20 fromModule fun s =>
    let c := Client.exfer d.session
    let busy := ((s.exferSession d.session).bind (·.block)).isSome
    let code := firstCode [s.blockCode c o fromModule off total, need (!busy) 0x08000022]
    if code ≠ 0 then (s, some (code, []))
    else
      let id := freeId [] 2 s.exfer.nextXfer
      let held := if fromModule then s.readRange o.idx o.sub off (some total) else []
      let b : ExferBlock := ⟨id, o, fromModule, off, total, off, off, 0, held, s.now, s.now⟩
      let s := (s.setBlock d.session (some b)).onExfer fun e => { e with nextXfer := (id + 1) % 0x10000 }
      let s := s.exferAnswer d.session 0x20 0 (beBytes 2 id ++ beBytes 2 blockWindow)
      (if fromModule then s.fillWindow d.session else s, none)

/-- The object of a transfer is Staged: its bytes are held. -/
def stagedObj (o : Obj) : Bool :=
  match rowOf o.idx o.sub with
  | some r => r.apply == .staged
  | none => false

/-- The module acknowledges what it has: the next contiguous offset. -/
def State.ackBlock (s : State) (id : Nat) (b : ExferBlock) : State :=
  match s.exferSession id with
  | some x => s.exferOut x 0x22 0 0 (beBytes 2 b.ident ++ beBytes 4 b.next)
  | none => s

/-- A block in its place: held, or written at once; a write that its object's rules reject ends the transfer. -/
def State.takeBlock (s : State) (id : Nat) (b : ExferBlock) (data : List Byte) : State :=
  let t := if stagedObj b.obj then (s, some 0) else s.hostWrite (.exfer id) ⟨b.obj, some b.next, data⟩
  if t.2 ≠ some 0 then t.1.setBlock id none
  else
    let n := b.unacked + 1
    let held := if stagedObj b.obj then b.held ++ data else b.held
    let b := { b with next := b.next + data.length, held := held, last := s.now, unacked := n % 8 }
    let s := t.1.setBlock id (some b)
    if n = 8 then s.ackBlock id b else s

/-- The effect of EXFER_BLOCK_DATA: a gap is acknowledged at once, and its block is not kept. -/
def State.exferBlockData (s : State) (d : ExferHdr) (transfer off : Nat) (data : List Byte) : State :=
  s.exferIn d fun s _ =>
    if d.seq ≠ 0 then s.count 0x1FF1 7
    else match s.blockOf d.session transfer with
    | none => s
    | some b =>
      if b.fromModule ∨ b.off + b.total < off + data.length then s
      else if off ≠ b.next then
        let b := { b with unacked := 0 }
        (s.setBlock d.session (some b)).ackBlock d.session b
      else s.takeBlock d.session b data

/-- An acknowledgement moves a transfer on. -/
def State.ackTo (s : State) (id : Nat) (b : ExferBlock) (next : Nat) : State × Option (Nat × List Byte) :=
  if !b.fromModule ∨ next < b.next ∨ b.sent < next then (s, some (0x06090030, []))
  else
    let b := if next = b.next then b else { b with next := next, last := s.now, resent := s.now }
    let s := (s.setBlock id (some b)).exferAnswer id 0x22 0 []
    (s.fillWindow id, none)

/-- The effect of EXFER_BLOCK_ACK. -/
def State.exferBlockAck (s : State) (d : ExferHdr) (transfer next : Nat) : State :=
  s.exferRequest d 0x22 true fun s =>
    match s.blockOf d.session transfer with
    | none => (s, some (0x08000022, []))
    | some b => s.ackTo d.session b next

/-- The end of a transfer: every byte has come, or gone, and the CRC-32C of the whole range is right. -/
def State.endTransfer (s : State) (id : Nat) (b : ExferBlock) (crc : Nat) : State × Nat :=
  let whole := if b.fromModule ∨ stagedObj b.obj then b.held else s.readRange b.obj.idx b.obj.sub b.off (some b.total)
  let all := if b.fromModule then b.sent else b.next
  let s := s.setBlock id none
  if all ≠ b.off + b.total ∨ crc32c whole ≠ crc then (s, 0x05040004)
  else if b.fromModule ∨ !stagedObj b.obj then (s, 0)
  else
    let w : HostWrite := ⟨b.obj, some b.off, b.held⟩
    let code := s.writeCode (.exfer id) w
    if code ≠ 0 then (s, code) else s.stagedWrite (.exfer id) w

/-- The effect of EXFER_BLOCK_END. -/
def State.exferBlockEnd (s : State) (d : ExferHdr) (transfer crc : Nat) : State :=
  let up := ((s.blockOf d.session transfer).map (·.fromModule)).getD false
  s.exferRequest d 0x23 up fun s =>
    match s.blockOf d.session transfer with
    | none => (s, some (0x08000022, []))
    | some b =>
      let t := s.endTransfer d.session b crc
      (t.1, some (t.2, []))

/-- The effect of EXFER_BLOCK_RESEND: 20 ms without progress, the module sends again from the acknowledged offset. -/
def State.exferBlockResend (s : State) (id : Nat) : State :=
  match s.exferSession id with
  | none => s
  | some x =>
    match x.block with
    | none => s
    | some b =>
      if !b.fromModule ∨ b.sent ≤ b.next then s
      else
        let s := s.until (msT 20 + max b.last b.resent)
        let s := s.setBlock id (some { b with resent := s.now })
        s.sendBlocks x b (cdiv (b.sent - b.next) blockBytes) b.next

/-- The effect of EXFER_BLOCK_STALL: 10 s without progress end a transfer, and what it held is dropped. -/
def State.exferBlockStall (s : State) (id : Nat) : State :=
  match (s.exferSession id).bind (·.block) with
  | none => s
  | some b => (s.until (secT 10 + b.last)).setBlock id none

/-- What a failed descriptor on a mover channel does to the transfers: one of channels 24-31 (Table 17-6) that firmware queued may
have carried one of them, which then ends (R361, R394). Which one, or none, is left open (log 34). -/
def State.descriptorFails (s : State) (channel : Nat) : State :=
  let open_ := (s.exfer.sessions.filter fun x => x.block.isSome).map (·.ident)
  if channel < 24 || !(s.mover channel).ring.isEmpty || open_.isEmpty then s
  else
    match open_[s.draw % (open_.length + 1)]? with
    | some id => (s.setBlock id none).drawn
    | none => s.drawn

/-! ### Subscriptions (R395, R427) -/

/-- The effect of EXFER_SUBSCRIBE. -/
def State.exferSubscribe (s : State) (d : ExferHdr) (minSev first : Nat) : State :=
  s.exferRequest d 0x30 true fun s =>
    let now := s.now
    let recs := s.evt.log.filter fun r => decide (first ≤ recSerial r) && decide (minSev ≤ recSeverity r)
    match s.exferSession d.session with
    | some x => (s.putExfer { x with sub := some ⟨minSev, recs.map fun r => (now, r)⟩ }, some (0, []))
    | none => (s, none)

/-- Records in a notify at most (Table 19-5). -/
def notifySize : Nat := 32

/-- The effect of NOTIFY_SEND: when 32 records wait, or the batching delay of the oldest has passed. -/
def State.notifySend (s : State) (id : Nat) : State :=
  match s.exferSession id with
  | none => s
  | some x =>
    match x.sub with
    | none => s
    | some u =>
      match u.queue with
      | [] => s
      | p :: _ =>
        let s := if notifySize ≤ u.queue.length then s else s.until (p.1 + usT (s.nat 0x4E00 1))
        let recs := (u.queue.take notifySize).map (·.2)
        let s := (s.putExfer { x with sub := some { u with queue := u.queue.drop notifySize } }).count 0x4E00 2
        s.exferOut x 0x31 0 0 (beBytes 1 recs.length ++ zeros 3 ++ recs.flatten)

/-! ### Pair heartbeat notifies (R396) -/

/-- Whether two values of 32-bit nanoseconds lie within 1,000,000 of each other. -/
def within1ms (a b : Nat) : Bool := (serialDiff 32 a b).natAbs ≤ 1000000

/-- A notify whose tag is right is accepted. -/
def State.notifyFresh (s : State) (serial : Nat) (rec : List Byte) : Bool :=
  let partner := s.nat 0x2200 0x11
  (partner == 0 || partner == serial) && recOk 1 rec && within1ms (field rec 8 4) s.now32 &&
  (match s.exfer.hb with
   | some (n, q, t) => n != serial || decide (q < field rec 4 4) || decide (usT 150 + t < s.now)
   | none => true)

/-- The effect of PAIR_HEARTBEAT_NOTIFY. -/
def State.pairHeartbeatNotify (s : State) (serial : Nat) (rec raw tag : List Byte) : State :=
  if !(List.range 8).any s.exferUp then s
  else if !s.hasKey (s.nat 0x1FF1 3) || tag != s.pairTag serial raw then s.count 0x1FF1 6
  else if !s.paired || !s.notifyFresh serial rec then s
  else
    let now := s.now
    let s := (s.onExfer fun e => { e with hb := some (serial, field rec 4 4, now) }).setObj 0x2200 0x11 serial
    s.hearHeartbeat rec true

end Sys2Proof.Machine
end

