-- ==== Sys2Proof/Machine/CommitCommands.lean ====
section
/-! DEFINITION. CommitCommands.lean: the commands of commits, long operations and command objects (R378-R385, R388, R398). -/

namespace Sys2Proof.Machine

/-- The meaning of a host write: the write and its answer. -/
def State.actWrite (s : State) (c : Client) (w : HostWrite) : Host.Outcome State Fault Refusal :=
  s.act fun s => s.write c w

/-! ### Commits -/

/-- COMMIT_SESSION_OPEN (R379). -/
def execCommitSessionOpen (c : Client) (ident : Nat) (s : State) : Host.Outcome State Fault Refusal :=
  s.actWrite c (numWrite 0x2F00 1 4 ident)

/-- COMMIT_SESSION_ABANDON (R379). -/
def execCommitSessionAbandon (c : Client) (s : State) : Host.Outcome State Fault Refusal :=
  s.actWrite c (numWrite 0x2F00 1 4 0)

/-- STAGED_WRITE (R379). -/
def execStagedWrite (c : Client) (w : HostWrite) (s : State) : Host.Outcome State Fault Refusal := s.actWrite c w

/-- IMPLICIT_COMMIT (R380): a Staged write outside a session. -/
def execImplicitCommit (c : Client) (w : HostWrite) (s : State) : Host.Outcome State Fault Refusal := s.actWrite c w

/-- COMMIT_EXECUTE (R381). -/
def execCommitExecute (c : Client) (s : State) : Host.Outcome State Fault Refusal := s.actWrite c (numWrite 0x2F00 5 1 1)

/-- COMMIT_WITHDRAW (R384). -/
def execCommitWithdraw (c : Client) (ident : Nat) (s : State) : Host.Outcome State Fault Refusal :=
  s.actWrite c (numWrite 0x2F00 0xC 4 ident)

/-- COMMIT_TARGET (R382). -/
def execCommitTarget (s : State) : Host.Outcome State Fault Refusal := s.actServed State.commitTarget

/-- SESSION_TIMEOUT (R379). -/
def execSessionTimeout (c : Client) (s : State) : Host.Outcome State Fault Refusal :=
  s.actServed fun s => s.sessionTimeout c

/-- FRAME_OBJECT_WRITE (R377). -/
def execFrameObjectWrite (c : Client) (w : HostWrite) (s : State) : Host.Outcome State Fault Refusal := s.actWrite c w

/-- OBJECT_WRITE (R375-R377, R487). -/
def execObjectWrite (c : Client) (w : HostWrite) (s : State) : Host.Outcome State Fault Refusal := s.actWrite c w

/-! ### Long operations -/

/-- A write to the command field of kind k (Table 19-10). -/
def State.actOp (s : State) (c : Client) (k v : Nat) : Host.Outcome State Fault Refusal :=
  s.actWrite c (numWrite 0x2F00 (0x10 * k) 1 v)

/-- FIRMWARE_INSTALL_START (kind 1). -/
def execFirmwareInstallStart (c : Client) (s : State) : Host.Outcome State Fault Refusal := s.actOp c 1 1

/-- MEMORY_TEST_START (kind 2). -/
def execMemoryTestStart (c : Client) (s : State) : Host.Outcome State Fault Refusal := s.actOp c 2 1

/-- EYE_SCAN_START (kind 3). -/
def execEyeScanStart (c : Client) (s : State) : Host.Outcome State Fault Refusal := s.actOp c 3 1

/-- CASCADE_JOIN_START (kind 4). -/
def execCascadeJoinStart (c : Client) (s : State) : Host.Outcome State Fault Refusal := s.actOp c 4 1

/-- PAIR_RESYNC_START (kind 5). -/
def execPairResyncStart (c : Client) (s : State) : Host.Outcome State Fault Refusal := s.actOp c 5 1

/-- DICTIONARY_SAVE_START (kind 6). -/
def execDictionarySaveStart (c : Client) (s : State) : Host.Outcome State Fault Refusal := s.actOp c 6 1

/-- OPERATION_SUSPEND. -/
def execOperationSuspend (c : Client) (k : Nat) (s : State) : Host.Outcome State Fault Refusal := s.actOp c k 2

/-- OPERATION_RESUME. -/
def execOperationResume (c : Client) (k : Nat) (s : State) : Host.Outcome State Fault Refusal := s.actOp c k 3

/-- OPERATION_CANCEL. -/
def execOperationCancel (c : Client) (k : Nat) (s : State) : Host.Outcome State Fault Refusal := s.actOp c k 4

/-- OPERATION_COMPLETE (R399). -/
def execOperationComplete (k : Nat) (o : OpOutcome) (s : State) : Host.Outcome State Fault Refusal :=
  s.actServed fun s => s.operationComplete k o

/-! ### Command objects -/

/-- STORE_PARAMETERS (R388). -/
def execStoreParameters (c : Client) (value : Nat) (s : State) : Host.Outcome State Fault Refusal :=
  s.actWrite c (numWrite 0x1010 1 4 value)

/-- RESTORE_DEFAULTS (R388). -/
def execRestoreDefaults (c : Client) (value : Nat) (s : State) : Host.Outcome State Fault Refusal :=
  s.actWrite c (numWrite 0x1011 1 4 value)

/-- ATLAS_COMMIT (R322). -/
def execAtlasCommit (c : Client) (s : State) : Host.Outcome State Fault Refusal := s.actWrite c (numWrite 0x2A00 7 1 1)

/-- FREEZE_EXIT (R355). -/
def execFreezeExit (c : Client) (s : State) : Host.Outcome State Fault Refusal := s.actWrite c (numWrite 0x2C10 0xB 1 1)

/-- HOST_CHECK_START (R369). -/
def execHostCheckStart (c : Client) (s : State) : Host.Outcome State Fault Refusal := s.actWrite c (numWrite 0x2D01 5 1 1)

/-- HOST_CHECK_COMPLETE (R369). -/
def execHostCheckComplete (s : State) : Host.Outcome State Fault Refusal := s.actServed State.hostCheckComplete

/-- TRIGGER_ARM (R306). -/
def execTriggerArm (c : Client) (s : State) : Host.Outcome State Fault Refusal := s.actWrite c (numWrite 0x2908 5 1 1)

/-- TRIGGER_DISARM (R306). -/
def execTriggerDisarm (c : Client) (s : State) : Host.Outcome State Fault Refusal := s.actWrite c (numWrite 0x2908 5 1 0)

/-- TRIGGER_FIRE (R306), for a Meridian trigger; an edge on a TIO pin fires it in TIO_CAPTURE. -/
def execTriggerFire (s : State) : Host.Outcome State Fault Refusal := s.actLive State.triggerFire

/-- TIO_MODE_WRITE (R279). -/
def execTioModeWrite (c : Client) (pin mode : Nat) (s : State) : Host.Outcome State Fault Refusal :=
  s.actWrite c (numWrite (0x2710 + pin) 1 1 mode)

/-- TIO_EDGE (R280). -/
def execTioEdge (pin : Nat) (s : State) : Host.Outcome State Fault Refusal := s.actServed fun s => s.tioEdge pin

/-- FRAME_PULSE (R281). -/
def execFramePulse (pin : Nat) (s : State) : Host.Outcome State Fault Refusal := s.actServed fun s => s.framePulse pin

/-- TIO_CAPTURE (R282). -/
def execTioCapture (pin : Nat) (rising : Bool) (pulseNs : Nat) (s : State) : Host.Outcome State Fault Refusal :=
  s.actServed fun s => s.tioCapture pin rising pulseNs

/-- A host read with its answer: the value, or the abort code. -/
def State.read (s : State) (c : Client) (o : Obj) : State :=
  match s.hostRead c o 0 none with
  | (s, 0, data) => s.say (.read c data)
  | (s, code, _) => s.say (.confirm c code)

/-- TIO_CAPTURE_READ (R282). -/
def execTioCaptureRead (c : Client) (pin : Nat) (s : State) : Host.Outcome State Fault Refusal :=
  s.actCore fun s => s.read c ⟨0x2710 + pin, 0xB⟩

/-- GATE_LIST_ARM (R252). -/
def execGateListArm (c : Client) (port count : Nat) (s : State) : Host.Outcome State Fault Refusal :=
  s.actWrite c (numWrite (0x4410 + port) 4 2 count)

/-- GATE_LIST_TAKEOVER (R252). -/
def execGateListTakeover (port : Nat) (s : State) : Host.Outcome State Fault Refusal :=
  s.actLive fun s => s.gateListTakeover port

/-- MERIDIAN_WRITE (R264). -/
def execMeridianWrite (c : Client) (data : List Byte) (s : State) : Host.Outcome State Fault Refusal :=
  s.actWrite c ⟨⟨0x2700, 1⟩, none, data⟩

/-- POWER_STATE_REQUEST (R440). -/
def execPowerStateRequest (c : Client) (value : Nat) (s : State) : Host.Outcome State Fault Refusal :=
  s.actWrite c (numWrite 0x2000 1 1 value)

/-- POWER_TRANSITION_COMPLETE (R440). -/
def execPowerTransitionComplete (s : State) : Host.Outcome State Fault Refusal := s.actServed State.transitionComplete

/-- ACKNOWLEDGE_SERIAL (R424). -/
def execAcknowledgeSerial (c : Client) (serial : Nat) (s : State) : Host.Outcome State Fault Refusal :=
  s.actWrite c (numWrite 0x2E00 4 8 serial)

/-- LANE_RETRAIN (R284). -/
def execLaneRetrain (c : Client) (lane value : Nat) (s : State) : Host.Outcome State Fault Refusal :=
  s.actWrite c (numWrite (0x2800 + lane) 0xA 1 value)

end Sys2Proof.Machine
end

