-- ==== Sys2Proof/Machine/ControlCommands.lean ====
section
/-! DEFINITION. ControlCommands.lean: the commands of CAN FD and of Exfer (R386-R397, R425, R427). Each effect carries its own
condition on what the management core serves. -/

namespace Sys2Proof.Machine

/-- NMT_START (R387). -/
def execNmtStart (node : Nat) (s : State) : Host.Outcome State Fault Refusal := s.act fun s => s.nmtStart node

/-- NMT_STOP (R387). -/
def execNmtStop (node : Nat) (s : State) : Host.Outcome State Fault Refusal := s.act fun s => s.nmtStop node

/-- NMT_ENTER_PRE_OPERATIONAL (R387). -/
def execNmtEnterPreOperational (node : Nat) (s : State) : Host.Outcome State Fault Refusal := s.act fun s => s.nmtPreOp node

/-- NMT_RESET_NODE (R387, R442). -/
def execNmtResetNode (node : Nat) (s : State) : Host.Outcome State Fault Refusal := s.act fun s => s.nmtResetNode node

/-- NMT_RESET_COMMUNICATION (R387, R442). -/
def execNmtResetCommunication (node : Nat) (s : State) : Host.Outcome State Fault Refusal :=
  s.act fun s => s.nmtResetComm node

/-- SDO_DOWNLOAD (R387, R400). -/
def execSdoDownload (r : SdoDown) (s : State) : Host.Outcome State Fault Refusal := s.act fun s => s.sdoDownload r

/-- SDO_UPLOAD (R387, R402, R403). -/
def execSdoUpload (r : SdoUp) (s : State) : Host.Outcome State Fault Refusal := s.act fun s => s.sdoUpload r

/-- SDO_BLOCK_TRANSFER (R387, R400). -/
def execSdoBlockTransfer (r : SdoBlock) (s : State) : Host.Outcome State Fault Refusal := s.act fun s => s.sdoBlockTransfer r

/-- USDO_REQUEST (R387). -/
def execUsdoRequest (node : Nat) (r : UsdoReq) (s : State) : Host.Outcome State Fault Refusal :=
  s.act fun s => s.usdoRequest node r

/-- SDO_TIMEOUT (R400). -/
def execSdoTimeout (c : Client) (s : State) : Host.Outcome State Fault Refusal := s.act fun s => s.sdoTimeout c

/-- RPDO_RECEIVE (R387). -/
def execRpdoReceive (n : Nat) (data : List Byte) (s : State) : Host.Outcome State Fault Refusal :=
  s.act fun s => s.rpdoReceive n data

/-- TPDO_SEND (R387). -/
def execTpdoSend (n : Nat) (s : State) : Host.Outcome State Fault Refusal := s.act fun s => s.tpdoSend n

/-- CAN_HEARTBEAT_SEND (R387). -/
def execCanHeartbeatSend (s : State) : Host.Outcome State Fault Refusal := s.act State.canHeartbeatSend

/-- NODE_ID_CONFLICT (R386). -/
def execNodeIdConflict (cobId : Nat) (s : State) : Host.Outcome State Fault Refusal := s.act fun s => s.nodeIdConflict cobId

/-- EMCY_SEND (R425). -/
def execEmcySend (s : State) : Host.Outcome State Fault Refusal := s.act State.emcySend

/-- EXFER_SESSION_OPEN (R391). -/
def execExferSessionOpen (d : ExferHdr) (nonce : List Byte) (s : State) : Host.Outcome State Fault Refusal :=
  s.act fun s => s.exferSessionOpen d nonce

/-- EXFER_SESSION_CLOSE (R391). -/
def execExferSessionClose (d : ExferHdr) (s : State) : Host.Outcome State Fault Refusal :=
  s.act fun s => s.exferSessionClose d

/-- EXFER_SESSION_IDLE_TIMEOUT (R391). -/
def execExferSessionIdleTimeout (session : Nat) (s : State) : Host.Outcome State Fault Refusal :=
  s.actServed fun s => s.exferIdleTimeout session

/-- EXFER_READ (R393). -/
def execExferRead (d : ExferHdr) (o : Obj) (off len : Nat) (s : State) : Host.Outcome State Fault Refusal :=
  s.act fun s => s.exferRead d o off len

/-- EXFER_WRITE (R393). -/
def execExferWrite (d : ExferHdr) (o : Obj) (off : Nat) (data : List Byte) (s : State) : Host.Outcome State Fault Refusal :=
  s.act fun s => s.exferWrite d o off data

/-- EXFER_BLOCK_OPEN (R394). -/
def execExferBlockOpen (d : ExferHdr) (o : Obj) (fromModule : Bool) (off total : Nat) (s : State) :
    Host.Outcome State Fault Refusal :=
  s.act fun s => s.exferBlockOpen d o fromModule off total

/-- EXFER_BLOCK_DATA (R394). -/
def execExferBlockData (d : ExferHdr) (transfer off : Nat) (data : List Byte) (s : State) :
    Host.Outcome State Fault Refusal :=
  s.act fun s => s.exferBlockData d transfer off data

/-- EXFER_BLOCK_ACK (R394). -/
def execExferBlockAck (d : ExferHdr) (transfer next : Nat) (s : State) : Host.Outcome State Fault Refusal :=
  s.act fun s => s.exferBlockAck d transfer next

/-- EXFER_BLOCK_END (R394). -/
def execExferBlockEnd (d : ExferHdr) (transfer crc : Nat) (s : State) : Host.Outcome State Fault Refusal :=
  s.act fun s => s.exferBlockEnd d transfer crc

/-- EXFER_BLOCK_RESEND (R394). -/
def execExferBlockResend (session : Nat) (s : State) : Host.Outcome State Fault Refusal :=
  s.actServed fun s => s.exferBlockResend session

/-- EXFER_BLOCK_STALL (R394). -/
def execExferBlockStall (session : Nat) (s : State) : Host.Outcome State Fault Refusal :=
  s.actServed fun s => s.exferBlockStall session

/-- EXFER_SUBSCRIBE (R395). -/
def execExferSubscribe (d : ExferHdr) (minSeverity first : Nat) (s : State) : Host.Outcome State Fault Refusal :=
  s.act fun s => s.exferSubscribe d minSeverity first

/-- EXFER_COMMIT (R385). -/
def execExferCommit (d : ExferHdr) (record : List Byte) (s : State) : Host.Outcome State Fault Refusal :=
  s.act fun s => s.exferCommit d record

/-- EXFER_RELAY (R397). -/
def execExferRelay (d : ExferHdr) (response : Option (List Byte)) (s : State) : Host.Outcome State Fault Refusal :=
  s.act fun s => s.exferRelay d response

/-- PAIR_HEARTBEAT_NOTIFY (R396). -/
def execPairHeartbeatNotify (serial : Nat) (record raw tag : List Byte) (s : State) : Host.Outcome State Fault Refusal :=
  s.actServed fun s => State.follow s (s.pairHeartbeatNotify serial record raw tag)

/-- NOTIFY_SEND (R427). -/
def execNotifySend (session : Nat) (s : State) : Host.Outcome State Fault Refusal :=
  s.actServed fun s => s.notifySend session

end Sys2Proof.Machine
end

