-- ==== Sys2Proof/Machine/DeviceCommands.lean ====
section
/-! DEFINITION. DeviceCommands.lean: the commands of memory and movers, of events, and of power and reset (R345-R364,
R419-R454, R483). -/

namespace Sys2Proof.Machine

/-! ### Memory and movers -/

/-- DRAM runs: trained, its domain on, and the module not frozen. -/
def State.dramUp (s : State) : Bool := s.mayFail && s.nat 0x2C00 1 == 2

/-- DRAM_UNCORRECTABLE (R352, R353). -/
def execDramUncorrectable (cause addr coords syndromes port : Nat) (task : Option Nat) (s : State) :
    Host.Outcome State Fault Refusal :=
  s.act fun s => if s.dramUp then s.dramUncorrectable cause addr coords syndromes port task else s

/-- FREEZE_HOLD_EXPIRY (R355). -/
def execFreezeHoldExpiry (s : State) : Host.Outcome State Fault Refusal := s.act State.freezeHoldExpiry

/-- SCRUB_PASS (R351). -/
def execScrubPass (s : State) : Host.Outcome State Fault Refusal := s.act fun s => if s.dramUp then s.scrubPass else s

/-- SRAM_UNCORRECTABLE (R356). -/
def execSramUncorrectable (partition addr : Nat) (s : State) : Host.Outcome State Fault Refusal :=
  s.actLive fun s => s.sramUncorrectable partition addr

/-- DESCRIPTOR_COMPLETE (R360, R361, R394). -/
def execDescriptorComplete (channel : Nat) (errorAt : Option Nat) (s : State) : Host.Outcome State Fault Refusal :=
  s.actLive fun s =>
    let s := if errorAt.isSome then s.descriptorFails channel else s
    s.descriptorComplete channel errorAt

/-- STACK_TEMPERATURE_CHANGE (R483). -/
def execStackTemperatureChange (celsius : Int) (s : State) : Host.Outcome State Fault Refusal :=
  s.act fun s => if s.dramUp then s.stackTemperature celsius else s

/-! ### Events -/

/-- EVENT_WRITE (R421, R422). -/
def execEventWrite (s : State) : Host.Outcome State Fault Refusal := s.actCore State.eventWrite

/-! ### Power and reset -/

/-- VIN_START_GATE (R430, R433). -/
def execVinStartGate (s : State) : Host.Outcome State Fault Refusal := s.act State.startGate

/-- VIN_OFF (R430): out of any state, the undefined band too. -/
def execVinOff (s : State) : Host.Outcome State Fault Refusal := .next (s.effect State.vinOff)

/-- VIN_BELOW_LIMIT (R431). -/
def execVinBelowLimit (s : State) : Host.Outcome State Fault Refusal := .next (s.effect State.vinBelowLimit)

/-- RESET_N_ASSERT (R444). -/
def execResetNAssert (lowNs : Nat) (s : State) : Host.Outcome State Fault Refusal := s.act fun s => s.resetNAssert lowNs

/-- RESET_N_RELEASE (R434, R444). -/
def execResetNRelease (straps : Nat) (s : State) : Host.Outcome State Fault Refusal := s.act fun s => s.resetNRelease straps

/-- WATCHDOG_RESET (R446). -/
def execWatchdogReset (cause : Nat) (s : State) : Host.Outcome State Fault Refusal := s.act fun s => s.watchdogReset cause

/-- DOMAIN_POWER_FAIL (R439). -/
def execDomainPowerFail (domain : Nat) (s : State) : Host.Outcome State Fault Refusal := s.act fun s => s.domainFail domain

/-- PD0_POWER_FAIL (R439). -/
def execPd0PowerFail (s : State) : Host.Outcome State Fault Refusal := s.act State.pd0Fail

/-- DOMAIN_RELEASE (R439, R448). -/
def execDomainRelease (s : State) : Host.Outcome State Fault Refusal := s.act State.domainRelease

/-- START_STAGE (R448). -/
def execStartStage (s : State) : Host.Outcome State Fault Refusal := s.act State.startStage

/-- HOLD_RELEASE (R449). -/
def execHoldRelease (s : State) : Host.Outcome State Fault Refusal := s.actLive State.holdRelease

end Sys2Proof.Machine
end

