-- ==== Sys2Proof/Machine/MediaCommands.lean ====
section
/-! DEFINITION. MediaCommands.lean: the commands of ingress, of the coding path, of Orchard, and of egress (R208-R254,
R327-R344). -/

namespace Sys2Proof.Machine

/-! ### Ingress -/

/-- A frame received on a port: the checks of R210, then its flow. It arrives at its PCS instant. -/
def State.packetReceive (s : State) (p : RxPacket) : State :=
  if !s.portUp p.port || !p.shapeOk || decide (9018 < p.frameLen) then s
  else if !p.ipSumOk || !p.udpSumOk then s.count 0x4100 2
  else
    let s := s.until p.pcs
    match s.matchFlow p p.pcs with
    | none => s.count 0x4100 1
    | some (f, pathB) => if s.received f then State.ingressFollow s (s.rxMatched f pathB p p.pcs) f else s

/-- PACKET_RECEIVE (R210-R225). -/
def execPacketReceive (p : RxPacket) (s : State) : Host.Outcome State Fault Refusal := s.actLive fun s => s.packetReceive p

/-- LINE_CLOSE (R222-R224). -/
def execLineClose (f slot line : Nat) (s : State) : Host.Outcome State Fault Refusal :=
  s.actLive fun s => State.ingressFollow s (s.lineClose f slot line) f

/-- ANCILLARY_CLOSE (R225). -/
def execAncillaryClose (f slot : Nat) (s : State) : Host.Outcome State Fault Refusal :=
  s.actLive fun s => s.ancillaryClose f slot

/-- AUDIO_SAMPLE_CLOSE (R225). -/
def execAudioSampleClose (f index : Nat) (s : State) : Host.Outcome State Fault Refusal :=
  s.actLive fun s => s.audioSampleClose f index

/-- FLOW_PATH_SILENT (R229). -/
def execFlowPathSilent (f : Nat) (pathB : Bool) (s : State) : Host.Outcome State Fault Refusal :=
  s.actLive fun s => s.pathSilent f pathB

/-- ARP_REQUEST (R235). -/
def execArpRequest (port target senderIp senderMac : Nat) (s : State) : Host.Outcome State Fault Refusal :=
  s.actLive fun s => s.arpRequest port target senderIp senderMac

/-- ARP_REFRESH (R235). -/
def execArpRefresh (port : Nat) (answers : List (Nat × Nat)) (s : State) : Host.Outcome State Fault Refusal :=
  s.actLive fun s => s.arpRefresh port answers

/-! ### The coding path -/

/-- PRE_ANALYSIS_BAND (R58). -/
def execPreAnalysisBand (f slot band : Nat) (s : State) : Host.Outcome State Fault Refusal :=
  s.actLive fun s => s.bandStep f slot band

/-- COMPOSITION_BAND (R145, R146). -/
def execCompositionBand (c slot band : Nat) (s : State) : Host.Outcome State Fault Refusal :=
  s.actLive fun s => s.composeStep c slot band

/-- PICTURE_DECISION (R114). -/
def execPictureDecision (c : Nat) (s : State) : Host.Outcome State Fault Refusal :=
  s.actLive fun s => State.follow s (s.pictureDecision c)

/-- ROW_DECISION (R115). -/
def execRowDecision (c slot row : Nat) (s : State) : Host.Outcome State Fault Refusal :=
  s.actLive fun s => s.rowDecisionStep c slot row

/-- ROW_CODING (R116). -/
def execRowCoding (c slot row : Nat) (s : State) : Host.Outcome State Fault Refusal :=
  s.actLive fun s => s.rowCodingStep c slot row

/-- REPLACEMENT_AU (R24). -/
def execReplacementAu (c slot : Nat) (s : State) : Host.Outcome State Fault Refusal :=
  s.actLive fun s => s.replacementStep c slot

/-- AU_ASSEMBLY (R142). -/
def execAuAssembly (c slot : Nat) (s : State) : Host.Outcome State Fault Refusal :=
  s.actLive fun s => s.assemblyStep c slot

/-- MODEL_UPDATE (R119). -/
def execModelUpdate (c slot : Nat) (s : State) : Host.Outcome State Fault Refusal :=
  s.actLive fun s => s.modelStep_ c slot

/-- PACKETISATION (R237). -/
def execPacketisation (c slot : Nat) (s : State) : Host.Outcome State Fault Refusal :=
  s.actLive fun s => s.packetStep c slot

/-- DEADLINE_RESCUE (R23). -/
def execDeadlineRescue (c slot : Nat) (s : State) : Host.Outcome State Fault Refusal :=
  s.actLive fun s => s.rescueStep c slot

/-! ### Orchard -/

/-- COMPLETION_RECORD_WRITE (R340). -/
def execCompletionRecordWrite (producer : Nat) (s : State) : Host.Outcome State Fault Refusal :=
  s.actLive fun s => s.recordWrite producer

/-- COLLECTOR_ROUND (R341, R342). -/
def execCollectorRound (s : State) : Host.Outcome State Fault Refusal := s.actLive State.collectorRound

/-- TASK_CREATION_DELAYED (R330). -/
def execTaskCreationDelayed (kind c slot row : Nat) (s : State) : Host.Outcome State Fault Refusal :=
  s.actLive fun s => s.delayedTask kind c slot row

/-! ### Egress -/

/-- PACKET_DEPARTURE (R247). The last packet of a stopped channel's last AU frees the channel (R488). -/
def execPacketDeparture (port : Nat) (s : State) : Host.Outcome State Fault Refusal :=
  s.actLive fun s => (s.packetDeparture port).retireAll

end Sys2Proof.Machine
end

