-- ==== Sys2Proof/Machine/PeerCommands.lean ====
section
/-! DEFINITION. PeerCommands.lean: the commands of the hitless pair and of the cascade (R159-R207). -/

namespace Sys2Proof.Machine

/-! ### The pair -/

/-- SEND_GATE (R167). -/
def execSendGate (c slot : Nat) (s : State) : Host.Outcome State Fault Refusal := s.actLive fun s => s.sendGate c slot

/-- PAIR_HEARTBEAT_SEND (R172). -/
def execPairHeartbeatSend (s : State) : Host.Outcome State Fault Refusal := s.actLive State.pairHeartbeatSend

/-- PAIR_HEARTBEAT (R172). -/
def execPairHeartbeat (record : List Byte) (s : State) : Host.Outcome State Fault Refusal :=
  s.actLive fun s => s.pairHeartbeat record

/-- BAND_RECORD (R165). -/
def execBandRecord (record : List Byte) (s : State) : Host.Outcome State Fault Refusal :=
  s.actLive fun s => s.bandRecord record

/-- DECISION_RECORD (R163). -/
def execDecisionRecord (record : List Byte) (s : State) : Host.Outcome State Fault Refusal :=
  s.actLive fun s => State.follow s ((s.decisionRecord record).pulse 26 none)

/-- AU_RECORD (R163). -/
def execAuRecord (record : List Byte) (s : State) : Host.Outcome State Fault Refusal :=
  s.actLive fun s => State.follow s ((s.auRecord record).pulse 26 none)

/-- RESYNC_REQUEST (R171). -/
def execResyncRequest (record : List Byte) (s : State) : Host.Outcome State Fault Refusal :=
  s.actLive fun s => s.resyncRequest record

/-- RESYNC_RECORD (R171). -/
def execResyncRecord (record : List Byte) (s : State) : Host.Outcome State Fault Refusal :=
  s.actLive fun s => State.follow s ((s.resyncRecord record).pulse 26 none)

/-- DEFERRED_DECISION_TIMEOUT (R171). -/
def execDeferredDecisionTimeout (c : Nat) (s : State) : Host.Outcome State Fault Refusal :=
  s.actLive fun s => State.follow s (s.deferredTimeout c)

/-- YIELD (R179). -/
def execYield (record : List Byte) (s : State) : Host.Outcome State Fault Refusal := s.actLive fun s => s.yieldRec record

/-- ROLE_LISTEN_EXPIRY (R162). -/
def execRoleListenExpiry (s : State) : Host.Outcome State Fault Refusal := s.actLive State.roleListenExpiry

/-- ACTIVE_LOST (R172). -/
def execActiveLost (s : State) : Host.Outcome State Fault Refusal := s.actLive State.activeLost

/-- PROMOTION_COMPLETE (R173). -/
def execPromotionComplete (s : State) : Host.Outcome State Fault Refusal := s.actLive State.promotionComplete

/-- MIRROR_LINK_LOST (R175). -/
def execMirrorLinkLost (s : State) : Host.Outcome State Fault Refusal := s.actLive State.mirrorLinkLost

/-! ### The cascade -/

/-- CASCADE_HEARTBEAT_SEND (R184). -/
def execCascadeHeartbeatSend (s : State) : Host.Outcome State Fault Refusal := s.actLive State.cascadeHeartbeatSend

/-- CASCADE_HEARTBEAT (R184). -/
def execCascadeHeartbeat (message : List Byte) (s : State) : Host.Outcome State Fault Refusal :=
  s.actLive fun s => s.cascadeHeartbeat message

/-- MEMBER_LOST (R184, R202): a relayed commit that waits for the member's vote fails (R206). -/
def execMemberLost (position : Nat) (s : State) : Host.Outcome State Fault Refusal :=
  s.actLive fun s => (s.memberLost position).relayReview

/-- MASTER_LOST (R184). -/
def execMasterLost (s : State) : Host.Outcome State Fault Refusal := s.actLive State.masterLost

/-- FRAME_REPORT (R191). -/
def execFrameReport (message : List Byte) (s : State) : Host.Outcome State Fault Refusal :=
  s.actLive fun s => ((s.frameReport message).pulse 26 none).relayReview

/-- REPORT_CLOSE (R191). -/
def execReportClose (slot : Nat) (s : State) : Host.Outcome State Fault Refusal :=
  s.actLive fun s => ((s.reportClose slot).pulse 26 none).relayReview

/-- CANVAS_DECISION (R191, R192). -/
def execCanvasDecision (message : List Byte) (s : State) : Host.Outcome State Fault Refusal :=
  s.actLive fun s => State.follow s (s.canvasDecision message)

/-- ROW_RECORD (R193). -/
def execRowRecord (message : List Byte) (s : State) : Host.Outcome State Fault Refusal :=
  s.actLive fun s => (s.rowRecord message).pulse 26 none

/-- ROW_ACKNOWLEDGEMENT (R193). -/
def execRowAcknowledgement (message : List Byte) (s : State) : Host.Outcome State Fault Refusal :=
  s.actLive fun s => s.rowAck message

/-- AU_REPORT (R192). -/
def execAuReport (message : List Byte) (s : State) : Host.Outcome State Fault Refusal :=
  s.actLive fun s => (s.auReport message).pulse 26 none

/-- BAND_SEGMENT (R196-R200). -/
def execBandSegment (message : List Byte) (s : State) : Host.Outcome State Fault Refusal :=
  s.actLive fun s => (s.bandSegment message).pulse 26 none

/-- BAND_RETRY_REQUEST (R200). -/
def execBandRetryRequest (message : List Byte) (s : State) : Host.Outcome State Fault Refusal :=
  s.actLive fun s => s.bandRetry message

/-- BAND_CLOSE (R197). -/
def execBandClose (slot row : Nat) (s : State) : Host.Outcome State Fault Refusal :=
  s.actLive fun s => (s.bandClose slot row).pulse 26 none

/-- MERGE_CLOSE (R194). -/
def execMergeClose (slot : Nat) (s : State) : Host.Outcome State Fault Refusal :=
  s.actLive fun s => (s.mergeClose slot).relayReview

/-- RELAYED_COMMIT (R206). -/
def execRelayedCommit (message : List Byte) (s : State) : Host.Outcome State Fault Refusal :=
  s.actLive fun s => s.relayedCommit message

/-- COMMIT_VOTE (R206). -/
def execCommitVote (message : List Byte) (s : State) : Host.Outcome State Fault Refusal :=
  s.actLive fun s => s.commitVote message

/-- LOSS_NOTICE (R202). -/
def execLossNotice (message : List Byte) (s : State) : Host.Outcome State Fault Refusal :=
  s.actLive fun s => s.lossNotice message

end Sys2Proof.Machine
end

