-- ==== Sys2Proof/Machine/TimingCommands.lean ====
section
/-! DEFINITION. TimingCommands.lean: the commands of links and lanes, of PTP, of the PLLs, of serial audio and of Atlas
(R256-R326). -/

namespace Sys2Proof.Machine

/-! ### Device links and lanes -/

/-- A link frame, and what a message that it completes leads to: it goes on to the next position (R183), and pair relays take
effect (R178). -/
def State.linkFrameStep (s : State) (x : LinkFrameIn) : State :=
  if s.linkUp x.link then (State.passOn s (s.linkFrame x) x.link).takeRelays else s

/-- LINK_FRAME (R291, R292). -/
def execLinkFrame (x : LinkFrameIn) (s : State) : Host.Outcome State Fault Refusal := s.actLive fun s => s.linkFrameStep x

/-- COMPENSATION_SEQUENCE (R293, R294). -/
def execCompensationSequence (link : Nat) (lanesSeen : List Nat) (occupancy : List Int) (skew : Nat) (s : State) :
    Host.Outcome State Fault Refusal :=
  s.actLive fun s => s.compensation link lanesSeen occupancy skew

/-- CDR_LOCK (R294). -/
def execCdrLock (link : Nat) (lanes : List Nat) (s : State) : Host.Outcome State Fault Refusal :=
  s.actLive fun s => s.cdrLock link lanes

/-- EQUALISER_ADAPTATION (R286). -/
def execEqualiserAdaptation (link : Nat) (openings : List (List Nat)) (s : State) : Host.Outcome State Fault Refusal :=
  s.actLive fun s => s.equaliserAdaptation link openings

/-- TRAINING_SET (R290, R294). -/
def execTrainingSet (link : Nat) (sets : List TrainingLane) (s : State) : Host.Outcome State Fault Refusal :=
  s.actLive fun s => s.trainingSet link sets

/-- LINK_STATE_TIMEOUT (R294). -/
def execLinkStateTimeout (link : Nat) (s : State) : Host.Outcome State Fault Refusal :=
  s.actLive fun s => s.linkTimeout link

/-- DEVICE_LINK_DOWN (R296). -/
def execDeviceLinkDown (link _cause : Nat) (s : State) : Host.Outcome State Fault Refusal :=
  s.actLive fun s => s.deviceLinkDown link

/-- LANE_PLL_LOCK_LOSS (R258). -/
def execLanePllLockLoss (group : Nat) (s : State) : Host.Outcome State Fault Refusal :=
  s.actLive fun s => s.lanePllLoss group

/-- PORT_LINK_DOWN (R258). -/
def execPortLinkDown (port : Nat) (s : State) : Host.Outcome State Fault Refusal :=
  s.actLive fun s => s.portLinkDown port

/-- PORT_LINK_UP (R258). -/
def execPortLinkUp (port : Nat) (s : State) : Host.Outcome State Fault Refusal := s.actLive fun s => s.portLinkUp port

/-! ### PTP -/

/-- SYNC (R269). -/
def execSync (m : PtpMsg) (s : State) : Host.Outcome State Fault Refusal := s.actLive fun s => s.sync m

/-- FOLLOW_UP (R269). -/
def execFollowUp (m : PtpMsg) (s : State) : Host.Outcome State Fault Refusal := s.actLive fun s => s.followUp m

/-- DELAY_RESP (R269). -/
def execDelayResp (m : PtpMsg) (s : State) : Host.Outcome State Fault Refusal := s.actLive fun s => s.delayResp m

/-- DELAY_REQ (R273). -/
def execDelayReq (m : PtpMsg) (s : State) : Host.Outcome State Fault Refusal := s.actLive fun s => s.delayReq m

/-- ANNOUNCE (R267). -/
def execAnnounce (m : AnnounceMsg) (s : State) : Host.Outcome State Fault Refusal := s.actLive fun s => s.announce m

/-- SYNC_SEND (R273). -/
def execSyncSend (port : Nat) (s : State) : Host.Outcome State Fault Refusal := s.actLive fun s => s.syncSend port

/-- ANNOUNCE_SEND (R273). -/
def execAnnounceSend (port : Nat) (s : State) : Host.Outcome State Fault Refusal := s.actLive fun s => s.announceSend port

/-- DELAY_REQ_SEND (R269). -/
def execDelayReqSend (port : Nat) (s : State) : Host.Outcome State Fault Refusal := s.actLive fun s => s.delayReqSend port

/-- REFERENCE_LOST (R271): in Standby too, where no port hears anything. -/
def execReferenceLost (s : State) : Host.Outcome State Fault Refusal := s.actServed State.referenceLost

/-- ANNOUNCE_RECEIPT_TIMEOUT (R267). -/
def execAnnounceReceiptTimeout (port : Nat) (s : State) : Host.Outcome State Fault Refusal :=
  s.actServed fun s => s.announceTimeout port

/-! ### PLLs -/

/-- OUTER_LOOP_UPDATE (R262). -/
def execOuterLoopUpdate (audio : Bool) (phaseNs : Int) (s : State) : Host.Outcome State Fault Refusal :=
  s.actLive fun s => s.outerLoop audio phaseNs

/-- MEDIA_PLL_LOCK_LOSS (R275). -/
def execMediaPllLockLoss (audio slip : Bool) (phaseNs : Int) (s : State) : Host.Outcome State Fault Refusal :=
  s.actLive fun s => s.pllLockLoss audio slip phaseNs

/-- PLL_MEASURE_WINDOW (R276). -/
def execPllMeasureWindow (audio : Bool) (cycles : Nat) (s : State) : Host.Outcome State Fault Refusal :=
  s.actLive fun s => s.pllMeasure audio cycles

/-- PLL_RELOCK (R278). -/
def execPllRelock (audio : Bool) (s : State) : Host.Outcome State Fault Refusal := s.actLive fun s => s.pllRelock audio

/-- SYSTEM_PLL_LOSS (R259). -/
def execSystemPllLoss (s : State) : Host.Outcome State Fault Refusal := s.act State.systemPllLoss

/-! ### Serial audio -/

/-- AUDIO_FRAME (R303, R307). -/
def execAudioFrame (port : Nat) (edge : Tick) (words : List Nat) (s : State) : Host.Outcome State Fault Refusal :=
  s.actLive fun s => s.audioFrame port edge words

/-- AUDIO_INDEX_CLOSE (R307). -/
def execAudioIndexClose (port index : Nat) (s : State) : Host.Outcome State Fault Refusal :=
  s.actLive fun s => s.audioIndexClose port index

/-- AUDIO_PORT_START (R305). -/
def execAudioPortStart (port : Nat) (s : State) : Host.Outcome State Fault Refusal :=
  s.actLive fun s => s.audioPortStart port

/-- PORT_CLOCK_LOST (R309). -/
def execPortClockLost (port : Nat) (s : State) : Host.Outcome State Fault Refusal :=
  s.actLive fun s => s.portClockLost port

/-- HOLD_LIMIT (R309). -/
def execHoldLimit (port : Nat) (s : State) : Host.Outcome State Fault Refusal := s.actLive fun s => s.holdLimit port

/-- RATE_WINDOW (R311). -/
def execRateWindow (port : Nat) (s : State) : Host.Outcome State Fault Refusal := s.actLive fun s => s.rateWindow port

/-! ### Atlas -/

/-- A snapshot that turns Atlas on or off moves the Video PLL and ends what disagreed with it. -/
def State.atlasStep (s : State) : State :=
  let t := s.atlasApply
  if t.atl 0x2A00 1 = s.atl 0x2A00 1 ∧ t.atl 0x2A00 2 = s.atl 0x2A00 2 then t else t.configurePlls.reviewDisagreement

/-- ATLAS_APPLY (R323). -/
def execAtlasApply (s : State) : Host.Outcome State Fault Refusal := s.actLive State.atlasStep

/-- ATLAS_LINE (R315). -/
def execAtlasLine (line : Nat) (s : State) : Host.Outcome State Fault Refusal := s.actLive fun s => s.atlasLine line

end Sys2Proof.Machine
end

