-- ==== Sys2Proof/Machine/Dispatch.lean ====
section
/-! DEFINITION. Dispatch.lean: one arm for each command, a direct call of its meaning. -/

namespace Sys2Proof.Machine

/-- The effect of a command on everything but the queue of waiting commands. -/
def exec (i : Instr) (s : State) : Host.Outcome State Fault Refusal :=
  match i with
  | .commitSessionOpen c ident => Sys2Proof.Machine.execCommitSessionOpen c ident s
  | .commitSessionAbandon c => Sys2Proof.Machine.execCommitSessionAbandon c s
  | .stagedWrite c w => Sys2Proof.Machine.execStagedWrite c w s
  | .implicitCommit c w => Sys2Proof.Machine.execImplicitCommit c w s
  | .commitExecute c => Sys2Proof.Machine.execCommitExecute c s
  | .commitWithdraw c ident => Sys2Proof.Machine.execCommitWithdraw c ident s
  | .commitTarget => Sys2Proof.Machine.execCommitTarget s
  | .sessionTimeout c => Sys2Proof.Machine.execSessionTimeout c s
  | .frameObjectWrite c w => Sys2Proof.Machine.execFrameObjectWrite c w s
  | .objectWrite c w => Sys2Proof.Machine.execObjectWrite c w s
  | .firmwareInstallStart c => Sys2Proof.Machine.execFirmwareInstallStart c s
  | .memoryTestStart c => Sys2Proof.Machine.execMemoryTestStart c s
  | .eyeScanStart c => Sys2Proof.Machine.execEyeScanStart c s
  | .cascadeJoinStart c => Sys2Proof.Machine.execCascadeJoinStart c s
  | .pairResyncStart c => Sys2Proof.Machine.execPairResyncStart c s
  | .dictionarySaveStart c => Sys2Proof.Machine.execDictionarySaveStart c s
  | .operationSuspend c k => Sys2Proof.Machine.execOperationSuspend c k s
  | .operationResume c k => Sys2Proof.Machine.execOperationResume c k s
  | .operationCancel c k => Sys2Proof.Machine.execOperationCancel c k s
  | .operationComplete k o => Sys2Proof.Machine.execOperationComplete k o s
  | .storeParameters c value => Sys2Proof.Machine.execStoreParameters c value s
  | .restoreDefaults c value => Sys2Proof.Machine.execRestoreDefaults c value s
  | .atlasCommit c => Sys2Proof.Machine.execAtlasCommit c s
  | .freezeExit c => Sys2Proof.Machine.execFreezeExit c s
  | .hostCheckStart c => Sys2Proof.Machine.execHostCheckStart c s
  | .hostCheckComplete => Sys2Proof.Machine.execHostCheckComplete s
  | .triggerArm c => Sys2Proof.Machine.execTriggerArm c s
  | .triggerDisarm c => Sys2Proof.Machine.execTriggerDisarm c s
  | .triggerFire => Sys2Proof.Machine.execTriggerFire s
  | .tioModeWrite c pin mode => Sys2Proof.Machine.execTioModeWrite c pin mode s
  | .tioEdge pin => Sys2Proof.Machine.execTioEdge pin s
  | .framePulse pin => Sys2Proof.Machine.execFramePulse pin s
  | .tioCapture pin rising pulseNs => Sys2Proof.Machine.execTioCapture pin rising pulseNs s
  | .tioCaptureRead c pin => Sys2Proof.Machine.execTioCaptureRead c pin s
  | .gateListArm c port count => Sys2Proof.Machine.execGateListArm c port count s
  | .gateListTakeover port => Sys2Proof.Machine.execGateListTakeover port s
  | .meridianWrite c data => Sys2Proof.Machine.execMeridianWrite c data s
  | .powerStateRequest c value => Sys2Proof.Machine.execPowerStateRequest c value s
  | .powerTransitionComplete => Sys2Proof.Machine.execPowerTransitionComplete s
  | .acknowledgeSerial c serial => Sys2Proof.Machine.execAcknowledgeSerial c serial s
  | .laneRetrain c lane value => Sys2Proof.Machine.execLaneRetrain c lane value s
  | .nmtStart node => Sys2Proof.Machine.execNmtStart node s
  | .nmtStop node => Sys2Proof.Machine.execNmtStop node s
  | .nmtEnterPreOperational node => Sys2Proof.Machine.execNmtEnterPreOperational node s
  | .nmtResetNode node => Sys2Proof.Machine.execNmtResetNode node s
  | .nmtResetCommunication node => Sys2Proof.Machine.execNmtResetCommunication node s
  | .sdoDownload r => Sys2Proof.Machine.execSdoDownload r s
  | .sdoUpload r => Sys2Proof.Machine.execSdoUpload r s
  | .sdoBlockTransfer r => Sys2Proof.Machine.execSdoBlockTransfer r s
  | .usdoRequest node r => Sys2Proof.Machine.execUsdoRequest node r s
  | .sdoTimeout c => Sys2Proof.Machine.execSdoTimeout c s
  | .rpdoReceive n data => Sys2Proof.Machine.execRpdoReceive n data s
  | .tpdoSend n => Sys2Proof.Machine.execTpdoSend n s
  | .canHeartbeatSend => Sys2Proof.Machine.execCanHeartbeatSend s
  | .nodeIdConflict cobId => Sys2Proof.Machine.execNodeIdConflict cobId s
  | .emcySend => Sys2Proof.Machine.execEmcySend s
  | .exferSessionOpen d nonce => Sys2Proof.Machine.execExferSessionOpen d nonce s
  | .exferSessionClose d => Sys2Proof.Machine.execExferSessionClose d s
  | .exferSessionIdleTimeout session => Sys2Proof.Machine.execExferSessionIdleTimeout session s
  | .exferRead d o off len => Sys2Proof.Machine.execExferRead d o off len s
  | .exferWrite d o off data => Sys2Proof.Machine.execExferWrite d o off data s
  | .exferBlockOpen d o fromModule off total => Sys2Proof.Machine.execExferBlockOpen d o fromModule off total s
  | .exferBlockData d transfer off data => Sys2Proof.Machine.execExferBlockData d transfer off data s
  | .exferBlockAck d transfer next => Sys2Proof.Machine.execExferBlockAck d transfer next s
  | .exferBlockEnd d transfer crc => Sys2Proof.Machine.execExferBlockEnd d transfer crc s
  | .exferBlockResend session => Sys2Proof.Machine.execExferBlockResend session s
  | .exferBlockStall session => Sys2Proof.Machine.execExferBlockStall session s
  | .exferSubscribe d minSeverity first => Sys2Proof.Machine.execExferSubscribe d minSeverity first s
  | .exferCommit d record => Sys2Proof.Machine.execExferCommit d record s
  | .exferRelay d response => Sys2Proof.Machine.execExferRelay d response s
  | .pairHeartbeatNotify serial record raw tag => Sys2Proof.Machine.execPairHeartbeatNotify serial record raw tag s
  | .notifySend session => Sys2Proof.Machine.execNotifySend session s
  | .packetReceive p => Sys2Proof.Machine.execPacketReceive p s
  | .lineClose f slot line => Sys2Proof.Machine.execLineClose f slot line s
  | .ancillaryClose f slot => Sys2Proof.Machine.execAncillaryClose f slot s
  | .audioSampleClose f index => Sys2Proof.Machine.execAudioSampleClose f index s
  | .flowPathSilent f pathB => Sys2Proof.Machine.execFlowPathSilent f pathB s
  | .arpRequest port target senderIp senderMac => Sys2Proof.Machine.execArpRequest port target senderIp senderMac s
  | .arpRefresh port answers => Sys2Proof.Machine.execArpRefresh port answers s
  | .preAnalysisBand f slot band => Sys2Proof.Machine.execPreAnalysisBand f slot band s
  | .compositionBand c slot band => Sys2Proof.Machine.execCompositionBand c slot band s
  | .pictureDecision c => Sys2Proof.Machine.execPictureDecision c s
  | .rowDecision c slot row => Sys2Proof.Machine.execRowDecision c slot row s
  | .rowCoding c slot row => Sys2Proof.Machine.execRowCoding c slot row s
  | .replacementAu c slot => Sys2Proof.Machine.execReplacementAu c slot s
  | .auAssembly c slot => Sys2Proof.Machine.execAuAssembly c slot s
  | .modelUpdate c slot => Sys2Proof.Machine.execModelUpdate c slot s
  | .packetisation c slot => Sys2Proof.Machine.execPacketisation c slot s
  | .deadlineRescue c slot => Sys2Proof.Machine.execDeadlineRescue c slot s
  | .completionRecordWrite producer => Sys2Proof.Machine.execCompletionRecordWrite producer s
  | .collectorRound => Sys2Proof.Machine.execCollectorRound s
  | .taskCreationDelayed kind c slot row => Sys2Proof.Machine.execTaskCreationDelayed kind c slot row s
  | .packetDeparture port => Sys2Proof.Machine.execPacketDeparture port s
  | .sendGate c slot => Sys2Proof.Machine.execSendGate c slot s
  | .pairHeartbeatSend => Sys2Proof.Machine.execPairHeartbeatSend s
  | .pairHeartbeat record => Sys2Proof.Machine.execPairHeartbeat record s
  | .bandRecord record => Sys2Proof.Machine.execBandRecord record s
  | .decisionRecord record => Sys2Proof.Machine.execDecisionRecord record s
  | .auRecord record => Sys2Proof.Machine.execAuRecord record s
  | .resyncRequest record => Sys2Proof.Machine.execResyncRequest record s
  | .resyncRecord record => Sys2Proof.Machine.execResyncRecord record s
  | .deferredDecisionTimeout c => Sys2Proof.Machine.execDeferredDecisionTimeout c s
  | .yield record => Sys2Proof.Machine.execYield record s
  | .roleListenExpiry => Sys2Proof.Machine.execRoleListenExpiry s
  | .activeLost => Sys2Proof.Machine.execActiveLost s
  | .promotionComplete => Sys2Proof.Machine.execPromotionComplete s
  | .mirrorLinkLost => Sys2Proof.Machine.execMirrorLinkLost s
  | .cascadeHeartbeatSend => Sys2Proof.Machine.execCascadeHeartbeatSend s
  | .cascadeHeartbeat message => Sys2Proof.Machine.execCascadeHeartbeat message s
  | .memberLost position => Sys2Proof.Machine.execMemberLost position s
  | .masterLost => Sys2Proof.Machine.execMasterLost s
  | .frameReport message => Sys2Proof.Machine.execFrameReport message s
  | .reportClose slot => Sys2Proof.Machine.execReportClose slot s
  | .canvasDecision message => Sys2Proof.Machine.execCanvasDecision message s
  | .rowRecord message => Sys2Proof.Machine.execRowRecord message s
  | .rowAcknowledgement message => Sys2Proof.Machine.execRowAcknowledgement message s
  | .auReport message => Sys2Proof.Machine.execAuReport message s
  | .bandSegment message => Sys2Proof.Machine.execBandSegment message s
  | .bandRetryRequest message => Sys2Proof.Machine.execBandRetryRequest message s
  | .bandClose slot row => Sys2Proof.Machine.execBandClose slot row s
  | .mergeClose slot => Sys2Proof.Machine.execMergeClose slot s
  | .relayedCommit message => Sys2Proof.Machine.execRelayedCommit message s
  | .commitVote message => Sys2Proof.Machine.execCommitVote message s
  | .lossNotice message => Sys2Proof.Machine.execLossNotice message s
  | .linkFrame x => Sys2Proof.Machine.execLinkFrame x s
  | .compensationSequence link lanesSeen occupancy skew => Sys2Proof.Machine.execCompensationSequence link lanesSeen occupancy skew s
  | .cdrLock link lanes => Sys2Proof.Machine.execCdrLock link lanes s
  | .equaliserAdaptation link openings => Sys2Proof.Machine.execEqualiserAdaptation link openings s
  | .trainingSet link sets => Sys2Proof.Machine.execTrainingSet link sets s
  | .linkStateTimeout link => Sys2Proof.Machine.execLinkStateTimeout link s
  | .deviceLinkDown link cause => Sys2Proof.Machine.execDeviceLinkDown link cause s
  | .lanePllLockLoss group => Sys2Proof.Machine.execLanePllLockLoss group s
  | .portLinkDown port => Sys2Proof.Machine.execPortLinkDown port s
  | .portLinkUp port => Sys2Proof.Machine.execPortLinkUp port s
  | .sync m => Sys2Proof.Machine.execSync m s
  | .followUp m => Sys2Proof.Machine.execFollowUp m s
  | .delayResp m => Sys2Proof.Machine.execDelayResp m s
  | .delayReq m => Sys2Proof.Machine.execDelayReq m s
  | .announce m => Sys2Proof.Machine.execAnnounce m s
  | .syncSend port => Sys2Proof.Machine.execSyncSend port s
  | .announceSend port => Sys2Proof.Machine.execAnnounceSend port s
  | .delayReqSend port => Sys2Proof.Machine.execDelayReqSend port s
  | .referenceLost => Sys2Proof.Machine.execReferenceLost s
  | .outerLoopUpdate audio phaseNs => Sys2Proof.Machine.execOuterLoopUpdate audio phaseNs s
  | .mediaPllLockLoss audio slip phaseNs => Sys2Proof.Machine.execMediaPllLockLoss audio slip phaseNs s
  | .pllMeasureWindow audio cycles => Sys2Proof.Machine.execPllMeasureWindow audio cycles s
  | .pllRelock audio => Sys2Proof.Machine.execPllRelock audio s
  | .systemPllLoss => Sys2Proof.Machine.execSystemPllLoss s
  | .audioFrame port edge words => Sys2Proof.Machine.execAudioFrame port edge words s
  | .audioIndexClose port index => Sys2Proof.Machine.execAudioIndexClose port index s
  | .audioPortStart port => Sys2Proof.Machine.execAudioPortStart port s
  | .portClockLost port => Sys2Proof.Machine.execPortClockLost port s
  | .holdLimit port => Sys2Proof.Machine.execHoldLimit port s
  | .rateWindow port => Sys2Proof.Machine.execRateWindow port s
  | .atlasApply => Sys2Proof.Machine.execAtlasApply s
  | .atlasLine line => Sys2Proof.Machine.execAtlasLine line s
  | .dramUncorrectable cause addr coords syndromes port task => Sys2Proof.Machine.execDramUncorrectable cause addr coords syndromes port task s
  | .freezeHoldExpiry => Sys2Proof.Machine.execFreezeHoldExpiry s
  | .scrubPass => Sys2Proof.Machine.execScrubPass s
  | .sramUncorrectable partition addr => Sys2Proof.Machine.execSramUncorrectable partition addr s
  | .descriptorComplete channel errorAt => Sys2Proof.Machine.execDescriptorComplete channel errorAt s
  | .vinStartGate => Sys2Proof.Machine.execVinStartGate s
  | .vinOff => Sys2Proof.Machine.execVinOff s
  | .resetNAssert lowNs => Sys2Proof.Machine.execResetNAssert lowNs s
  | .resetNRelease straps => Sys2Proof.Machine.execResetNRelease straps s
  | .watchdogReset cause => Sys2Proof.Machine.execWatchdogReset cause s
  | .domainPowerFail domain => Sys2Proof.Machine.execDomainPowerFail domain s
  | .pd0PowerFail => Sys2Proof.Machine.execPd0PowerFail s
  | .domainRelease => Sys2Proof.Machine.execDomainRelease s
  | .startStage => Sys2Proof.Machine.execStartStage s
  | .holdRelease => Sys2Proof.Machine.execHoldRelease s
  | .eventWrite => Sys2Proof.Machine.execEventWrite s
  | .announceReceiptTimeout port => Sys2Proof.Machine.execAnnounceReceiptTimeout port s
  | .vinBelowLimit => Sys2Proof.Machine.execVinBelowLimit s
  | .stackTemperatureChange celsius => Sys2Proof.Machine.execStackTemperatureChange celsius s

end Sys2Proof.Machine
end

