-- ==== Sys2Proof/Machine/Step.lean ====
section
/-! DEFINITION. Step.lean: the step. It takes the command at the front of the queue; on an empty queue the block idles for
one cycle of the 125 MHz clock. -/

namespace Sys2Proof.Machine

/-- The block idles: nothing is sent, and one cycle of Meridian's counter passes (R263, log 1). -/
def State.idle (s : State) : State := State.cycles { s with out := [] } 1

/-- One step: the front command with the queue's rest, or one idle cycle. -/
def step (s : State) : Host.Outcome State Fault Refusal :=
  match s.pending with
  | [] => .next s.idle
  | i :: rest => exec i { s with pending := rest }

/-- The command that a word spells goes to the front of the queue. -/
def State.withFetchWord (s : State) (nbits w : Nat) : State :=
  match decodeTableWord nbits w with
  | some i => { s with pending := i :: s.pending }
  | none => s

end Sys2Proof.Machine
end

