-- ==== Sys2Proof/WellFormed.lean ====
section
/-! DEFINITION. WellFormed.lean: which operands a command can carry. Each bound is the width of the wire field or the
number of instances that the spec gives the hardware. -/

namespace Sys2Proof

/-! ### Instances -/

/-- Channels 0 to 63 (R1). -/
def chanOk (c : Nat) : Bool := decide (c < 64)
/-- Flow entries 0 to 4,095 (R211). -/
def flowOk (f : Nat) : Bool := decide (f < 4096)
/-- Ethernet ports P0 to P7 (R208). -/
def portOk (p : Nat) : Bool := decide (p < 8)
/-- Serial audio ports 0 to 7 (R298). -/
def audioOk (p : Nat) : Bool := decide (p < 8)
/-- TIO pins 0 to 3 (R279). -/
def tioOk (p : Nat) : Bool := decide (p < 4)
/-- SerDes lanes 0 to 15 (R284). -/
def laneOk (l : Nat) : Bool := decide (l < 16)
/-- Device links: 0 lower, 1 upper, 2 mirror (Table 13-7). -/
def linkOk (l : Nat) : Bool := decide (l < 3)
/-- Long-operation kinds 1 to 6 (R398). -/
def kindOk (k : Nat) : Bool := decide (1 ≤ k) && decide (k ≤ 6)
/-- CAN node IDs: 0 addresses every node in an NMT command (R387). -/
def nodeOk (n : Nat) : Bool := decide (n < 128)
/-- Cascade positions 0 to 7 (R181). -/
def positionOk (p : Nat) : Bool := decide (p < 8)
/-- A field of `w` bits. -/
def fits (w v : Nat) : Bool := decide (v < 2 ^ w)

/-! ### Operands -/

/-- A 16-bit index and an 8-bit sub-index (R374). -/
def Obj.wf (o : Obj) : Bool := fits 16 o.idx && fits 8 o.sub

/-- A USDO client is a node, a session ID has 16 bits, RPDOs are 1 to 4 (R387, R391). -/
def Client.wf : Client → Bool
  | .sdo => true
  | .usdo n => nodeOk n
  | .exfer i => fits 16 i
  | .rpdo n => decide (n < 4)

/-- A write to an object of the dictionary, with an offset of 32 bits where it names one. -/
def HostWrite.wf (w : HostWrite) : Bool := w.obj.wf && (w.off.getD 0 |> fits 32)

/-- The Exfer datagram's fields (Table 19-4). -/
def ExferHdr.wf (d : ExferHdr) : Bool :=
  portOk d.port && fits 12 d.vlan && fits 32 d.dst && fits 8 d.keySlot && fits 16 d.session && fits 32 d.seq &&
    fits 8 d.relay && (d.tag.length == 16 || !d.auth)

/-- The fields of a received frame (R210, R215). -/
def RxPacket.wf (p : RxPacket) : Bool :=
  portOk p.port && fits 12 p.vlan && fits 32 p.src && fits 32 p.dst && fits 16 p.udpDst && fits 7 p.pt &&
    fits 32 p.ssrc && fits 32 p.seq && fits 32 p.ts

/-- Domain number, clock identity and sequence number (R269). -/
def PtpMsg.wf (m : PtpMsg) : Bool := portOk m.port && fits 8 m.domain && fits 80 m.source && fits 16 m.seq

/-- The fields of an Announce (Table 12-5). -/
def AnnounceMsg.wf (m : AnnounceMsg) : Bool :=
  portOk m.port && fits 8 m.domain && fits 80 m.source && fits 64 m.gmId && fits 8 m.prio1 && fits 8 m.clockClass &&
    fits 8 m.accuracy && fits 16 m.variance && fits 8 m.prio2 && fits 16 m.steps && fits 8 m.timeSource

/-- What one lane shows in training (R290). -/
def TrainingLane.wf (t : TrainingLane) : Bool := laneOk t.lane && fits 8 t.kind && fits 8 t.state && fits 8 t.position

/-- SDO sizes and CRCs have 32 and 16 bits; a block holds at most 127 segments (R387). -/
def SdoBlock.wf : SdoBlock → Bool
  | .initDown o n => o.wf && fits 32 n
  | .block q segs _ => fits 7 q && decide (segs.length ≤ 127)
  | .endDown crc => fits 16 crc
  | .initUp o b => o.wf && decide (b ≤ 127)
  | .ackUp a b => decide (a ≤ 127) && decide (b ≤ 127)

/-- SDO downloads carry at most the bytes that a frame holds (R387). -/
def SdoDown.wf : SdoDown → Bool
  | .expedited o d => o.wf && decide (d.length ≤ 4)
  | .initiate o n => o.wf && fits 32 n
  | .segment _ _ d => decide (d.length ≤ 7)
  | .badSpecifier => true

/-- SDO uploads name an object. -/
def SdoUp.wf : SdoUp → Bool
  | .initiate o => o.wf
  | .segment _ => true

/-- USDO requests name an object, and offsets of 32 bits. -/
def UsdoReq.wf : UsdoReq → Bool
  | .write o off _ => o.wf && (off.getD 0 |> fits 32)
  | .read o off n => o.wf && (off.getD 0 |> fits 32) && fits 32 n
  | .writeStart o n => o.wf && fits 32 n
  | .segment _ _ d => decide (d.length ≤ 64)

/-! ### Commands -/

/-- Whether a command's operands are within the hardware's fields and instances. -/
def Instr.wf : Instr → Bool
  | .commitSessionOpen c n => c.wf && fits 32 n
  | .commitSessionAbandon c => c.wf
  | .stagedWrite c w => c.wf && w.wf
  | .implicitCommit c w => c.wf && w.wf
  | .commitExecute c => c.wf
  | .commitWithdraw c n => c.wf && fits 32 n
  | .commitTarget => true
  | .sessionTimeout c => c.wf
  | .frameObjectWrite c w => c.wf && w.wf
  | .objectWrite c w => c.wf && w.wf
  | .firmwareInstallStart c => c.wf
  | .memoryTestStart c => c.wf
  | .eyeScanStart c => c.wf
  | .cascadeJoinStart c => c.wf
  | .pairResyncStart c => c.wf
  | .dictionarySaveStart c => c.wf
  | .operationSuspend c k => c.wf && kindOk k
  | .operationResume c k => c.wf && kindOk k
  | .operationCancel c k => c.wf && kindOk k
  | .operationComplete k o => kindOk k && fits 32 o.fail && fits 32 o.addr
  | .storeParameters c v => c.wf && fits 32 v
  | .restoreDefaults c v => c.wf && fits 32 v
  | .atlasCommit c => c.wf
  | .freezeExit c => c.wf
  | .hostCheckStart c => c.wf
  | .hostCheckComplete => true
  | .triggerArm c => c.wf
  | .triggerDisarm c => c.wf
  | .triggerFire => true
  | .tioModeWrite c p m => c.wf && tioOk p && fits 8 m
  | .tioEdge p => tioOk p
  | .framePulse p => tioOk p
  | .tioCapture p _ _ => tioOk p
  | .tioCaptureRead c p => c.wf && tioOk p
  | .gateListArm c p n => c.wf && portOk p && fits 16 n
  | .gateListTakeover p => portOk p
  | .meridianWrite c d => c.wf && decide (d.length ≤ 12)
  | .powerStateRequest c v => c.wf && fits 8 v
  | .powerTransitionComplete => true
  | .acknowledgeSerial c n => c.wf && fits 64 n
  | .laneRetrain c l v => c.wf && laneOk l && fits 8 v
  | .nmtStart n | .nmtStop n | .nmtEnterPreOperational n | .nmtResetNode n | .nmtResetCommunication n => nodeOk n
  | .sdoDownload r => r.wf
  | .sdoUpload r => r.wf
  | .sdoBlockTransfer r => r.wf
  | .usdoRequest n r => nodeOk n && r.wf
  | .sdoTimeout c => c.wf
  | .rpdoReceive n d => decide (n < 4) && decide (d.length ≤ 64)
  | .tpdoSend n => decide (n < 4)
  | .canHeartbeatSend => true
  | .nodeIdConflict n => fits 11 n
  | .emcySend => true
  | .exferSessionOpen d nonce => d.wf && (nonce.length == 8)
  | .exferSessionClose d => d.wf
  | .exferSessionIdleTimeout i => fits 16 i
  | .exferRead d o off n => d.wf && o.wf && fits 32 off && fits 16 n
  | .exferWrite d o off _ => d.wf && o.wf && fits 32 off
  | .exferBlockOpen d o _ off n => d.wf && o.wf && fits 32 off && fits 32 n
  | .exferBlockData d x off bs => d.wf && fits 16 x && fits 32 off && decide (bs.length ≤ 1024)
  | .exferBlockAck d x n => d.wf && fits 16 x && fits 32 n
  | .exferBlockEnd d x crc => d.wf && fits 16 x && fits 32 crc
  | .exferBlockResend i | .exferBlockStall i => fits 16 i
  | .exferSubscribe d m n => d.wf && fits 8 m && fits 64 n
  | .exferCommit d _ => d.wf
  | .exferRelay d _ => d.wf
  | .pairHeartbeatNotify n _ _ tag => fits 32 n && (tag.length == 16)
  | .notifySend i => fits 16 i
  | .packetReceive p => p.wf
  | .lineClose f _ _ => flowOk f
  | .ancillaryClose f _ => flowOk f
  | .audioSampleClose f _ => flowOk f
  | .flowPathSilent f _ => flowOk f
  | .arpRequest p t ip m => portOk p && fits 32 t && fits 32 ip && fits 48 m
  | .arpRefresh p as => portOk p && as.all fun a => fits 32 a.1 && fits 48 a.2
  | .preAnalysisBand f _ _ => flowOk f
  | .compositionBand c _ _ => chanOk c
  | .pictureDecision c => chanOk c
  | .rowDecision c _ _ => chanOk c
  | .rowCoding c _ _ => chanOk c
  | .replacementAu c _ => chanOk c
  | .auAssembly c _ => chanOk c
  | .modelUpdate c _ => chanOk c
  | .packetisation c _ => chanOk c
  | .deadlineRescue c _ => chanOk c
  | .completionRecordWrite p => fits 8 p
  | .collectorRound => true
  | .taskCreationDelayed k _ _ _ => fits 4 k
  | .packetDeparture p => portOk p
  | .sendGate c _ => chanOk c
  | .pairHeartbeatSend => true
  | .pairHeartbeat _ | .bandRecord _ | .decisionRecord _ | .auRecord _ | .resyncRequest _ | .resyncRecord _ => true
  | .deferredDecisionTimeout c => chanOk c
  | .yield _ => true
  | .roleListenExpiry | .activeLost | .promotionComplete | .mirrorLinkLost => true
  | .cascadeHeartbeatSend => true
  | .cascadeHeartbeat _ => true
  | .memberLost p => positionOk p
  | .masterLost => true
  | .frameReport _ => true
  | .reportClose _ => true
  | .canvasDecision _ | .rowRecord _ | .rowAcknowledgement _ | .auReport _ | .bandSegment _ | .bandRetryRequest _ => true
  | .bandClose _ _ => true
  | .mergeClose _ => true
  | .relayedCommit _ | .commitVote _ | .lossNotice _ => true
  | .linkFrame x => linkOk x.link
  | .compensationSequence l ls _ _ => linkOk l && ls.all laneOk
  | .cdrLock l ls => linkOk l && ls.all laneOk
  | .equaliserAdaptation l os => linkOk l && os.all fun o => o.length == 16
  | .trainingSet l ts => linkOk l && ts.all TrainingLane.wf
  | .linkStateTimeout l => linkOk l
  | .deviceLinkDown l cause => linkOk l && fits 8 cause
  | .lanePllLockLoss g => decide (g < 4)
  | .portLinkDown p => portOk p
  | .portLinkUp p => portOk p
  | .sync m | .followUp m | .delayResp m | .delayReq m => m.wf
  | .announce m => m.wf
  | .syncSend p | .announceSend p | .delayReqSend p => portOk p
  | .referenceLost => true
  | .outerLoopUpdate _ _ => true
  | .mediaPllLockLoss _ _ _ => true
  | .pllMeasureWindow _ _ => true
  | .pllRelock _ => true
  | .systemPllLoss => true
  | .audioFrame p _ ws => audioOk p && ws.all (fits 32)
  | .audioIndexClose p _ => audioOk p
  | .audioPortStart p | .portClockLost p | .holdLimit p | .rateWindow p => audioOk p
  | .atlasApply => true
  | .atlasLine n => fits 16 n
  | .dramUncorrectable c a k y p _ => fits 8 c && fits 40 a && fits 64 k && fits 64 y && fits 8 p
  | .freezeHoldExpiry => true
  | .scrubPass => true
  | .sramUncorrectable p a => fits 8 p && fits 32 a
  | .descriptorComplete ch _ => decide (ch < 32)
  | .vinStartGate | .vinOff => true
  | .resetNAssert _ => true
  | .resetNRelease st => fits 8 st
  | .watchdogReset c => fits 32 c
  | .domainPowerFail d => decide (d < 24)
  | .pd0PowerFail | .domainRelease | .startStage | .holdRelease | .eventWrite => true
  | .announceReceiptTimeout p => portOk p
  | .vinBelowLimit => true
  | .stackTemperatureChange _ => true

end Sys2Proof
end

