-- ==== Sys2Proof/Safety.lean ====
section
/-! DEFINITION. Safety.lean: the terms in which claims about the machine are made: what a command answers, what it leaves
unchanged, and the invariant that every step keeps. -/

namespace Sys2Proof.Machine

/-- A state in which a command has begun: nothing is sent yet. -/
def State.begun (s : State) : State := { s with out := [] }

/-- Command i completes in state s, with t for everything but the queue, which stays as it is. -/
def Answers (i : Instr) (s t : State) : Prop := exec i s = .next { t with pending := s.pending }

/-- Command i completes in state s, with a next state of which P holds; the queue stays as it is. -/
def Completes (i : Instr) (s : State) (P : State → Prop) : Prop := ∃ t, Answers i s t ∧ P t

/-- Command i completes in state s and changes nothing: it is lost, and nothing is sent. -/
def IsLost (i : Instr) (s : State) : Prop := Answers i s s.begun

/-- The write passes what stands against it before its own effect: access, type, range and locks. -/
def Writable (s : State) (c : Client) (w : HostWrite) : Prop := s.coreUp = true ∧ s.begun.writeCode c w = 0

/-- A command that is a host write is confirmed, with t for its effect. -/
def Granted (i : Instr) (s : State) (c : Client) (t : State) : Prop := Answers i s (t.say (.confirm c 0))

/-- A command that is a host write is answered with an abort code, and changes nothing. -/
def TurnedDown (i : Instr) (s : State) (c : Client) (code : Nat) : Prop := Answers i s (s.begun.say (.confirm c code))

/-- Templates of the Immediate objects whose write does more than change the object. -/
def actsAtOnce (base sub : Nat) : Bool :=
  [0x1010, 0x1011, 0x1600, 0x1A00, 0x2000, 0x2200, 0x2300, 0x2700, 0x2701, 0x2A00, 0x2C10, 0x2E00, 0x2F00].contains base ||
    (base == 0x2710 && sub == 1) || (base == 0x2800 && [4, 5, 0xA].contains sub) || (base == 0x2908 && sub == 5) ||
    (base == 0x2D01 && sub == 5) || (base == 0x4410 && sub == 4) || (base == 0x4700 && sub == 4) ||
    (base == 0x4B01 && sub == 5)

/-- An Exfer datagram reaches its session x on this unit, with every check passed (R390, R392, R397). -/
def ExferReaches (s : State) (d : ExferHdr) (x : ExferSession) : Prop :=
  s.exferMine d = true ∧ d.good = true ∧ s.exferElsewhere d = false ∧ s.exferSession d.session = some x ∧ s.tagGood x d = true

/-- It is the next numbered request of its session (R393). -/
def ExferNext (s : State) (d : ExferHdr) (x : ExferSession) : Prop :=
  ExferReaches s d x ∧ d.seq = (x.q + 1) % 0x100000000

/-- The state in which a numbered request of a type is served: its session is busy with it. -/
def State.serving (s : State) (d : ExferHdr) (x : ExferSession) (type_ : Nat) : State :=
  (s.putExfer { x with last := s.now }).putExfer { x with last := s.now, q := d.seq, stored := (0, type_, []) }

/-! ### What is left unchanged -/

/-- The object dictionary, its contents and the memory are unchanged. -/
def SameStore (s t : State) : Prop := t.dict = s.dict ∧ t.bytes = s.bytes ∧ t.mem = s.mem

/-! ### The invariant -/

/-- The canonical form of a memory: addresses strictly rising, and no byte equal to what an unlisted address reads as. -/
abbrev Memory.wf (m : Tab Byte) : Bool := Tab.wf (fun _ => (0 : Byte)) m

/-- The stores are in order: the memory keeps its one canonical form, and no key of the dictionary or of the contents is
listed twice or out of place. -/
def State.Inv (s : State) : Prop :=
  Memory.wf s.mem = true ∧ Tab.sortedFrom 0 s.dict = true ∧ Tab.sortedFrom 0 s.bytes = true

/-! ### Classes of commands -/

/-- The commands that only the supply and the reset pin, the reset sequence, CAN FD and the hosts of the management core
send: every other command is lost while the module is frozen, held in reset or not yet started (R353, R429, R448). -/
def reachesCore : Instr → Bool
  | .vinStartGate | .vinOff | .vinBelowLimit | .resetNAssert _ | .resetNRelease _ | .pd0PowerFail | .domainRelease
  | .startStage | .freezeHoldExpiry | .nmtStart _ | .nmtStop _ | .nmtEnterPreOperational _ | .nmtResetNode _
  | .nmtResetCommunication _ | .sdoDownload _ | .sdoUpload _ | .sdoBlockTransfer _ | .usdoRequest _ _ | .sdoTimeout _
  | .rpdoReceive _ _ | .tpdoSend _ | .canHeartbeatSend | .nodeIdConflict _ | .emcySend | .eventWrite
  | .commitSessionOpen _ _ | .commitSessionAbandon _ | .stagedWrite _ _ | .implicitCommit _ _ | .commitExecute _
  | .commitWithdraw _ _ | .frameObjectWrite _ _ | .objectWrite _ _ | .firmwareInstallStart _ | .memoryTestStart _
  | .eyeScanStart _ | .cascadeJoinStart _ | .pairResyncStart _ | .dictionarySaveStart _ | .operationSuspend _ _
  | .operationResume _ _ | .operationCancel _ _ | .storeParameters _ _ | .restoreDefaults _ _ | .atlasCommit _
  | .freezeExit _ | .hostCheckStart _ | .triggerArm _ | .triggerDisarm _ | .tioModeWrite _ _ _ | .tioCaptureRead _ _
  | .gateListArm _ _ _ | .meridianWrite _ _ | .powerStateRequest _ _ | .acknowledgeSerial _ _ | .laneRetrain _ _ _ => true
  | _ => false

end Sys2Proof.Machine
end

