-- ==== Sys2Proof/Certificates/Slice0/Obligations.lean ====
section
/-! DEFINITION. Obligations.lean: the statements about the machine. Each says which rule of the spec it formalises, or which
choice of the model it rests on. -/

open Sys2Proof Sys2Proof.Machine

/-! ### The whole machine -/

/-- A step on a queue with a command at its front is that command's meaning on the state with the queue's rest; on an empty
queue the block idles: nothing is sent, and one cycle of the 125 MHz counter passes (model's choice, log 1). -/
def Obligations.StepRunsTheFront : Prop :=
  (∀ (s : State) (i : Instr) (rest : List Instr), s.pending = i :: rest → step s = exec i { s with pending := rest }) ∧
  ∀ s : State, s.pending = [] →
    step s = .next { s with out := [], clk := ⟨s.clk.merid + s.clk.addend, s.clk.addend, s.clk.cycles + 1⟩ }

/-- Whatever a command does, it leaves the queue of waiting commands as it finds it; so a step takes exactly one command
from the queue. -/
def Obligations.CommandsKeepTheQueue : Prop :=
  (∀ (i : Instr) (s t : State), exec i s = .next t → t.pending = s.pending) ∧
  ∀ s t : State, step s = .next t → t.pending = s.pending.tail

/-- R431: below 5.4 V everything is undefined until VIN has been off; the mark of that band also stands for a DRAM stack
above the limit of R482 (log 109). Nothing else ever stops the machine. A command stops exactly when that mark stands and
the command is none of the two by which VIN itself moves, and then with that one fault; no command is refused. -/
def Obligations.OnlyTheUndefinedBandStops : Prop :=
  ∀ (i : Instr) (s : State),
    (s.power.vin = .undefinedBand ∧ i ≠ .vinOff ∧ i ≠ .vinBelowLimit → exec i s = .fault .undefinedBehaviour) ∧
    (¬(s.power.vin = .undefinedBand ∧ i ≠ .vinOff ∧ i ≠ .vinBelowLimit) → ∃ t, exec i s = .next t)

/-- R353, R355, R429: during a freeze every command is lost, but for those of the supply, of RESET_N, of the reset
sequence, of CAN FD and of the hosts that the management core serves: it changes nothing and sends nothing. -/
def Obligations.FreezeLosesTheRest : Prop :=
  ∀ (i : Instr) (s : State), s.power.vin = .running → s.power.freeze.isSome = true → reachesCore i = false → IsLost i s

/-- Every step keeps the stores in order: the memory in its one canonical form, the dictionary and the contents of the
DOMAIN objects strictly rising by key. -/
def Obligations.EveryStepKeepsTheStores : Prop :=
  ∀ s t : State, s.Inv → step s = .next t → t.Inv

/-- The state after reset has its stores in order, no command waits, and nothing has been sent. -/
def Obligations.ResetHasItsStoresInOrder : Prop :=
  State.reset.Inv ∧ State.reset.pending = [] ∧ State.reset.out = []

/-- R448, R449: at power-on the start sequence stands before its first stage, the hold is set, no management core runs yet,
and no channel, flow, port, link, session, commit or event exists. -/
def Obligations.ResetStartsTheSequence : Prop :=
  State.reset.power.stage = 0 ∧ State.reset.power.hold = true ∧ State.reset.power.core = false ∧
  State.reset.power.vin = .running ∧ State.reset.chans = [] ∧ State.reset.flows = [] ∧ State.reset.ports = [] ∧
  State.reset.links = [] ∧ State.reset.exfer.sessions = [] ∧ State.reset.commit.sessions = [] ∧
  State.reset.commit.pending = [] ∧ State.reset.evt.log = [] ∧ State.reset.evt.newest = 0 ∧
  State.reset.clk.merid = 0 ∧ ∀ idx sub, State.reset.obj idx sub = defaultOf (key idx sub)

/-! ### Commits, objects and long operations -/

/-- R379: a client with no session and fewer than four sessions open opens one by a non-zero identifier; it holds no write
yet, and the write is confirmed. Writing 0 abandons it. R379: a Staged write that passes its checks is held in its client's
session, an earlier write of the same object and range gives way to it, and no object changes. 60 s after the last write
the session is abandoned, with its event. -/
def Obligations.SessionsHoldWritesAndExpire : Prop :=
  (∀ (s : State) (c : Client) (ident : Nat), ident ≠ 0 → ident < 2 ^ 32 → s.coreUp = true →
    s.begun.writeCode c (numWrite 0x2F00 1 4 ident) = 0 → s.sessionOf c = none → s.commit.sessions.length < 4 →
    Completes (.commitSessionOpen c ident) s fun t =>
      t.sessionOf c = some ⟨c, ident, [], s.now⟩ ∧ (t.regsOf c).ident = ident ∧ (t.regsOf c).status = 1 ∧
      t = { s with commit := t.commit, out := [.confirm c 0] } ∧ t.commit.pending = s.commit.pending ∧
      ∀ d, d ≠ c → t.sessionOf d = s.sessionOf d) ∧
  (∀ (s : State) (c : Client), s.coreUp = true → s.begun.writeCode c (numWrite 0x2F00 1 4 0) = 0 →
    Completes (.commitSessionAbandon c) s fun t =>
      t.sessionOf c = none ∧ (t.regsOf c).ident = 0 ∧ t = { s with commit := t.commit, out := [.confirm c 0] } ∧
      t.commit.pending = s.commit.pending ∧ ∀ d, d ≠ c → t.sessionOf d = s.sessionOf d) ∧
  (∀ (s : State) (c : Client) (w : HostWrite) (x : Session) (r : ObjRow), s.coreUp = true → s.begun.writeCode c w = 0 →
    rowOf w.obj.idx w.obj.sub = some r → r.apply = .staged → s.begun.stagedCode w.obj = 0 → s.begun.sessionOf c = some x →
    Completes (.stagedWrite c w) s fun t =>
      t.sessionOf x.client = some { x with
        writes := (x.writes.filter fun y => !(sameWrite y (s.begun.throughWindow w))) ++ [s.begun.throughWindow w]
        last := s.now } ∧
      t = { s with commit := t.commit, out := [.confirm c 0] } ∧ t.commit.pending = s.commit.pending) ∧
  (∀ (s : State) (c : Client) (x : Session), s.allServed = true → s.sessionOf c = some x →
    Completes (.sessionTimeout c) s fun t =>
      t.sessionOf c = none ∧ (t.regsOf c).status = 0 ∧ SameStore s t ∧ t.commit.pending = s.commit.pending ∧
      t.evt = (((s.begun.until (secT 60 + x.last)).raiseUnit 0x0803 x.ident)).evt)

/-- R380, R381: a commit that passes every check becomes pending with its target and its epoch, its session closes, and the
write is confirmed; an implicit commit takes the instant 1 ms ahead, and is no way to write the pair's and the canvas's
objects that need a commit of their own (0x08000022). No object changes. R382: the first pending commit comes into force at
its target, whole; the others stay pending. (Which commits of a canvas are relayed instead: log 126, 129.) -/
def Obligations.CommitsBecomePendingAndComeIntoForce : Prop :=
  (∀ (s : State) (c : Client) (x : Session), s.coreUp = true → s.begun.writeCode c (numWrite 0x2F00 5 1 1) = 0 →
    s.begun.sessionOf c = some x → (s.regsOf c).relay ≠ 1 → s.begun.canvasCommit x.writes = false →
    x.writes.any s.begun.canvasFrame = false →
    s.begun.judgeCommit x.writes (secT (s.regsOf c).secs + nsT (s.regsOf c).nanos) = 0 →
    Answers (.commitExecute c) s
      ((((s.begun.enrol (some c) x.ident (secT (s.regsOf c).secs + nsT (s.regsOf c).nanos) (s.regsOf c).epoch x.writes
        false).accepted).closeSession c).say (.confirm c 0))) ∧
  (∀ (s : State) (c : Client) (w : HostWrite) (r : ObjRow), s.coreUp = true → s.begun.writeCode c w = 0 →
    rowOf w.obj.idx w.obj.sub = some r → r.apply = .staged → s.begun.stagedCode w.obj = 0 → s.begun.sessionOf c = none →
    w.obj ≠ ⟨0x2200, 1⟩ → w.obj ≠ ⟨0x2200, 7⟩ → s.begun.canvasCommit [w] = false →
    s.begun.judgeCommit [s.begun.throughWindow w] (msT 1 + s.now) = 0 →
    Answers (.implicitCommit c w) s
      ((((s.begun.enrol (some c) 0 (msT 1 + s.now) 0 [s.begun.throughWindow w] false).accepted).onRegs c
        fun r => { r with status := 2 }).say (.confirm c 0))) ∧
  (∀ (s : State) (c : Client) (w : HostWrite) (r : ObjRow), s.coreUp = true → s.begun.writeCode c w = 0 →
    rowOf w.obj.idx w.obj.sub = some r → r.apply = .staged → s.begun.stagedCode w.obj = 0 → s.begun.sessionOf c = none →
    w.obj = ⟨0x2200, 1⟩ ∨ w.obj = ⟨0x2200, 7⟩ ∨ s.begun.canvasCommit [w] = true →
    TurnedDown (.implicitCommit c w) s c 0x08000022) ∧
  (∀ (s : State) (c : Option Client) (ident target epoch : Nat) (ws : List HostWrite) (relayed : Bool),
    ∃ p, (s.enrol c ident target epoch ws relayed).commit.pending = s.commit.pending ++ [p] ∧ p.target = target ∧
      p.writes = ws ∧ p.ident = ident ∧ (epoch ≠ 0 → p.epoch = epoch) ∧
      (s.enrol c ident target epoch ws relayed).bytes = s.bytes) ∧
  (∀ (s : State) (p : PendingCommit) (rest : List PendingCommit), s.allServed = true →
      s.commit.pending = p :: rest → p.relayed = false →
      Answers .commitTarget s
        (((s.begun.until p.target).onCommit fun x => { x with pending := rest }).putInForce p))

/-- R384: the latest pending commit is withdrawn by its identifier up to 1 ms before its target. R381, R384: an execute
with no open session, and a withdrawal of what is not pending, are rejected with 0x08000022 and change nothing. -/
def Obligations.CommitsAreWithdrawnOrTurnedDown : Prop :=
  (∀ (s : State) (c d : Client) (p : PendingCommit) (front : List PendingCommit), s.coreUp = true → p.ident ≠ 0 →
      p.ident < 2 ^ 32 → s.begun.writeCode c (numWrite 0x2F00 0xC 4 p.ident) = 0 → s.commit.pending = front ++ [p] →
      msT 1 + s.now ≤ p.target → s.commit.relay = none → p.client = some d →
      Completes (.commitWithdraw c p.ident) s fun t =>
        t.commit.pending = front ∧ (t.regsOf d).status = 5 ∧ SameStore s t) ∧
  (∀ (s : State) (c : Client), s.coreUp = true → s.begun.writeCode c (numWrite 0x2F00 5 1 1) = 0 → s.sessionOf c = none →
    Answers (.commitExecute c) s (s.begun.say (.confirm c 0x08000022))) ∧
  (∀ (s : State) (c : Client) (ident : Nat), s.coreUp = true → ident < 2 ^ 32 →
    s.begun.writeCode c (numWrite 0x2F00 0xC 4 ident) = 0 → s.commit.pending = [] →
    Answers (.commitWithdraw c ident) s (s.begun.say (.confirm c 0x08000022)))

/-- R375, R377: a write that passes its checks takes its place: an Immediate object changes at once (and its covered image
is computed anew, R372), a Frame object of a disabled channel likewise once every configuration ahead stays admissible (the
last slots of a channel that still runs go on with what was in force), and the Frame objects of Atlas join the pending set.
A session marked for relay at the master of a canvas holds the Frame objects of the canvas channel (model's reading, log
129). A write that fails a check is answered with that check's abort code and changes nothing; so is a Frame write of an
enabled channel. -/
def Obligations.ObjectWritesTakeEffectOrChangeNothing : Prop :=
  (∀ (s : State) (c : Client) (w : HostWrite) (r : ObjRow), Writable s c w → rowOf w.obj.idx w.obj.sub = some r →
    r.apply = .immediate → s.begun.busyWrite w.obj = false → actsAtOnce (baseOf w.obj.idx w.obj.sub) w.obj.sub = false →
    Granted (.objectWrite c w) s c ((s.begun.putWrite w).surveyChanged w.obj.idx w.obj.sub)) ∧
  (∀ (s : State) (c : Client) (w : HostWrite), s.coreUp = true → s.begun.writeCode c w ≠ 0 →
    TurnedDown (.objectWrite c w) s c (s.begun.writeCode c w)) ∧
  (∀ (s : State) (c : Client) (w : HostWrite) (r : ObjRow), Writable s c w → rowOf w.obj.idx w.obj.sub = some r →
    r.apply = .frame → ¬baseOf w.obj.idx w.obj.sub ∈ [0x2A00, 0x2A10, 0x2200] →
    s.begun.relaySession c w = none → s.begun.frameBarred w = false → State.aheadCode s.begun (s.begun.putWrite w) = 0 →
    ((s.begun.chan (place w.obj.idx w.obj.sub).inst).running = false →
      Granted (.frameObjectWrite c w) s c ((s.begun.putWrite w).surveyChanged w.obj.idx w.obj.sub)) ∧
    ((s.begun.chan (place w.obj.idx w.obj.sub).inst).running = true →
      Granted (.frameObjectWrite c w) s c
        (((s.begun.putWrite w).surveyChanged w.obj.idx w.obj.sub).keepUndo s.begun s.now [w]))) ∧
  (∀ (s : State) (c : Client) (w : HostWrite) (r : ObjRow) (x : Session), Writable s c w →
    rowOf w.obj.idx w.obj.sub = some r → r.apply = .frame → s.begun.relaySession c w = some x →
    s.begun.frameBarred w = false → Granted (.frameObjectWrite c w) s c (s.begun.holdWrite x w)) ∧
  (∀ (s : State) (c : Client) (w : HostWrite) (r : ObjRow), Writable s c w → rowOf w.obj.idx w.obj.sub = some r →
    r.apply = .frame → baseOf w.obj.idx w.obj.sub ∈ [0x2A00, 0x2A10] →
    Granted (.frameObjectWrite c w) s c (s.begun.putWrite w)) ∧
  (∀ (s : State) (c : Client) (w : HostWrite) (r : ObjRow), Writable s c w → rowOf w.obj.idx w.obj.sub = some r →
    r.apply = .frame → ¬baseOf w.obj.idx w.obj.sub ∈ [0x2A00, 0x2A10, 0x2200] →
    s.begun.frameBarred w = true → TurnedDown (.frameObjectWrite c w) s c 0x08000022)

/-- R398: a long operation whose kind neither runs nor is suspended, and whose arguments and circumstances its kind allows,
starts: its block reads running, progress, result and detail 0, and its arguments are taken as they stand. R398: while its
kind runs or is suspended no operation starts: every start is answered 0x08000022 and changes nothing. R398, Table 19-7:
suspend, resume and cancel move a running or suspended operation to its next state, with the clean-up of its kind; where
the kind or the state forbids the command it is answered 0x08000022. -/
def Obligations.LongOperationsStartAndObeyCommands : Prop :=
  (∀ (s : State) (c : Client), Writable s c (numWrite 0x2F00 0x10 1 1) → s.begun.opBusy 1 = false → s.begun.op 1 1 ≤ 67108864 →
    Granted (.firmwareInstallStart c) s c ((s.begun.setIdleBank s.begun.idleBank.marked).beginOp 1 ⟨s.begun.op 1 1, 0, [], [], []⟩)) ∧
  (∀ (s : State) (c : Client), Writable s c (numWrite 0x2F00 0x20 1 1) → s.begun.opBusy 2 = false → s.begun.testBarred = false →
    Granted (.memoryTestStart c) s c (s.begun.beginOp 2 OpRun.empty)) ∧
  (∀ (s : State) (c : Client), Writable s c (numWrite 0x2F00 0x30 1 1) → s.begun.opBusy 3 = false → s.begun.op 3 1 < 16 →
    s.begun.nat (0x2800 + s.begun.op 3 1) 9 = 4 →
    Granted (.eyeScanStart c) s c (s.begun.beginOp 3 ⟨s.begun.op 3 1, s.begun.now32, [s.begun.nat (0x4800 + s.begun.op 3 1) 1], [], []⟩)) ∧
  (∀ (s : State) (c : Client), Writable s c (numWrite 0x2F00 0x40 1 1) → s.begun.opBusy 4 = false → s.begun.isMaster = true →
    s.begun.op 4 1 ≠ 0 → s.begun.op 4 1 < s.begun.members →
    s.begun.now + t0 s.begun.joinRate 3 ≤ t0 s.begun.joinRate (s.begun.joinTarget (s.begun.op 4 2)) → s.casc.rejoin = none →
    ∀ u, u = s.begun.beginOp 4 ⟨s.begun.op 4 1, s.begun.joinTarget (s.begun.op 4 2), [], [], []⟩ →
    Granted (.cascadeJoinStart c) s c (if u.mayRejoin (s.begun.op 4 1) = true then
      u.drawn.onCasc fun x => { x with rejoin := some (s.begun.op 4 1, s.begun.joinTarget (s.begun.op 4 2)) }
      else u.drawn.endOp 4 0x08000022 0)) ∧
  (∀ (s : State) (c : Client), Writable s c (numWrite 0x2F00 0x50 1 1) → s.begun.opBusy 5 = false → s.begun.paired = true →
    s.begun.op 5 1 < 64 → s.begun.chanOn (s.begun.op 5 1) = true →
    ((s.begun.beginOp 5 ⟨s.begun.op 5 1, 0, [s.begun.op 5 1], [], []⟩).onPc (s.begun.op 5 1) fun p =>
      { p with withdrawn := false }).pairResyncEnds [s.begun.op 5 1] = false →
    Granted (.pairResyncStart c) s c ((s.begun.beginOp 5 ⟨s.begun.op 5 1, 0, [s.begun.op 5 1], [], []⟩).onPc (s.begun.op 5 1) fun p =>
      { p with withdrawn := false })) ∧
  (∀ (s : State) (c : Client), Writable s c (numWrite 0x2F00 0x60 1 1) → s.begun.opBusy 6 = false →
    Granted (.dictionarySaveStart c) s c
      (s.begun.beginOp 6 ⟨s.begun.nat 0x2F00 7, 0, [], s.begun.storedDict, s.begun.storedBytes⟩)) ∧
  (∀ (s : State) (c : Client) (i : Instr) (k : Nat),
      (i, k) ∈ [(.firmwareInstallStart c, 1), (.memoryTestStart c, 2), (.eyeScanStart c, 3), (.cascadeJoinStart c, 4),
        (.pairResyncStart c, 5), (.dictionarySaveStart c, 6)] →
      Writable s c (numWrite 0x2F00 (0x10 * k) 1 1) → s.begun.opBusy k = true → TurnedDown i s c 0x08000022) ∧
  (∀ (s : State) (c : Client) (k : Nat), 1 ≤ k → k ≤ 6 → Writable s c (numWrite 0x2F00 (0x10 * k) 1 2) →
    (s.begun.op k 4 = 1 → k ≤ 3 → Granted (.operationSuspend c k) s c ((s.begun.setOp k 0 2).setOp k 4 2)) ∧
    (¬(s.begun.op k 4 = 1 ∧ k ≤ 3) → TurnedDown (.operationSuspend c k) s c 0x08000022)) ∧
  (∀ (s : State) (c : Client) (k : Nat), 1 ≤ k → k ≤ 6 → Writable s c (numWrite 0x2F00 (0x10 * k) 1 3) →
    (s.begun.op k 4 = 2 → Granted (.operationResume c k) s c ((s.begun.setOp k 0 3).setOp k 4 1)) ∧
    (s.begun.op k 4 ≠ 2 → TurnedDown (.operationResume c k) s c 0x08000022)) ∧
  (∀ (s : State) (c : Client) (k : Nat), 1 ≤ k → k ≤ 6 → Writable s c (numWrite 0x2F00 (0x10 * k) 1 4) →
    (s.begun.opBusy k = false ∨ k = 6 → TurnedDown (.operationCancel c k) s c 0x08000022) ∧
    (s.begun.opBusy 1 = true → k = 1 →
      Granted (.operationCancel c k) s c ((s.begun.setIdleBank s.begun.idleBank.marked).endCancelled 1)) ∧
    (s.begun.opBusy 2 = true → k = 2 → Granted (.operationCancel c k) s c (s.begun.testMemory.endCancelled 2)) ∧
    (s.begun.opBusy 3 = true → k = 3 → Granted (.operationCancel c k) s c (s.begun.cancelEyeScan.endCancelled 3)) ∧
    (s.begun.opBusy 4 = true → k = 4 → msT 1 + s.begun.now ≤ t0 s.begun.joinRate (s.begun.run 4).argB →
      Granted (.operationCancel c k) s c ((s.begun.onCasc fun x => { x with rejoin := none }).endCancelled 4)) ∧
    (s.begun.opBusy 5 = true → k = 5 → Granted (.operationCancel c k) s c
      ((State.follow s.begun ((s.begun.run 5).chans.foldl State.withdrawResync s.begun)).endCancelled 5)))

/-- R398, R399: the block of a kind reads what its state says: 1, and progress, result and detail 0, once it begins; 3,
progress 1,000 and its detail once it has succeeded; 4 with its result once it has failed; 5 once it is cancelled; and no
other object of the dictionary changes with it. -/
def Obligations.OperationBlocksReadTheirState : Prop :=
  ∀ (s : State) (k : Nat), s.Inv → 1 ≤ k → k ≤ 6 →
    (∀ x : OpRun, (s.beginOp k x).op k 4 = 1 ∧ (s.beginOp k x).op k 5 = 0 ∧ (s.beginOp k x).op k 6 = 0 ∧
      (s.beginOp k x).op k 7 = 0 ∧ (s.beginOp k x).run k = x) ∧
    (∀ result detail : Nat, (s.endOp k result detail).op k 6 = result ∧ (s.endOp k result detail).op k 7 = detail ∧
      (s.endOp k result detail).op k 4 = (if result = 0 then 3 else 4) ∧
      (result = 0 → (s.endOp k result detail).op k 5 = 1000)) ∧
    (s.endCancelled k).op k 4 = 5 ∧
    ∀ (x : OpRun) (result detail i j : Nat), (∀ m, m < 8 → key i j ≠ key 0x2F00 (0x10 * k + m)) →
      (s.beginOp k x).obj i j = s.obj i j ∧ (s.endOp k result detail).obj i j = s.obj i j ∧
      (s.endCancelled k).obj i j = s.obj i j

/-- R399, Table 19-7: a running operation ends as its work did: an install with the image checked, its signature verified
and the bank written; a memory test with its memory zero, naming the failing address; an eye scan with its cells written; a
save with the image that is not the newest written, one past the newest. A kind that does not run completes nothing. -/
def Obligations.LongOperationsComplete : Prop :=
  (∀ (s : State) (o : OpOutcome), s.allServed = true → s.begun.op 1 4 = 1 →
    (Config.imageForm (s.begun.bytesAt 0x6F00 1 0 (s.begun.run 1).argA) = true →
      Config.imageSigned (s.begun.bytesAt 0x6F00 1 0 (s.begun.run 1).argA) = true → o.fail = 0 →
      Answers (.operationComplete 1 o) s
        ((s.begun.installed (s.begun.bytesAt 0x6F00 1 0 (s.begun.run 1).argA)).endOp 1 0 0)) ∧
    (Config.imageForm (s.begun.bytesAt 0x6F00 1 0 (s.begun.run 1).argA) = true →
      Config.imageSigned (s.begun.bytesAt 0x6F00 1 0 (s.begun.run 1).argA) = true → o.fail ≠ 0 →
      Answers (.operationComplete 1 o) s (s.begun.endOp 1 0x06060000 3)) ∧
    (Config.imageForm (s.begun.bytesAt 0x6F00 1 0 (s.begun.run 1).argA) = true →
      Config.imageSigned (s.begun.bytesAt 0x6F00 1 0 (s.begun.run 1).argA) = false →
      Answers (.operationComplete 1 o) s (s.begun.endOp 1 0x08000000 1)) ∧
    (Config.imageForm (s.begun.bytesAt 0x6F00 1 0 (s.begun.run 1).argA) = false →
      Answers (.operationComplete 1 o) s (s.begun.endOp 1 0x08000000 2))) ∧
  (∀ (s : State) (o : OpOutcome), s.allServed = true → s.begun.op 2 4 = 1 →
    (o.fail = 0 → Answers (.operationComplete 2 o) s (s.begun.testMemory.endOp 2 0 0)) ∧
    (o.fail ≠ 0 → Answers (.operationComplete 2 o) s
      (s.begun.testMemory.endOp 2 0x06060000 (o.addr / 64 % 0x100000000)))) ∧
  (∀ (s : State) (o : OpOutcome), s.allServed = true → s.begun.op 3 4 = 1 →
    (o.fail = 0 → Answers (.operationComplete 3 o) s ((s.begun.writeScan 0 o.cells).endOp 3 0 0)) ∧
    (o.fail ≠ 0 → Answers (.operationComplete 3 o) s ((s.begun.writeScan 1 o.cells).endOp 3 0x08000022 0))) ∧
  (∀ (s : State) (o : OpOutcome), s.allServed = true → s.begun.op 6 4 = 1 → s.can.saveWait = none →
    Answers (.operationComplete 6 o) s
      (State.endOp { s.begun with flash := s.flash.write (s.begun.savedImage (o.fail == 0)) } 6
        (if o.fail = 0 then 0 else 0x06060000) 0)) ∧
  (∀ (s : State) (k : Nat) (o : OpOutcome), s.allServed = true → s.begun.op k 4 ≠ 1 → IsLost (.operationComplete k o) s)

/-- R388, R451: "save" starts a dictionary save and its write is confirmed when that has ended; "load" sets the marker that
the next reset-node takes; any other value is answered 0x08000020. R322, R323: with Atlas running, a commit of an
admissible pending set stamps one more snapshot of it and changes nothing in force; with Atlas off, a set that leaves it
off comes into force at once, and one that enables it starts it. R355: a write of 1 to the freeze exit resets by kind 5 while
the module is frozen, and is answered 0x08000022 while it is not. -/
def Obligations.SaveRestoreAndAtlasCommitsAct : Prop :=
  (∀ (s : State) (c : Client), Writable s c (numWrite 0x1010 1 4 saveWord) → s.begun.opBusy 6 = false →
    Answers (.storeParameters c saveWord) s
      { s.begun.beginOp 6 ⟨s.begun.nat 0x2F00 7, 0, [], s.begun.storedDict, s.begun.storedBytes⟩ with
        can := { s.can with saveWait := some c } }) ∧
  (∀ (s : State) (c : Client) (v : Nat), v < 2 ^ 32 → v ≠ saveWord → Writable s c (numWrite 0x1010 1 4 v) →
    TurnedDown (.storeParameters c v) s c 0x08000020) ∧
  (∀ (s : State) (c : Client), Writable s c (numWrite 0x1011 1 4 loadWord) →
    Granted (.restoreDefaults c loadWord) s c { s.begun with flash := { s.flash with restore := true } }) ∧
  (∀ (s : State) (c : Client) (v : Nat), v < 2 ^ 32 → v ≠ loadWord → Writable s c (numWrite 0x1011 1 4 v) →
    TurnedDown (.restoreDefaults c v) s c 0x08000020) ∧
  (∀ (s : State) (c : Client) (k : Nat), Writable s c (numWrite 0x2A00 7 1 1) →
    s.begun.atlasAbort s.begun.atlasPending = none → s.atlas.next = some k →
    setVal s.begun.atlasPending 0x2A00 2 = s.begun.atl 0x2A00 2 → s.begun.nat 0x2000 2 ≠ 2 → s.begun.nat 0x2F00 0x24 ≠ 1 →
    s.begun.nat 0x2F00 0x24 ≠ 2 →
    Granted (.atlasCommit c) s c (State.reviewDisagreement (State.configurePlls { s.begun with atlas := { s.atlas with
      nextSeq := s.atlas.nextSeq + 1, snaps := s.atlas.snaps ++ [⟨s.atlas.nextSeq, s.begun.now, s.begun.atlasPending⟩] } }))) ∧
  (∀ (s : State) (c : Client), Writable s c (numWrite 0x2A00 7 1 1) →
    s.begun.atlasAbort s.begun.atlasPending = none → s.atlas.next = none →
    setVal s.begun.atlasPending 0x2A00 2 = s.begun.atl 0x2A00 2 →
    (setVal s.begun.atlasPending 0x2A00 1 ≠ 1 →
      Granted (.atlasCommit c) s c (State.reviewDisagreement (State.configurePlls { s.begun with atlas := { s.atlas with
        nextSeq := s.atlas.nextSeq + 1, inForce := s.begun.atlasPending, snaps := [] } }))) ∧
    (setVal s.begun.atlasPending 0x2A00 1 = 1 → s.power.hold = false → s.begun.nat 0x2000 2 ≠ 2 →
      s.begun.nat 0x2F00 0x24 ≠ 1 → s.begun.nat 0x2F00 0x24 ≠ 2 →
      Granted (.atlasCommit c) s c (State.reviewDisagreement (State.configurePlls (State.atlasStart { s.begun with
        atlas := { s.atlas with nextSeq := s.atlas.nextSeq + 1 } } s.begun.atlasPending
          [⟨s.atlas.nextSeq, s.begun.now, s.begun.atlasPending⟩]))))) ∧
  (∀ (s : State) (c : Client) (code : Nat), Writable s c (numWrite 0x2A00 7 1 1) →
    s.begun.atlasAbort s.begun.atlasPending = some code → code ≠ 0 → TurnedDown (.atlasCommit c) s c code) ∧
  (∀ (s : State) (c : Client), Writable s c (numWrite 0x2C10 0xB 1 1) →
    (s.power.freeze.isSome = true → Granted (.freezeExit c) s c (s.begun.resetInto 5).updateAttn) ∧
    (s.power.freeze = none → TurnedDown (.freezeExit c) s c 0x08000022))

/-- R369: a host check of a range inside a DOMAIN runs over the bytes it names; when it completes, its value, its state and
any mismatch of kind 8 become visible, and the outcome goes to Orchard as a record of producer 27. A second one, an absent object and a range past the end are answered with their
codes. R424: a serial between the acknowledged one and the newest is acknowledged, and ATTN_N follows; where the error
register clears with it, one EMCY says so. A lower serial is answered 0x08000022, one past the newest 0x06090030. -/
def Obligations.HostChecksAndAcknowledgements : Prop :=
  (∀ (s : State) (c : Client), Writable s c (numWrite 0x2D01 5 1 1) → s.hostCheck = none → s.begun.checkRange.2.2.2 ≠ 0 →
    isDomain s.begun.checkRange.1 s.begun.checkRange.2.1 = true →
    indexExists s.begun.checkRange.1 = true → (rowOf s.begun.checkRange.1 s.begun.checkRange.2.1).isSome = true →
    s.begun.checkRange.2.2.1 + s.begun.checkRange.2.2.2 ≤ s.begun.sizeOf s.begun.checkRange.1 s.begun.checkRange.2.1 →
    Granted (.hostCheckStart c) s c
      ((State.setObj { s.begun with hostCheck := some ⟨s.begun.checkRange.1, s.begun.checkRange.2.1, s.begun.checkRange.2.2.1,
        s.begun.checkRange.2.2.2, s.begun.nat 0x2D01 4⟩ } 0x2D01 5 1).setObj 0x2D01 7 1)) ∧
  (∀ (s : State) (c : Client), Writable s c (numWrite 0x2D01 5 1 1) → s.hostCheck.isSome = true →
    TurnedDown (.hostCheckStart c) s c 0x08000022) ∧
  (∀ (s : State) (h : HostCheck), s.allServed = true → s.hostCheck = some h →
    Answers .hostCheckComplete s
      (s.begun.hostCheckEnds (crc32c (s.begun.readRange h.idx h.sub h.off (some h.len))) h.expected)) ∧
  (∀ (s u : State) (v e : Nat),
    u = State.setObj (State.setObj { s.begun with hostCheck := none } 0x2D01 5 0) 0x2D01 6 v →
    s.begun.hostCheckEnds v v = (u.setObj 0x2D01 7 2).writeRecord 27 none [] ∧
    (v ≠ e → s.begun.hostCheckEnds v e = ((u.setObj 0x2D01 7 3).writeRecord 27 none []).mismatch 8 0xFF 0 e v)) ∧
  (∀ (s : State) (c : Client) (n : Nat), n < 2 ^ 64 → Writable s c (numWrite 0x2E00 4 8 n) →
      (n < s.begun.acked → TurnedDown (.acknowledgeSerial c n) s c 0x08000022) ∧
      (s.begun.acked ≤ n → s.evt.newest < n → TurnedDown (.acknowledgeSerial c n) s c 0x06090030) ∧
      (s.begun.acked ≤ n → n ≤ s.evt.newest →
        Granted (.acknowledgeSerial c n) s c
          (if s.begun.errorRegister % 2 = 1 ∧ (s.begun.setObj 0x2E00 4 n).updateAttn.errorRegister % 2 = 0 then
            (s.begun.setObj 0x2E00 4 n).updateAttn.produceEmcy
              (leBytes 2 0 ++ beBytes 1 (s.begun.setObj 0x2E00 4 n).updateAttn.errorRegister ++ beBytes 2 0 ++ beBytes 1 0xFF ++
                beBytes 2 n)
          else (s.begun.setObj 0x2E00 4 n).updateAttn) ∧
        (s.Inv → (s.begun.setObj 0x2E00 4 n).updateAttn.acked = n)))

/-! ### Triggers, pins, gate lists, time and power requests -/

/-- R306: arming takes the trigger's source and instant as they stand, unless a Meridian instant lies less than 1 ms ahead;
disarming drops it; a Meridian trigger fires at its instant: ports that wait on it take S, the first multiple of 1/F at
least 1 ms later, and the fire is counted. -/
def Obligations.TriggersArmDisarmAndFire : Prop :=
  (∀ (s : State) (c : Client), Writable s c (numWrite 0x2908 5 1 1) →
    (s.begun.nat 0x2908 2 ≠ 0 ∨ msT 1 + s.begun.now ≤ secT (s.begun.nat 0x2908 3) + nsT (s.begun.nat 0x2908 4) →
      Granted (.triggerArm c) s c (State.setObj { s.begun with audio := { s.audio with
        trigger := some ⟨s.begun.nat 0x2908 2, secT (s.begun.nat 0x2908 3) + nsT (s.begun.nat 0x2908 4)⟩ } } 0x2908 5 1)) ∧
    (s.begun.nat 0x2908 2 = 0 → secT (s.begun.nat 0x2908 3) + nsT (s.begun.nat 0x2908 4) < msT 1 + s.begun.now →
      TurnedDown (.triggerArm c) s c 0x08000022)) ∧
  (∀ (s : State) (c : Client), Writable s c (numWrite 0x2908 5 1 0) →
    Granted (.triggerDisarm c) s c (State.setObj { s.begun with audio := { s.audio with trigger := none } } 0x2908 5 0)) ∧
  (∀ (s : State) (t : Tick), s.live = true → s.audio.trigger = some ⟨0, t⟩ →
    Answers .triggerFire s ((s.begun.until t).fireTrigger t)) ∧
  (∀ (s : State) (t : Tick), (s.fireTrigger t).audio.trigger = none ∧
    (s.fireTrigger t).audio.ports = s.audio.ports.map fun p =>
      if p.2.running = false ∧ p.2.start = none ∧ s.ap p.1 8 = 1 then
        (p.1, { p.2 with start := some (startAfter s.audioBase (msT 1 + t)).1 }) else p)

/-- R279: a mode write that its checks let through arms the pin: its objects 01 to 0A are taken as they stand, and nothing else
changes but the mode, the pin's own state and, for an output, its level, which is idle; one whose only edge is already
missed raises its event. A write that fails a check changes nothing. R280, R281: a pin in mode 1 rises at its next edge, a
pin in mode 2 at T0(n) plus its offset for each slot of a running channel; each falls back to idle at the end of its pulse.
R282: an edge of a pin in mode 3 that the pin captures joins its FIFO of 16 with Meridian's instant, and is counted as
overrun where the FIFO is full; a pulse shorter than 20 ns is filtered. A read takes the oldest capture, or 12 zeros. -/
def Obligations.TioPinsPulseAndCapture : Prop :=
  (∀ (s : State) (c : Client) (pin mode : Nat), pin < 4 → mode < 256 → Writable s c (numWrite (0x2710 + pin) 1 1 mode) →
    s.begun.tioAbort pin mode = 0 →
    Granted (.tioModeWrite c pin mode) s c (s.begun.tioModeWrite pin mode).1.reviewDisagreement) ∧
  (∀ (s : State) (pin mode : Nat), s.tioAbort pin mode = 0 → mode = 0 ∨ mode = 3 →
    ∃ t : TioRt, (s.tioModeWrite pin mode).1 = (s.setObj (0x2710 + pin) 1 mode).setTio pin t ∧ t.at_ = s.now ∧
      t.until_ = none ∧ t.fifo = (s.tioPin pin).fifo ∧
      t.armed = (List.range 10).map fun k => (s.setObj (0x2710 + pin) 1 mode).obj (0x2710 + pin) (k + 1)) ∧
  (∀ (s : State) (pin mode : Nat), s.tioAbort pin mode ≠ 0 →
    s.tioModeWrite pin mode = (s, s.tioAbort pin mode)) ∧
  (∀ (s : State) (pin : Nat), s.allServed = true → s.begun.nat (0x2710 + pin) 1 = 1 → (s.begun.tioPin pin).arg 7 ≠ 0 →
    s.power.hold = false →
    (∀ t, (s.begun.tioPin pin).until_ = some t → Answers (.tioEdge pin) s (s.begun.endPulse pin t)) ∧
    ((s.begun.tioPin pin).until_ = none → (s.begun.tioPin pin).arg 5 ≠ 0 ∨ (s.begun.tioPin pin).next = 0 →
      Answers (.tioEdge pin) s (s.begun.beginPulse pin ((s.begun.tioPin pin).next + 1)
        (nsT ((s.begun.tioPin pin).edgeNs (s.begun.tioPin pin).next))))) ∧
  (∀ (s : State) (pin : Nat) (t : Tick), s.allServed = true → s.begun.nat (0x2710 + pin) 1 = 2 →
    (s.begun.tioPin pin).arg 7 ≠ 0 → s.power.hold = false → (s.begun.tioPin pin).until_ = some t →
    Answers (.framePulse pin) s (s.begun.endPulse pin t)) ∧
  (∀ (s : State) (pin n : Nat) (x : RunSpec), s.allServed = true → s.begun.nat (0x2710 + pin) 1 = 2 →
    (s.begun.tioPin pin).arg 7 ≠ 0 → s.power.hold = false → (s.begun.tioPin pin).until_ = none →
    (s.begun.chan ((s.begun.tioPin pin).arg 8)).running = true →
    (s.begun.chan ((s.begun.tioPin pin).arg 8)).runs.find? (fun y => y.has ((s.begun.tioPin pin).pulseSlot s.now y)) = some x →
    n = (s.begun.tioPin pin).pulseSlot s.now x →
    x.first ≤ n ∧ Answers (.framePulse pin) s
      (s.begun.beginPulse pin (n + 1) (instantT x.rate n 0 1 ((s.begun.tioPin pin).armed.getD 8 0)))) ∧
  (∀ (s : State) (pin : Nat) (active : Bool),
    (s.drivePin pin active).out = s.out ++ [.pin pin (active != ((s.tioPin pin).arg 2 == 1)) s.now] ∧
    (s.drivePin pin active).tio = s.tio) ∧
  (∀ (s : State) (pin ns : Nat) (rising : Bool), s.allServed = true → s.begun.nat (0x2710 + pin) 1 = 3 → 20 ≤ ns →
    ((s.begun.tioPin pin).arg 10).testBit (if rising then 0 else 1) = true → s.audio.trigger = none →
    ((s.begun.tioPin pin).fifo.length < 16 →
      Answers (.tioCapture pin rising ns) s
        (((s.begun.setObj (0x2710 + pin) 0xE (b2n rising)).setTio pin { s.begun.tioPin pin with
          fifo := (s.begun.tioPin pin).fifo ++ [captureBytes s.begun.now rising] }).setObj (0x2710 + pin) 0xC
            ((s.begun.tioPin pin).fifo.length + 1))) ∧
    (16 ≤ (s.begun.tioPin pin).fifo.length →
      Answers (.tioCapture pin rising ns) s ((s.begun.setObj (0x2710 + pin) 0xE (b2n rising)).count (0x2710 + pin) 0xD))) ∧
  (∀ (s : State) (pin ns : Nat) (rising : Bool), s.allServed = true → ns < 20 → IsLost (.tioCapture pin rising ns) s) ∧
  (∀ (s : State) (c : Client) (pin : Nat) (x : List Byte) (xs : List (List Byte)), pin < 4 → s.coreUp = true →
    s.begun.served c (0x2710 + pin) = true → (s.begun.tioPin pin).fifo = x :: xs → x.length = 12 →
    Answers (.tioCaptureRead c pin) s
      ((((s.begun.setTio pin { s.begun.tioPin pin with fifo := xs }).setObj (0x2710 + pin) 0xC xs.length)).say (.read c x))) ∧
  (∀ (s : State) (c : Client) (pin : Nat), pin < 4 → s.coreUp = true → s.begun.served c (0x2710 + pin) = true →
    (s.begun.tioPin pin).fifo = [] → Answers (.tioCaptureRead c pin) s (s.begun.say (.read c (zeros 12))))

/-- R252: a write of a port's pending entry count arms the first so many entries of its pending list, where each interval is
a multiple of 64 ns in its range and no entry closes a media queue: the list takes over at the first instant base + k ·
cycle that lies at least 1 ms ahead. A bad interval is answered 0x06090030 and a list that closes a media queue 0x08000020
(R16), and neither changes anything. Writing 0 disarms. At its instant an armed list becomes the operational one, with its
own base, and the takeover is counted; where none is armed nothing happens. (That the armed list is a copy taken at the
arming is the model's choice, log 124.) -/
def Obligations.GateListsAreArmedAndTakeOver : Prop :=
  (∀ (s : State) (c : Client) (port : Nat), port < 8 → Writable s c (numWrite (0x4410 + port) 4 2 0) →
    Granted (.gateListArm c port 0) s c
      ((State.setObj { s.begun with egress := { s.egress with armed := Tab.erase s.egress.armed port } }
        (0x4410 + port) 4 0).setObj (0x4410 + port) 6 0)) ∧
  (∀ (s : State) (c : Client) (port n : Nat) (list : List (Nat × Nat)) (base cycle : Tick), port < 8 → 1 ≤ n → n ≤ 256 →
    Writable s c (numWrite (0x4410 + port) 4 2 n) → list = s.begun.gateList 0x6203 port n →
    base = secT (s.begun.nat (0x4410 + port) 2) + nsT (s.begun.nat (0x4410 + port) 3) → cycle = gateCycle list →
    ((∀ e ∈ list, e.2 % 64 = 0 ∧ 64 ≤ e.2 ∧ e.2 ≤ 1000000000) → (∀ e ∈ list, ∀ q ∈ s.begun.mediaQueues port, e.1.testBit q = true) →
      ∃ t k : Nat, t = base + k * cycle ∧ msT 1 + s.now ≤ t ∧ (k = 0 ∨ base + (k - 1) * cycle < msT 1 + s.now) ∧
        Granted (.gateListArm c port n) s c { ((s.begun.setObj (0x4410 + port) 4 n).setObj (0x4410 + port) 6 1) with
          egress := { s.egress with
            armed := Tab.put s.egress.armed port (t, s.begun.bytesAt 0x6203 1 (2048 * port) (8 * n), base) } }) ∧
    (¬(∀ e ∈ list, e.2 % 64 = 0 ∧ 64 ≤ e.2 ∧ e.2 ≤ 1000000000) → TurnedDown (.gateListArm c port n) s c 0x06090030) ∧
    ((∀ e ∈ list, e.2 % 64 = 0 ∧ 64 ≤ e.2 ∧ e.2 ≤ 1000000000) →
      ¬(∀ e ∈ list, ∀ q ∈ s.begun.mediaQueues port, e.1.testBit q = true) → TurnedDown (.gateListArm c port n) s c 0x08000020)) ∧
  (∀ (s : State) (port : Nat) (t base : Tick) (list : List Byte), s.live = true →
    Tab.find? s.egress.armed port = some (t, list, base) →
    exec (.gateListTakeover port) s = .next
      { (((((s.begun.until t).putBytes 0x6204 1 (2048 * port) list).setObj (0x4410 + port) 5
          (list.length / 8 : Nat)).setObj (0x4410 + port) 6 0).count (0x4410 + port) 7) with
        pending := s.pending
        egress := { s.egress with
          armed := Tab.erase s.egress.armed port, bases := Tab.put s.egress.bases port base } }) ∧
  (∀ (s : State) (port : Nat), s.live = true → Tab.find? s.egress.armed port = none → IsLost (.gateListTakeover port) s)

/-- R264: Meridian takes a written time only while the module is not running and follows no reference; the write is
counted, and nothing but Meridian and that counter changes. -/
def Obligations.MeridianIsSetOnlyAtRest : Prop :=
  ∀ (s : State) (c : Client) (data : List Byte), data.length = 12 → Writable s c ⟨⟨0x2700, 1⟩, none, data⟩ →
    (1000000000 ≤ field data 6 4 → TurnedDown (.meridianWrite c data) s c 0x06090030) ∧
    (field data 6 4 < 1000000000 → s.begun.timeState ≠ 0 ∨ s.begun.isRunning = true →
      TurnedDown (.meridianWrite c data) s c 0x08000022) ∧
    (field data 6 4 < 1000000000 → s.begun.timeState = 0 → s.begun.isRunning = false →
      Granted (.meridianWrite c data) s c (State.count { s.begun with clk := { s.clk with
        merid := subTick * (65536 * (1000000000 * field data 0 6 + field data 6 4) + field data 10 2) } } 0x2700 0xA))

/-- R440: a power state that Table 22-2 allows is asked for and its transition begins; one that it does not allow is
answered 0x08000022; when the transition is complete the state asked for is in force, with its domains. R438: 0x2000:03
reads the domains of the power state in force; a domain that a fault has removed reads 0 in every state until the next
reset other than NMT reset-communication. -/
def Obligations.PowerStatesAndDomainsChange : Prop :=
  (∀ (s : State) (c : Client) (v : Nat), v < 256 → Writable s c (numWrite 0x2000 1 1 v) →
    (s.power.transition = none → s.power.freeze = none → s.power.stage = 4 → s.begun.mayEnter v = true →
      Granted (.powerStateRequest c v) s c ((s.begun.setObj 0x2000 1 v).onPower fun p => { p with transition := some v })) ∧
    (s.power.transition.isSome = true ∨ s.begun.mayEnter v = false →
      TurnedDown (.powerStateRequest c v) s c 0x08000022)) ∧
  (∀ (s : State), s.nat 0x2000 2 = 2 → s.mayEnter 2 = false) ∧
  (∀ (s : State) (v : Nat), s.allServed = true → s.power.transition = some v → s.begun.nat 0x2000 2 ≠ 2 → v ≠ 2 →
    Answers .powerTransitionComplete s
      (((((s.begun.onPower fun p => { p with transition := none }).setObj 0x2000 2 v).setObj 0x2000 1 v)).showDomains)) ∧
  (∀ (s : State), s.allServed = true → s.power.transition = some 2 → s.begun.nat 0x2000 2 ≠ 2 →
    Answers .powerTransitionComplete s
      ((((s.begun.onPower fun p => { p with transition := none }).enterStandby.setObj 0x2000 2 2).setObj 0x2000 1 2).showDomains)) ∧
  (∀ (s : State) (v : Nat), s.allServed = true → s.power.transition = some v → s.begun.nat 0x2000 2 = 2 → v ≠ 2 →
    Answers .powerTransitionComplete s
      ((((s.begun.onPower fun p => { p with transition := none }).leaveStandby.setObj 0x2000 2 v).setObj 0x2000 1 v).showDomains)) ∧
  (∀ s : State, s.Inv → s.power.isolated = 0 →
    (s.nat 0x2000 2 = 0 → s.showDomains.obj 0x2000 3 = 0x00FFFFFF) ∧
    (s.nat 0x2000 2 = 1 → s.showDomains.obj 0x2000 3 = 0x00F801FF) ∧
    (s.nat 0x2000 2 = 2 → s.showDomains.obj 0x2000 3 = 0x00000003)) ∧
  (∀ (s : State) (d : Nat), s.Inv → 10 ≤ d → d ≤ 17 → s.power.isolated.testBit d = true → s.showDomains.domainOn d = false) ∧
  (∀ (s : State) (kind : Nat), (s.resetInto kind).power.isolated = 0) ∧
  ∀ s : State, s.resetComm.power.isolated = s.power.isolated

/-! ### CAN FD and Exfer -/

/-- R387: an NMT command for this node, or for all, puts the node into the state that it names; reset-node resets by kind 2
within 1 ms, reset-communication restarts the communication side and reboots it; a command for another node changes
nothing. -/
def Obligations.NmtCommandsMoveTheNode : Prop :=
  (∀ (s : State) (node : Nat), s.begun.nmtMine node = true →
    Answers (.nmtStart node) s (s.begun.onCan fun c => { c with nmt := .operational }) ∧
    Answers (.nmtStop node) s (s.begun.onCan fun c => { c with nmt := .stopped }) ∧
    Answers (.nmtEnterPreOperational node) s (s.begun.onCan fun c => { c with nmt := .preOperational }) ∧
    Answers (.nmtResetCommunication node) s s.begun.resetComm ∧
    (s.power.freeze = none → Answers (.nmtResetNode node) s ((s.begun.cycles (msCycles 1)).resetInto 2)) ∧
    (s.power.freeze.isSome = true → Answers (.nmtResetNode node) s (s.begun.resetInto 5).updateAttn)) ∧
  (∀ (s : State) (node : Nat), s.power.vin ≠ .undefinedBand → node ≠ 0 → node ≠ s.can.nodeId →
    IsLost (.nmtStart node) s ∧ IsLost (.nmtStop node) s ∧ IsLost (.nmtEnterPreOperational node) s ∧
    IsLost (.nmtResetNode node) s ∧ IsLost (.nmtResetCommunication node) s) ∧
  (∀ s : State, s.resetComm.mem = s.mem ∧ s.resetComm.commit.sessions = [] ∧ s.resetComm.commit.pending = [] ∧
    s.resetComm.exfer.sessions = [] ∧ s.resetComm.ops = [] ∧ s.resetComm.power.stage = s.power.stage ∧
    s.resetComm.flash = s.flash ∧ s.resetComm.can.emcy = s.can.emcy)

/-- R387, R400: an expedited download writes at once and is answered; a segmented one begins, takes its segments with
toggles in turn, and writes with the last; a wrong toggle aborts with 0x05030000, and one second without a segment with
0x05040000. R387, R402: an upload of at most four bytes is answered at once; a longer value goes out in segments of seven
bytes, the last of which ends the transfer; a read that fails is answered with its abort code. R387, R400: a block download
begins with 127 segments to a block, takes what comes in sequence, and writes when its length and CRC are right; a block
upload goes on from what is acknowledged, and ends with its CRC. -/
def Obligations.SdoTransfersAreServed : Prop :=
  (∀ (s : State) (o : Obj) (data : List Byte), s.begun.sdoUp = true →
    Answers (.sdoDownload (.expedited o data)) s
      (State.sdoAnswer ((s.begun.setSdo none).hostWrite .sdo ⟨o, none, data⟩) o (sdoFrame 0x60 o []))) ∧
  (∀ (s : State) (o : Obj) (size : Nat), s.begun.sdoUp = true → s.begun.sizeCode .sdo o size = 0 →
    Answers (.sdoDownload (.initiate o size)) s
      ((s.begun.setSdo (some (s.begun.downXfer o size false))).sdoSay (sdoFrame 0x60 o []))) ∧
  (∀ (s : State) (x : SdoXfer) (data : List Byte), s.begun.sdoUp = true → s.can.sdo = some x → x.up = false →
    x.block = false → (x.data ++ data).length ≤ x.size →
    Answers (.sdoDownload (.segment x.toggle false data)) s
      ((s.begun.setSdo (some { x with data := x.data ++ data, toggle := !x.toggle, last := s.begun.now })).sdoSay
        [BitVec.ofNat 8 (0x20 + toggleBit x.toggle)])) ∧
  (∀ (s : State) (x : SdoXfer) (data : List Byte), s.begun.sdoUp = true → s.can.sdo = some x → x.up = false →
    x.block = false → (x.data ++ data).length = x.size →
    Answers (.sdoDownload (.segment x.toggle true data)) s
      (State.sdoAnswer ((s.begun.setSdo none).hostWrite .sdo ⟨x.obj, none, x.data ++ data⟩) x.obj
        [BitVec.ofNat 8 (0x20 + toggleBit x.toggle)])) ∧
  (∀ (s : State) (x : SdoXfer) (last : Bool) (data : List Byte), s.begun.sdoUp = true → s.can.sdo = some x → x.up = false →
    x.block = false → Answers (.sdoDownload (.segment (!x.toggle) last data)) s (s.begun.sdoAbort x.obj 0x05030000)) ∧
  (∀ (s : State) (x : SdoXfer), s.begun.sdoUp = true → s.can.sdo = some x →
    Answers (.sdoTimeout .sdo) s ((s.begun.until (secT 1 + x.last)).sdoAbort x.obj 0x05040000)) ∧
  (∀ (s : State), s.begun.sdoUp = true → Answers (.sdoDownload .badSpecifier) s (s.begun.sdoAbort s.begun.sdoObj 0x05040001)) ∧
  (∀ (s : State) (o : Obj), s.begun.sdoUp = true → (s.begun.hostRead .sdo o 0 none).2.1 = 0 →
    (s.begun.hostRead .sdo o 0 none).2.2.length ≤ 4 →
    Answers (.sdoUpload (.initiate o)) s (((s.begun.hostRead .sdo o 0 none).1.setSdo none).sdoSay
      (sdoFrame (0x43 + 4 * (4 - (s.begun.hostRead .sdo o 0 none).2.2.length)) o (s.begun.hostRead .sdo o 0 none).2.2))) ∧
  (∀ (s : State) (o : Obj), s.begun.sdoUp = true → (s.begun.hostRead .sdo o 0 none).2.1 ≠ 0 →
    Answers (.sdoUpload (.initiate o)) s
      ((s.begun.hostRead .sdo o 0 none).1.sdoAbort o (s.begun.hostRead .sdo o 0 none).2.1)) ∧
  (∀ (s : State) (x : SdoXfer), s.begun.sdoUp = true → s.can.sdo = some x → x.up = true → x.block = false → 7 < x.data.length →
    Answers (.sdoUpload (.segment x.toggle)) s
      ((s.begun.setSdo (some { x with data := x.data.drop 7, toggle := !x.toggle, last := s.begun.now })).sdoSay
        (BitVec.ofNat 8 (toggleBit x.toggle) :: x.data.take 7))) ∧
  (∀ (s : State) (x : SdoXfer), s.begun.sdoUp = true → s.can.sdo = some x → x.up = true → x.block = false → x.data.length ≤ 7 →
    Answers (.sdoUpload (.segment x.toggle)) s
      ((s.begun.setSdo none).sdoSay
        (BitVec.ofNat 8 (toggleBit x.toggle + 2 * (7 - x.data.length) + 1) :: x.data))) ∧
  (∀ (s : State) (o : Obj) (size : Nat), s.begun.sdoUp = true → s.begun.sizeCode .sdo o size = 0 →
    Answers (.sdoBlockTransfer (.initDown o size)) s
      ((s.begun.setSdo (some (s.begun.downXfer o size true))).sdoSay (sdoFrame 0xA4 o [127]))) ∧
  (∀ (s : State) (x : SdoXfer) (segs : List (List Byte)) (last : Bool), s.begun.sdoUp = true → s.can.sdo = some x →
    x.up = false → x.block = true → x.toggle = false → segs.length ≤ 127 →
    Answers (.sdoBlockTransfer (.block 1 segs last)) s
      ((s.begun.setSdo (some { x with data := x.data ++ segs.flatten, toggle := last, last := s.begun.now })).sdoSay
        [0xA2, BitVec.ofNat 8 segs.length, 127])) ∧
  (∀ (s : State) (x : SdoXfer) (crc : Nat), s.begun.sdoUp = true → s.can.sdo = some x → x.up = false → x.block = true →
    x.toggle = true → x.size ≤ x.data.length → x.data.length < x.size + 7 →
    (sdoCrc (x.data.take x.size) = crc → Answers (.sdoBlockTransfer (.endDown crc)) s
      (State.sdoAnswer ((s.begun.setSdo none).hostWrite .sdo ⟨x.obj, none, x.data.take x.size⟩) x.obj [0xA1])) ∧
    (sdoCrc (x.data.take x.size) ≠ crc → Answers (.sdoBlockTransfer (.endDown crc)) s
      (s.begun.sdoAbort x.obj 0x05040004))) ∧
  (∀ (s : State) (o : Obj) (n : Nat), s.begun.sdoUp = true → 1 ≤ n → n ≤ 127 → (s.begun.hostRead .sdo o 0 none).2.1 = 0 →
    Answers (.sdoBlockTransfer (.initUp o n)) s
      (((s.begun.hostRead .sdo o 0 none).1.sdoSay (sdoFrame 0xC6 o (leBytes 4 (s.begun.hostRead .sdo o 0 none).2.2.length))).sendBlock
        ⟨o, true, true, (s.begun.hostRead .sdo o 0 none).2.2.length, (s.begun.hostRead .sdo o 0 none).2.2, false, n,
          (s.begun.hostRead .sdo o 0 none).2.2, (s.begun.hostRead .sdo o 0 none).1.now⟩)) ∧
  (∀ (s : State) (x : SdoXfer) (acked n : Nat), s.begun.sdoUp = true → s.can.sdo = some x → x.up = true → x.block = true →
    acked ≤ x.blkSize → 7 * acked < x.data.length → 1 ≤ n → n ≤ 127 →
    Answers (.sdoBlockTransfer (.ackUp acked n)) s
      (s.begun.sendBlock { x with data := x.data.drop (7 * acked), blkSize := n }))

/-- R387: a USDO request of one of at most four clients, over FD frames, is served: a write and a read answer with their
code and value; a fifth client is answered 0x08000022. -/
def Obligations.UsdoClientsAreServed : Prop :=
  (∀ (s : State) (node : Nat) (o : Obj) (off : Option Nat) (data : List Byte), s.begun.sdoUp = true → s.can.phase ≠ 0 →
    s.begun.usdoMay node = true →
    Answers (.usdoRequest node (.write o off data)) s
      (State.usdoAnswer ((s.begun.setUsdo node none).hostWrite (.usdo node) ⟨o, off, data⟩) node)) ∧
  (∀ (s : State) (node : Nat) (o : Obj) (len : Nat), s.begun.sdoUp = true → s.can.phase ≠ 0 → s.begun.usdoMay node = true →
    Answers (.usdoRequest node (.read o none len)) s
      (((s.begun.setUsdo node none).hostRead (.usdo node) o 0 none).1.say
        (.usdo node ((s.begun.setUsdo node none).hostRead (.usdo node) o 0 none).2.1
          ((s.begun.setUsdo node none).hostRead (.usdo node) o 0 none).2.2))) ∧
  (∀ (s : State) (node : Nat) (o : Obj) (size : Nat), s.begun.sdoUp = true → s.can.phase ≠ 0 → s.begun.usdoMay node = true →
    s.begun.sizeCode (.usdo node) o size = 0 →
    Answers (.usdoRequest node (.writeStart o size)) s
      ((s.begun.setUsdo node (some (s.begun.downXfer o size false))).say (.usdo node 0 []))) ∧
  (∀ (s : State) (node : Nat) (r : UsdoReq), s.begun.sdoUp = true → s.can.phase ≠ 0 → s.begun.usdoMay node = false →
    Answers (.usdoRequest node r) s (s.begun.say (.usdo node 0x08000022 []))) ∧
  (∀ (s : State) (node : Nat) (x : SdoXfer), s.begun.sdoUp = true → s.begun.usdoOf node = some x →
    Answers (.sdoTimeout (.usdo node)) s
      (((s.begun.until (secT 1 + x.last)).setUsdo node none).say (.usdo node 0x05040000 []))) ∧
  (∀ (s : State) (node : Nat) (x : Option SdoXfer), s.can.usdo.length ≤ 4 → s.usdoMay node = true →
    (s.setUsdo node x).can.usdo.length ≤ 4 ∧ (s.setUsdo node x).usdoOf node = x)

/-- R387: a received PDO of an operational node with a valid COB-ID writes its mapped objects in order; a TPDO that is due
is sent with its present value, which becomes its last; one that is not due, or not mapped, sends nothing. R386, R387,
R425: the heartbeat goes out a period after the last with the node's state; a frame with the unit's own boot-up COB-ID
raises a conflict; the oldest EMCY message leaves 1 ms after the last at the earliest, and the others wait. -/
def Obligations.PdosHeartbeatsAndEmcyAreExchanged : Prop :=
  (∀ (s : State) (n : Nat) (data : List Byte), s.begun.nmtOp = true → s.begun.pdoOn (0x1400 + n) = true →
    ((s.begun.mapped_ (0x1600 + n)).map (·.2)).sum ≤ data.length →
    Answers (.rpdoReceive n data) s (s.begun.rpdoWrites (.rpdo n) (s.begun.mapped_ (0x1600 + n)) data)) ∧
  (∀ (s : State) (n : Nat) (data : List Byte), s.begun.nmtOp = true → data.length < ((s.begun.mapped_ (0x1600 + n)).map (·.2)).sum →
    IsLost (.rpdoReceive n data) s) ∧
  (∀ (s u : State) (n : Nat) (due : Tick), s.begun.nmtOp = true → s.begun.pdoOn (0x1800 + n) = true →
    s.begun.mapped_ (0x1A00 + n) ≠ [] → s.begun.tpdoDue n = some due → u = s.begun.until due →
    Answers (.tpdoSend n) s
      (((u.tpdoValue n).1.onCan fun c => { c with
        tpdo := Tab.put c.tpdo n ⟨(u.tpdoValue n).2, some (u.tpdoValue n).1.now⟩ }).say
          (.can ((u.tpdoValue n).1.nat (0x1800 + n) 1 % 0x800) (u.tpdoValue n).2))) ∧
  (∀ (s : State) (n : Nat), s.begun.nmtOp = true → s.begun.tpdoDue n = none → IsLost (.tpdoSend n) s) ∧
  (∀ (s : State) (t : Tick), s.coreUp = true → s.can.nmt ≠ .initialising → s.begun.nat 0x1017 0 ≠ 0 → s.can.hbLast = some t →
    Answers .canHeartbeatSend s
      (((s.begun.until (t + msT (s.begun.nat 0x1017 0))).onCan fun c => { c with
        hbLast := some (s.begun.until (t + msT (s.begun.nat 0x1017 0))).now }).say
          (.can (0x700 + s.can.nodeId) [nmtByte s.can.nmt]))) ∧
  (∀ (s : State), s.coreUp = true → s.begun.nat 0x1017 0 = 0 → IsLost .canHeartbeatSend s) ∧
  (∀ (s : State), s.coreUp = true → s.can.nmt ≠ .initialising →
    Answers (.nodeIdConflict (0x700 + s.can.nodeId)) s (s.begun.raiseUnit 0x0802 s.can.nodeId)) ∧
  (∀ (s : State) (m : List Byte) (rest : List (List Byte)), s.begun.sdoUp = true → (s.begun.nat 0x1014 0).testBit 31 = false →
    s.can.emcy = m :: rest →
    (∀ t, s.can.emcyLast = some t →
      Answers .emcySend s (((s.begun.until (msT 1 + t)).onCan fun c => { c with
        emcy := rest, emcyLast := some (s.begun.until (msT 1 + t)).now }).say (.can (s.begun.nat 0x1014 0 % 0x800) m))) ∧
    (s.can.emcyLast = none → Answers .emcySend s ((s.begun.onCan fun c => { c with
        emcy := rest, emcyLast := some s.begun.now }).say (.can (s.begun.nat 0x1014 0 % 0x800) m))))

/-- R391: an open on the server's port with a key slot that holds a key, or none, gets a session with an identifier of its
own and is answered with it; with 16 sessions held it is refused. A close is answered and ends the session; 60 s without a
datagram end it too. (The module's nonce is a free value, log 3.) R392, R393, R397: a datagram whose tag does not fit its
session is counted and does nothing else; the last request again gets its stored response again; a number out of turn is
counted; one for another member goes out unchanged, in frames, on the link to it, and the response that comes back joins the
port's management queue. -/
def Obligations.ExferSessionsAndTheirChecks : Prop :=
  (∀ (s : State) (d : ExferHdr) (nonce : List Byte), s.begun.exferMine d = true → d.good = true →
    s.begun.exferElsewhere d = false → d.keySlot = 0 ∨ s.begun.hasKey d.keySlot = true →
    (s.exfer.sessions.length < 16 → Answers (.exferSessionOpen d nonce) s (s.begun.openExfer d nonce)) ∧
    (16 ≤ s.exfer.sessions.length → Answers (.exferSessionOpen d nonce) s (s.begun.exferError d 0x08000022))) ∧
  (∀ (s : State) (d : ExferHdr) (nonce : List Byte), s.exfer.sessions.length < 16 →
    ∃ x, (s.openExfer d nonce).exfer.sessions = s.exfer.sessions ++ [x] ∧ x.port = d.port ∧ x.keySlot = d.keySlot ∧
      x.clientNonce = nonce ∧ x.q = 0 ∧ x.sub = none ∧ x.block = none ∧ x.last = s.now ∧ x.ident ≠ 0 ∧ x.ident < 65536 ∧
      ∀ y ∈ s.exfer.sessions, y.ident ≠ x.ident) ∧
  (∀ (s : State) (d : ExferHdr) (x : ExferSession), ExferNext s.begun d x →
    Answers (.exferSessionClose d) s
      (((s.begun.serving d x 2).exferAnswer d.session 2 0 []).dropExfer d.session)) ∧
  (∀ (s : State) (x : ExferSession) (id : Nat), s.allServed = true → s.begun.exferSession id = some x →
    Answers (.exferSessionIdleTimeout id) s ((s.begun.until (x.last + secT 60)).dropExfer id)) ∧
  (∀ (s : State) (id : Nat), (s.dropExfer id).exferSession id = none) ∧
  (∀ (s : State) (d : ExferHdr) (x : ExferSession) (o : Obj) (off len : Nat), s.begun.exferMine d = true → d.good = true →
    s.begun.exferElsewhere d = false → s.begun.exferSession d.session = some x → s.begun.tagGood x d = false →
    Answers (.exferRead d o off len) s (s.begun.count 0x1FF1 6)) ∧
  (∀ (s : State) (d : ExferHdr) (x : ExferSession) (o : Obj) (off : Nat) (data : List Byte), ExferReaches s.begun d x →
    d.seq = x.q →
    Answers (.exferWrite d o off data) s
      ((s.begun.putExfer { x with last := s.begun.now }).exferResend { x with last := s.begun.now })) ∧
  (∀ (s : State) (d : ExferHdr) (x : ExferSession) (o : Obj) (off : Nat) (data : List Byte), ExferReaches s.begun d x →
    d.seq ≠ x.q → d.seq ≠ (x.q + 1) % 0x100000000 →
    Answers (.exferWrite d o off data) s ((s.begun.putExfer { x with last := s.begun.now }).count 0x1FF1 7)) ∧
  (∀ (s : State) (d : ExferHdr) (k : Nat) (response : List Byte), s.begun.exferMine d = true → d.good = true →
    s.begun.exferElsewhere d = true → s.begun.relayLink d.relay = some k →
    Answers (.exferRelay d none) s (s.begun.transmit k 2 3 3 (d.raw ++ d.tag)) ∧
    Answers (.exferRelay d (some response)) s
      ((s.begun.transmit k 2 3 3 (d.raw ++ d.tag)).manage d.port (28 + response.length) (.exfer d.port response []))) ∧
  (∀ (s : State) (d : ExferHdr) (response : Option (List Byte)), s.begun.exferMine d = true → d.good = true →
    s.begun.exferElsewhere d = true → s.begun.relayLink d.relay = none →
    Answers (.exferRelay d response) s (s.begun.exferError d 0x08000022))

/-- R385, R393, R395: the next request of a session is served once and its response stored: a read of at most 1,400 bytes
with its value, a write and a commit record, over an authenticated session, with their codes; without authentication both
are refused with 0x06010000. A subscription queues the logged events that it asks for. -/
def Obligations.ExferRequestsAreServed : Prop :=
  (∀ (s u : State) (d : ExferHdr) (x : ExferSession) (o : Obj) (off len : Nat), ExferNext s.begun d x → len ≤ 1400 →
    u = s.begun.serving d x 0x10 →
    Answers (.exferRead d o off len) s
      ((u.hostRead (.exfer d.session) o off (some len)).1.exferAnswer d.session 0x10
        (u.hostRead (.exfer d.session) o off (some len)).2.1 (u.hostRead (.exfer d.session) o off (some len)).2.2)) ∧
  (∀ (s u : State) (d : ExferHdr) (x : ExferSession) (o : Obj) (off code : Nat) (data : List Byte), ExferNext s.begun d x →
    x.keySlot ≠ 0 → u = s.begun.serving d x 0x11 →
    (u.hostWrite (.exfer d.session) ⟨o, if hasOffset o = true then some off else none, data⟩).2 = some code →
    Answers (.exferWrite d o off data) s
      ((u.hostWrite (.exfer d.session) ⟨o, if hasOffset o = true then some off else none, data⟩).1.exferAnswer d.session 0x11
        code [])) ∧
  (∀ (s u : State) (d : ExferHdr) (x : ExferSession) (record : List Byte), ExferNext s.begun d x → x.keySlot ≠ 0 →
    u = s.begun.serving d x 0x40 →
    (∀ code, (u.commitFromRecord (.exfer d.session) record).2 = some code → Answers (.exferCommit d record) s
      ((u.commitFromRecord (.exfer d.session) record).1.exferAnswer d.session 0x40 code [])) ∧
    ((u.commitFromRecord (.exfer d.session) record).2 = none →
      Answers (.exferCommit d record) s (u.commitFromRecord (.exfer d.session) record).1)) ∧
  (∀ (s : State) (d : ExferHdr) (x : ExferSession) (o : Obj) (off : Nat) (data record : List Byte), ExferNext s.begun d x →
    x.keySlot = 0 →
    Answers (.exferWrite d o off data) s ((s.begun.serving d x 0x11).exferAnswer d.session 0x11 0x06010000 []) ∧
    Answers (.exferCommit d record) s ((s.begun.serving d x 0x40).exferAnswer d.session 0x40 0x06010000 [])) ∧
  (∀ (s u : State) (d : ExferHdr) (x y : ExferSession) (minSev first : Nat), ExferNext s.begun d x →
    u = s.begun.serving d x 0x30 → u.exferSession d.session = some y →
    Answers (.exferSubscribe d minSev first) s
      ((u.putExfer { y with sub := some ⟨minSev, (s.evt.log.filter fun r =>
        decide (first ≤ recSerial r) && decide (minSev ≤ recSeverity r)).map fun r => (u.now, r)⟩ }).exferAnswer d.session 0x30
          0 []))

/-- R394: a block transfer of a DOMAIN opens with an identifier and a window of 32 blocks; each block in its place is
taken, a gap is acknowledged with the next offset wanted; an acknowledgement moves what the module sends; the end is
checked by length and CRC-32C; 20 ms without progress sends again from the acknowledged offset, 10 s without it drops the
transfer. -/
def Obligations.ExferBlocksAreTransferred : Prop :=
  (∀ (s u : State) (d : ExferHdr) (x y : ExferSession) (o : Obj) (off total id : Nat), ExferNext s.begun d x → x.keySlot ≠ 0 →
    u = s.begun.serving d x 0x20 → u.exferSession d.session = some y → y.block = none →
    u.blockCode (.exfer d.session) o false off total = 0 → id = freeId [] 2 s.exfer.nextXfer →
    Answers (.exferBlockOpen d o false off total) s
      (((u.setBlock d.session (some ⟨id, o, false, off, total, off, off, 0, [], u.now, u.now⟩)).onExfer fun e =>
        { e with nextXfer := (id + 1) % 0x10000 }).exferAnswer d.session 0x20 0 (beBytes 2 id ++ beBytes 2 32))) ∧
  (∀ (s u : State) (d : ExferHdr) (x y : ExferSession) (o : Obj) (off total id : Nat), ExferNext s.begun d x →
    u = s.begun.serving d x 0x20 → u.exferSession d.session = some y → y.block = none →
    u.blockCode (.exfer d.session) o true off total = 0 → id = freeId [] 2 s.exfer.nextXfer →
    Answers (.exferBlockOpen d o true off total) s
      ((((u.setBlock d.session (some ⟨id, o, true, off, total, off, off, 0, u.readRange o.idx o.sub off (some total), u.now,
        u.now⟩)).onExfer fun e => { e with nextXfer := (id + 1) % 0x10000 }).exferAnswer d.session 0x20 0
          (beBytes 2 id ++ beBytes 2 32)).fillWindow d.session)) ∧
  (∀ (s u : State) (d : ExferHdr) (x : ExferSession) (b : ExferBlock) (transfer off : Nat) (data : List Byte),
    ExferReaches s.begun d x → d.seq = 0 → u = s.begun.putExfer { x with last := s.begun.now } →
    u.blockOf d.session transfer = some b → b.fromModule = false → off + data.length ≤ b.off + b.total →
    (off = b.next → Answers (.exferBlockData d transfer off data) s (u.takeBlock d.session b data)) ∧
    (off ≠ b.next → Answers (.exferBlockData d transfer off data) s
      ((u.setBlock d.session (some { b with unacked := 0 })).ackBlock d.session { b with unacked := 0 }))) ∧
  (∀ (s u : State) (d : ExferHdr) (x : ExferSession) (b : ExferBlock) (transfer next : Nat), ExferNext s.begun d x →
    u = s.begun.serving d x 0x22 → u.blockOf d.session transfer = some b → b.fromModule = true → b.next < next →
    next ≤ b.sent →
    Answers (.exferBlockAck d transfer next) s
      (((u.setBlock d.session (some { b with next := next, last := u.now, resent := u.now })).exferAnswer d.session 0x22 0
        []).fillWindow d.session)) ∧
  (∀ (s u : State) (d : ExferHdr) (x : ExferSession) (b : ExferBlock) (transfer crc : Nat), ExferNext s.begun d x →
    x.keySlot ≠ 0 → u = s.begun.serving d x 0x23 → u.blockOf d.session transfer = some b →
    Answers (.exferBlockEnd d transfer crc) s
      ((u.endTransfer d.session b crc).1.exferAnswer d.session 0x23 (u.endTransfer d.session b crc).2 [])) ∧
  (∀ (s : State) (id crc : Nat) (b : ExferBlock), b.fromModule = true → b.sent = b.off + b.total →
    (crc32c b.held = crc → s.endTransfer id b crc = (s.setBlock id none, 0)) ∧
    (crc32c b.held ≠ crc → s.endTransfer id b crc = (s.setBlock id none, 0x05040004))) ∧
  (∀ (s u : State) (id : Nat) (x : ExferSession) (b : ExferBlock), s.allServed = true → s.begun.exferSession id = some x →
    x.block = some b → b.fromModule = true → b.next < b.sent → u = s.begun.until (msT 20 + max b.last b.resent) →
    Answers (.exferBlockResend id) s
      ((u.setBlock id (some { b with resent := u.now })).sendBlocks x b (cdiv (b.sent - b.next) 1024) b.next)) ∧
  (∀ (s : State) (id : Nat) (x : ExferSession) (b : ExferBlock), s.allServed = true → s.begun.exferSession id = some x →
    x.block = some b → Answers (.exferBlockStall id) s ((s.begun.until (secT 10 + b.last)).setBlock id none))

/-- R395, R427: waiting records go out as a notify of at most 32, at once when 32 wait, otherwise when the oldest has
waited its batching delay; they leave the queue and the notify is counted. R396: a fresh pair heartbeat notify with the
right tag is heard; one with a wrong tag is only counted. -/
def Obligations.NotifiesAreSentAndHeard : Prop :=
  (∀ (s u : State) (id : Nat) (x : ExferSession) (q : ExferSub) (p : Tick × List Byte) (rest : List (Tick × List Byte)),
    s.allServed = true → s.begun.exferSession id = some x → x.sub = some q → q.queue = p :: rest →
    u = (if 32 ≤ q.queue.length then s.begun else s.begun.until (p.1 + usT (s.begun.nat 0x4E00 1))) →
    Answers (.notifySend id) s
      (((u.putExfer { x with sub := some { q with queue := q.queue.drop 32 } }).count 0x4E00 2).exferOut x 0x31 0 0
        (beBytes 1 (q.queue.take 32).length ++ zeros 3 ++ ((q.queue.take 32).map (·.2)).flatten))) ∧
  (∀ (s : State) (serial : Nat) (record raw tag : List Byte), s.allServed = true → (List.range 8).any s.begun.exferUp = true →
    s.begun.hasKey (s.begun.nat 0x1FF1 3) = true → tag = s.begun.pairTag serial raw → s.begun.paired = true →
    s.begun.notifyFresh serial record = true →
    Answers (.pairHeartbeatNotify serial record raw tag) s (State.follow s.begun
      ((((s.begun.onExfer fun e => { e with hb := some (serial, field record 4 4, s.begun.now) }).setObj 0x2200 0x11
        serial).hearHeartbeat record true)))) ∧
  (∀ (s : State) (serial : Nat) (record raw tag : List Byte), s.allServed = true → (List.range 8).any s.begun.exferUp = true →
    tag ≠ s.begun.pairTag serial raw →
    Answers (.pairHeartbeatNotify serial record raw tag) s (State.follow s.begun (s.begun.count 0x1FF1 6)))

/-! ### PTP and the PLLs -/

/-- R267, R271: an Announce of the unit's domain on a port of its mask, from another clock and within 255 steps, is kept,
with when its source was heard before on that port, and the best master is chosen anew among those that are qualified by a
second Announce within four announce intervals; any other is ignored. When the parent on a port, or without it the first
master heard there, has not announced for the receipt timeout, every master silent that long on that port is dropped, and
the choice is made again. R271, R274: without Syncs for four intervals, or with 16 Delay_Req unanswered, the reference is
lost: the parent is dropped, and from the locked state or from a disagreement the module enters holdover, counts it and
raises its event; Meridian itself is not moved by it. -/
def Obligations.TheBestMasterIsChosenAndLost : Prop :=
  (∀ (s : State) (m : AnnounceMsg), s.live = true → s.begun.ptpMask.testBit m.port = true → m.domain = s.begun.nat 0x2701 3 →
    m.steps < 255 → m.source ≠ Config.clockId →
    Answers (.announce m) s ((s.begun.onPtp fun p => { p with
      foreign := Tab.put p.foreign (foreignKey m)
        ⟨m, s.begun.now, (Tab.find? s.ptp.foreign (foreignKey m)).map (·.at_)⟩ }).choose)) ∧
  (∀ (s : State) (m : AnnounceMsg), s.live = true →
    s.begun.ptpMask.testBit m.port = false ∨ m.domain ≠ s.begun.nat 0x2701 3 ∨ 255 ≤ m.steps ∨ m.source = Config.clockId →
    IsLost (.announce m) s) ∧
  (∀ (s : State) (port : Nat) (f : Foreign), s.allServed = true → s.begun.judgedMaster port = some f →
    Answers (.announceReceiptTimeout port) s ((s.begun.until (f.at_ + s.begun.receiptTimeout)).dropSilent port)) ∧
  (∀ (s : State) (port : Nat), s.allServed = true → s.begun.judgedMaster port = none →
    IsLost (.announceReceiptTimeout port) s) ∧
  (∀ (s : State) (f : Foreign), f.before = none → s.qualified f = false) ∧
  (∀ (s : State) (f : Foreign), s.bestForeign = some f → s.qualified f = true) ∧
  (∀ a b : Foreign, betterForeign a b = a ∨ betterForeign a b = b) ∧
  (∀ a b : Foreign, rankBefore (announceRank b.msg) (announceRank a.msg) = true →
    rankBefore (announceRank a.msg) (announceRank b.msg) = false) ∧
  (∀ (s : State) (x : Foreign), s.allServed = true → s.ptp.parent = some x → s.begun.timeState ≠ 0 → s.begun.timeState ≠ 3 →
    s.ptp.missed < 16 →
    Answers .referenceLost s
      (((s.begun.until (s.ptp.lastSync.getD x.at_ + 4 * logInterval (s.begun.obj 0x2701 7))).onPtp fun p => { p with
        foreign := Tab.erase p.foreign (foreignKey x.msg) }).loseReference)) ∧
  (∀ (s : State), s.allServed = true → s.begun.timeState = 0 ∨ s.begun.timeState = 3 → IsLost .referenceLost s) ∧
  (∀ (s : State), s.loseReference.ptp.parent = none ∧ s.loseReference.clk.merid = s.clk.merid) ∧
  (∀ (s : State), s.enterHoldover.ptp.holdSince = some s.now ∧ s.enterHoldover.clk.merid = s.clk.merid ∧
    s.enterHoldover.ptp.good = 0)

/-- R269: a two-step Sync of the parent waits for its Follow_Up, a one-step Sync completes at once; a Follow_Up that
matches what waits completes it with both corrections, and one that does not changes nothing. R269: a Delay_Req leaves for
the parent with its sequence number and egress instant; the Delay_Resp that answers it gives the mean path delay, half of
both ways; any other Delay_Resp changes nothing. R273: a Delay_Req on a master port is answered with its ingress instant.
R273: a master port sends Sync and Announce at their intervals, each with its own sequence number; a port that is no master
sends neither. R250: what is sent waits in a queue of its port, an event message in queue 7 and any other in the port's
management queue. -/
def Obligations.SyncsAndDelaysAreExchanged : Prop :=
  (∀ (s : State) (m : PtpMsg), s.live = true → s.begun.fromParent m = true →
    (m.twoStep = true → Answers (.sync m) s (s.begun.onPtp fun p => { p with
      wait := some ⟨m.port, m.source, m.seq, s.begun.ingressAt m.port (m.pcs : Int), m.corr⟩ })) ∧
    (m.twoStep = false → Answers (.sync m) s
      (s.begun.syncDone m.port (s.begun.ingressAt m.port (m.pcs : Int)) (m.stamp : Int) m.corr)) ∧
    (∀ w : SyncWait, s.ptp.wait = some w → w.port = m.port → w.source = m.source → w.seq = m.seq →
      Answers (.followUp m) s (s.begun.syncDone m.port w.t2 (m.stamp : Int) (w.corr + m.corr))) ∧
    (∀ w : SyncWait, s.ptp.wait = some w → w.port ≠ m.port ∨ w.source ≠ m.source ∨ w.seq ≠ m.seq →
      IsLost (.followUp m) s)) ∧
  (∀ (s : State) (m : PtpMsg), s.live = true → s.begun.fromParent m = false → IsLost (.sync m) s) ∧
  (∀ (s t : State) (port : Nat) (x : Foreign), s.live = true → s.ptp.parent = some x → x.msg.port = port →
    (∀ d, s.ptp.delay = some d → d.answered = false →
      t = (s.begun.count 0x2700 0xD).onPtp fun p => { p with missed := p.missed + 1 }) →
    ((s.ptp.delay = none ∨ ∃ d, s.ptp.delay = some d ∧ d.answered = true) → t = s.begun) →
    Answers (.delayReqSend port) s
      (((t.onPtp fun p => { p with
          delay := some ⟨port, t.nextSeq port 1, t.egressAt port (t.now : Int), false⟩ }).eventMsg port 1
        (t.nextSeq port 1) (t.egressAt port (t.now : Int)) [t.nat 0x2701 0xA]).sentSeq port 1)) ∧
  (∀ (s : State) (m : PtpMsg) (d : DelayWait), s.live = true → s.begun.fromParent m = true → s.ptp.delay = some d →
    d.port = m.port → d.seq = m.seq → d.answered = false →
    Answers (.delayResp m) s ((s.begun.onPtp fun p => { p with
      mean := (s.ptp.ms + ((m.stamp : Int) - d.t3 - m.corr)) / 2, missed := 0, delay := some { d with answered := true } }).setObj
        0x2700 4 (nsObj ((s.ptp.ms + ((m.stamp : Int) - d.t3 - m.corr)) / 2)))) ∧
  (∀ (s : State) (m : PtpMsg), s.live = true → s.ptp.delay = none → IsLost (.delayResp m) s) ∧
  (∀ (s : State) (m : PtpMsg), s.live = true → s.begun.portState m.port = 6 → m.domain = s.begun.nat 0x2701 3 →
    Answers (.delayReq m) s (s.begun.generalMsg m.port 54 (.ptp m.port (s.begun.nat (0x2720 + m.port) 1) 9
      (s.begun.nat 0x2701 3) m.seq (s.begun.ingressAt m.port (m.pcs : Int) / 65536 * 65536).toNat
      (m.corr - s.begun.ingressAt m.port (m.pcs : Int) % 65536) [m.source]))) ∧
  (∀ (s : State) (port : Nat), s.live = true → s.begun.portState port = 6 →
    Answers (.syncSend port) s
      (((s.begun.untilNext port 0 (logInterval (s.begun.obj 0x2701 7))).eventMsg port 0
        ((s.begun.untilNext port 0 (logInterval (s.begun.obj 0x2701 7))).nextSeq port 0)
        ((s.begun.untilNext port 0 (logInterval (s.begun.obj 0x2701 7))).egressAt port
          ((s.begun.untilNext port 0 (logInterval (s.begun.obj 0x2701 7))).now : Int)) []).sentSeq port 0)) ∧
  (∀ (s t : State) (port : Nat) (a : AnnounceMsg), s.live = true → s.begun.portState port = 6 → s.begun.ptpRole ≠ 0 →
    t = s.begun.untilNext port 2 (logInterval (s.begun.obj 0x2701 6)) → a = t.announced port →
    Answers (.announceSend port) s
      ((t.generalMsg port 64 (.ptp port (t.nat (0x2720 + port) 1) 11 (t.nat 0x2701 3) (t.nextSeq port 2) t.now 0 [a.source, a.gmId,
        a.prio1, a.clockClass, a.accuracy, a.variance, a.prio2, a.steps, a.timeSource])).sentSeq port 2)) ∧
  (∀ (s : State) (port : Nat), s.live = true → s.begun.portState port ≠ 6 →
    IsLost (.syncSend port) s ∧ IsLost (.announceSend port) s) ∧
  (∀ (s : State) (port kind seq len : Nat) (t : Int) (fields : List Nat) (o : Out), ∃ x y : QueuedFrame,
    s.eventMsg port kind seq t fields = { s with queues := s.queues ++ [x] } ∧ x.port = port ∧ x.queue = 7 ∧
    s.generalMsg port len o = { s with queues := s.queues ++ [y] } ∧ y.port = port ∧ y.queue = s.nat (0x4410 + port) 1 ∧ y.out = o)

/-- R269, R270: a complete Sync in the locked state steers the addend by its offset t2 − t1 − correction − mean path delay
− asymmetry, and reports that offset in ns; the addend never leaves 1,000 ppm of nominal. In state 1, an offset above the
step threshold steps Meridian where the module is at rest, and raises the disagreement where it runs. -/
def Obligations.OffsetsSteerMeridian : Prop :=
  (∀ (s : State) (port : Nat) (t2 t1 corr : Int), s.Inv → s.timeState = 2 →
    (s.syncDone port t2 t1 corr).obj 0x2700 3 = nsObj (t2 - t1 - corr - s.ptp.mean - s.obj (0x4710 + port) 3)) ∧
  (∀ s : State, (s.servo.clk.addend : Int) ≤ nominalAddend + 1000 * ppmUnit ∧
    (nominalAddend : Int) - 1000 * ppmUnit ≤ s.servo.clk.addend ∧ s.servo.clk.merid = s.clk.merid) ∧
  (∀ (s : State) (offset : Int), 65536 * (s.nat 0x4700 4) < offset.natAbs → s.isRunning = false →
    s.judge offset = s.stepByOffset offset) ∧
  (∀ (s : State) (offset : Int), 65536 * (s.nat 0x4700 4) < offset.natAbs → s.isRunning = true →
    (s.judge offset).clk.merid = s.clk.merid ∧
    ∃ x : State, s.judge offset = (((x.setObj 0x2700 2 4).raiseUnit 0x0503 (param (nsObj offset))).onPtp fun p =>
      { p with good := 0 }))

/-- R260-R262: every 10 µs a locking or locked PLL's divider word moves by at most 0.1 ppm of itself, and stays within
1,000 ppm of nominal; a PLL that is off keeps its word, and one that coasts keeps it too. -/
def Obligations.OuterLoopsMoveTheWordInBounds : Prop :=
  (∀ (s : State) (audio : Bool) (phase : Int), s.live = true → s.begun.pllState audio = 0 →
    IsLost (.outerLoopUpdate audio phase) s) ∧
  (∀ (s : State) (audio : Bool) (phase : Int), s.live = true → s.begun.pllState audio = 1 ∨ s.begun.pllState audio = 2 →
    s.begun.nominalWord audio - s.begun.nominalWord audio / 1000 ≤ (s.begun.pll audio).word →
    (s.begun.pll audio).word ≤ s.begun.nominalWord audio + s.begun.nominalWord audio / 1000 →
    Completes (.outerLoopUpdate audio phase) s fun t =>
      (t.pll audio).word ≤ (s.begun.pll audio).word + (s.begun.pll audio).word / 10000000 ∧
      (s.begun.pll audio).word ≤ (t.pll audio).word + (s.begun.pll audio).word / 10000000 ∧
      (t.pll audio).word ≤ s.begun.nominalWord audio + s.begun.nominalWord audio / 1000 ∧
      s.begun.nominalWord audio - s.begun.nominalWord audio / 1000 ≤ (t.pll audio).word ∧
      (t.pll !audio) = s.begun.pll !audio ∧ t.clk = s.clk) ∧
  (∀ (s : State) (audio : Bool) (phase : Int), s.live = true → 3 ≤ s.begun.pllState audio →
    Completes (.outerLoopUpdate audio phase) s fun t => (t.pll audio).word = (s.begun.pll audio).word)

/-- R275, R276, R278: a locked PLL that slips, or is more than 1 µs off, coasts, with its count and event; a coasting PLL
whose window shows more than 50 ppm falls back, otherwise its next window begins; after one second locked again it returns.
R259: the loss of the system PLL is a watchdog reset. -/
def Obligations.PllsCoastFallBackAndRelock : Prop :=
  (∀ (s : State) (audio slip : Bool) (phase : Int), s.live = true → s.begun.pllState audio = 2 →
    slip = true ∨ 1000 < phase.natAbs →
    Answers (.mediaPllLockLoss audio slip phase) s
      ((((s.begun.setPll audio { s.begun.pll audio with window := some s.begun.now, since := none }).setObj 0x2702
        (pllSub audio) 3).count 0x2702 8).raiseUnit 0x0504 (b2n audio))) ∧
  (∀ (s t : State) (audio : Bool) (cycles : Nat) (from_ : Tick), s.live = true → s.begun.pllState audio = 3 →
    (s.begun.pll audio).window = some from_ → t = s.begun.until (nsT measureNs + from_) →
    t.pllErrorPpb audio cycles ≤ 50000 →
    Answers (.pllMeasureWindow audio cycles) s
      ((t.setObj 0x2702 (pllErr audio) (min 0xFFFFFFFF (t.pllErrorPpb audio cycles) : Nat)).setPll audio
        { s.begun.pll audio with window := some (nsT measureNs + from_) })) ∧
  (∀ (s t : State) (audio : Bool) (cycles : Nat) (from_ : Tick), s.live = true → s.begun.pllState audio = 3 →
    (s.begun.pll audio).window = some from_ → t = s.begun.until (nsT measureNs + from_) →
    50000 < t.pllErrorPpb audio cycles →
    Answers (.pllMeasureWindow audio cycles) s
      (((((t.setObj 0x2702 (pllErr audio) (min 0xFFFFFFFF (t.pllErrorPpb audio cycles) : Nat)).setPll audio
        { s.begun.pll audio with window := none }).setObj 0x2702 (pllSub audio) 4).count 0x2702 7).raiseUnit 0x0505 (b2n audio)
          (min 0xFFFFFFFF (t.pllErrorPpb audio cycles)))) ∧
  (∀ (s : State) (audio : Bool) (from_ : Tick), s.live = true → 3 ≤ s.begun.pllState audio →
    (s.begun.pll audio).since = some from_ →
    Answers (.pllRelock audio) s
      ((((s.begun.until (secT 1 + from_)).setPll audio { s.begun.pll audio with window := none, since := none }).setObj 0x2702
        (pllSub audio) 2).raiseUnit 0x0506 (b2n audio))) ∧
  (∀ s : State, s.begun.mayFail = true → Answers .systemPllLoss s ((s.begun.raiseUnit 0x0507 0 0).resetInto 4))

/-! ### Audio, Atlas, memory, movers, events -/

/-- R305: at its start instant a port runs, its last handled index one before S · fs, and its state reads 2; a port that
has no start instant, or runs, is not started. R303: each frame edge of a running port has an index, from its place on the
audio frame counter, averaged over the last 64 edges and freed of the phase that the port's first edge fixed. R307, R308:
the next index is stored, left aligned, or sent; the last one again is dropped or sent again; a later one fills or skips
what lies between, and each is counted; the last index handled is then the larger one. An output whose source has no
sample for the index sends its last one again. An input index past its close is filled with the last sample. R309: 1 ms
without an edge marks a slave port's clock lost, with its event; a run of repeats past the hold limit turns to zeros.
R311: a rate window with two edges and no lost clock reports its rate; a rate nearest to another than the configured one
is state 4, with its count and event, and one more than 500 ppm off is counted and raised; a window without a rate only
starts the next. -/
def Obligations.AudioPortsStartTakeFramesAndHold : Prop :=
  (∀ (s : State) (i : Nat) (p : AudioPort) (t : Tick), s.live = true → s.begun.port? i = some p → p.start = some t →
    p.running = false →
    Answers (.audioPortStart i) s
          ((((s.begun.until t).setPort i { p with
      running := true, p := (startAfter s.begun.audioBase t).2 * (s.begun.portFs i / s.begun.audioBase : Nat) - 1
      last := s.begun.silence i, winFrom := (s.begun.until t).now, winFirst := none, winCount := 0
      winLost := false }).setObj (0x2900 + i) 0xB 2))) ∧
  (∀ (s : State) (i : Nat) (p : AudioPort), s.live = true → s.begun.port? i = some p → p.start = none ∨ p.running = true →
    IsLost (.audioPortStart i) s) ∧
  (∀ (s : State) (i : Nat) (edge : Tick) (words : List Nat) (p : AudioPort) (x ph : Int) (e : List Int × Int), s.live = true →
    s.begun.port? i = some p → p.running = true → x = audioPlace s.begun.audioBase (s.begun.portFs i)
      ((edge : Int) - (s.begun.outLatency i : Nat)) →
    ph = p.phase.getD (if s.begun.ap i 7 = 0 then 0 else x % 0x40000) → e = p.edgeAt ph x →
    Answers (.audioFrame i edge words) s
          ((((s.begun.until edge).takeEdge i edge p ph e.1).takeIndex i p.p e.2 words).handled i (max p.p e.2))) ∧
  (∀ (s : State) (i : Nat) (edge : Tick) (words : List Nat), s.live = true →
    (∀ p, s.begun.port? i = some p → p.running = false) → IsLost (.audioFrame i edge words) s) ∧
  (∀ (p : AudioPort) (ph x : Int), (p.edgeAt ph x).1.length ≤ 64 ∧ (p.edgeAt ph x).1.head? = some x ∧
    (p.edgeAt ph x).2 = edgeIndex (p.edgeAt ph x).1 ph) ∧
  (∀ (s : State) (i : Nat) (edge : Tick) (p : AudioPort) (ph : Int) (places : List Int), ∃ q,
    (s.takeEdge i edge p ph places).port? i = some q ∧ q.running = p.running ∧ q.phase = some ph ∧ q.edges = places ∧
    q.lastEdge = some edge ∧ q.lost = false ∧ q.p = p.p ∧ q.samples = p.samples ∧ q.last = p.last ∧
    (s.takeEdge i edge p ph places).out = s.out) ∧
  (∀ (s : State) (i : Nat) (was index : Int) (words frame : List Nat) (p : AudioPort), s.Inv → i < 8 → s.port? i = some p →
    s.ap i 1 = 1 → s.ap i 0xB = 2 → frame = (List.range (s.ap i 3)).map (fun k =>
      (words.getD k 0 % 2 ^ s.ap i 5) * 2 ^ (32 - s.ap i 5)) → -1 ≤ was →
    (index = was + 1 → ∃ q, (s.takeIndex i was index words).port? i = some q ∧ q.last = frame ∧ q.repeating = none ∧
      Tab.find? q.samples index.toNat = some frame ∧ (s.takeIndex i was index words).dict = s.dict ∧
      (s.takeIndex i was index words).out = s.out) ∧
    (index ≤ was → s.takeIndex i was index words = s.count (0x2900 + i) 0xF) ∧
    (was + 1 < index → p.zeroed = false → ∃ q, (s.takeIndex i was index words).port? i = some q ∧ q.last = frame ∧
      Tab.find? q.samples index.toNat = some frame ∧
      (∀ k : Nat, was < k → (k : Int) < index → index ≤ (k : Int) + 0x10000 → Tab.find? q.samples k = some p.last) ∧
      (s.takeIndex i was index words).obj (0x2900 + i) 0xE = min 0xFFFFFFFF (s.obj (0x2900 + i) 0xE + (index - was - 1)) ∧
      (s.takeIndex i was index words).out = s.out)) ∧
  (∀ (s : State) (i : Nat) (was index : Int) (words : List Nat) (p : AudioPort), s.Inv → i < 8 → s.port? i = some p →
    s.ap i 1 = 2 → s.ap i 0xB = 2 → s.audio.muted = false → p.zeroed = false →
    (index = was + 1 → ∀ w, s.outputWords i index = some w →
      (s.takeIndex i was index words).out = s.out ++ [.audio i index (w.map (cutWord (s.ap i 5)))] ∧
      (s.takeIndex i was index words).dict = s.dict) ∧
    (index = was + 1 → s.outputWords i index = none →
      (s.takeIndex i was index words).out = s.out ++ [.audio i index p.last] ∧
      (s.takeIndex i was index words).dict = (s.count (0x2900 + i) 0xE).dict) ∧
    (index ≤ was → (s.takeIndex i was index words).out = s.out ++ [.audio i was p.last] ∧
      (s.takeIndex i was index words).dict = (s.count (0x2900 + i) 0xE).dict) ∧
    (was + 1 < index → s.takeIndex i was index words =
      (s.count (0x2900 + i) 0xF (index - was - 1).toNat).sendIndex i index)) ∧
  (∀ (s : State) (i : Nat) (last : Int) (p : AudioPort), s.port? i = some p →
    (s.handled i last).port? i = some { p with p := last } ∧ (s.handled i last).out = s.out) ∧
  (∀ (s u : State) (i index : Nat) (p : AudioPort), s.live = true → s.begun.port? i = some p → p.running = true →
    s.begun.ap i 1 = 1 → u = s.begun.until (usT 100 + perSec * (index + 2) / s.begun.portFs i) →
    (p.p < index → ∃ t, exec (.audioIndexClose i index) s = .next t ∧ t.pending = s.pending ∧ t.out = [] ∧
      ∃ q, t.port? i = some q ∧ q.p = index ∧ q.running = true ∧ q.last = p.last ∧ ∀ k : Nat, p.p < k → k ≤ index → -1 ≤ p.p →
        p.zeroed = false → s.begun.ap i 0xB ≠ 4 → s.Inv → i < 8 → Tab.find? q.samples k = some p.last) ∧
    ((index : Int) ≤ p.p → Answers (.audioIndexClose i index) s
          (u.setPort i p))) ∧
  (∀ (s : State) (i : Nat) (p : AudioPort) (e : Tick), s.live = true → s.begun.port? i = some p → p.running = true →
    s.begun.ap i 7 = 1 → p.lost = false → p.lastEdge = some e → s.clk.addend ≠ 0 →
    Answers (.portClockLost i) s
          ((((s.begun.until (msT 1 + e)).setPort i { p with lost := true, winLost := true }).setObj
      (0x2900 + i) 0xB 3).raiseUnit 0x0601 i)) ∧
  (∀ (s : State) (i : Nat) (p : AudioPort) (t : Tick), s.live = true → s.begun.port? i = some p → p.repeating = some t →
    s.begun.nat (0x4900 + i) 1 ≠ 0 → p.zeroed = false →
    Answers (.holdLimit i) s
          ((((s.begun.until (t + msT (s.begun.nat (0x4900 + i) 1))).setPort i
      { p with zeroed := true }).setObj (0x2900 + i) 0xB 5))) ∧
  (∀ (s u : State) (i : Nat) (p q : AudioPort), s.live = true → s.begun.port? i = some p → p.running = true →
    s.begun.ap i 7 = 1 → u = s.begun.until (msT 100 + p.winFrom) →
    q = { p with winFrom := msT 100 + p.winFrom, winFirst := none, winCount := 0, winLost := p.lost } →
    (p.winFirst = none ∨ p.winLost = true ∨ (∃ f, p.winFirst = some f ∧ p.winLast ≤ f) →
      Answers (.rateWindow i) s
          (u.setPort i q)) ∧
    (∀ (f : Tick) (v : State) (m : Nat) (near : Bool), p.winFirst = some f → p.winLost = false → f < p.winLast →
      near = decide (1000000 * ((m : Int) - audioRatesMilli.getD (v.ap i 6) 0).natAbs ≤ 250 * audioRatesMilli.getD (v.ap i 6) 0) →
      m = 1000 * (perSec * p.winCount) / (p.winLast - f) → v = u.setObj (0x2900 + i) 0xC m →
      (nearestRate m ≠ v.ap i 6 → v.ap i 0xB ≠ 4 →
        Answers (.rateWindow i) s
          ((((v.setPort i q).setObj (0x2900 + i) 0xB 4).count (0x2900 + i) 0x11).raiseUnit
          0x0602 i m)) ∧
      (nearestRate m = v.ap i 6 → v.ap i 0xB ≠ 4 →
        1000000 * ((m : Int) - audioRatesMilli.getD (v.ap i 6) 0).natAbs ≤ 500 * audioRatesMilli.getD (v.ap i 6) 0 →
        Answers (.rateWindow i) s
          (v.setPort i { q with driftArmed := p.driftArmed || near })) ∧
      (nearestRate m = v.ap i 6 → v.ap i 0xB ≠ 4 → p.driftArmed = true →
        500 * audioRatesMilli.getD (v.ap i 6) 0 < 1000000 * ((m : Int) - audioRatesMilli.getD (v.ap i 6) 0).natAbs →
        Answers (.rateWindow i) s
          (((v.setPort i { q with driftArmed := false }).count (0x2900 + i) 0x11).raiseUnit
          0x0603 i m)))) ∧
  (∀ (s : State) (i index : Nat), s.live = true → s.begun.port? i = none →
    IsLost (.audioPortStart i) s ∧ IsLost (.audioIndexClose i index) s ∧ IsLost (.portClockLost i) s ∧ IsLost (.holdLimit i) s ∧
    IsLost (.rateWindow i) s)

/-- R315, R323: at the apply instant of frame k, with no snapshot due and Atlas on, the set in force stays, the frame in
force is k and the next one k + 1; where a snapshot was stamped before that instant, the latest such set comes into force.
Nothing happens while Atlas is off. R315, R317, R321: an active line of the frame in force that is not yet composed is
composed once, at its start, from the background and the tiles that still show there, and a tile whose last line it is
ends with it (R319, R325); a line past the raster is nothing. R321: a shown tile whose FIFO lacks a sample of the line is off from
that position to the frame's end; the frame is counted as an underrun, and the tile shows state 3. (Which FIFOs are short is a
free value, log 138.) -/
def Obligations.AtlasAppliesAndComposes : Prop :=
  (∀ (s : State) (k : Nat), s.live = true → s.atlas.next = some k → s.atlas.snaps = [] →
    setVal s.atlas.inForce 0x2A00 1 = 1 →
    Completes .atlasApply s fun t => t.atlas.next = some (k + 1) ∧ t.atlas.frame = k ∧ t.atlas.inForce = s.atlas.inForce ∧
      t.atlas.snaps = [] ∧ t.mem = s.mem ∧ t.out = []) ∧
  (∀ (s : State) (k : Nat) (x : AtlasSnap), s.live = true → s.atlas.next = some k → s.atlas.snaps = [x] →
    x.at_ < applyInstant s.atlas.inForce k → setVal s.atlas.inForce 0x2A00 1 = 1 → setVal x.set 0x2A00 1 = 1 →
    setVal x.set 0x2A00 2 = setVal s.atlas.inForce 0x2A00 2 →
    Completes .atlasApply s fun t => t.atlas.next = some (k + 1) ∧ t.atlas.frame = k ∧ t.atlas.inForce = x.set ∧
      t.atlas.snaps = [] ∧ t.mem = s.mem) ∧
  (∀ s : State, s.live = true → s.atlas.next = none → IsLost .atlasApply s) ∧
  (∀ (s u : State) (line : Nat), s.live = true → s.atlas.next = some (s.atlas.frame + 1) →
    line + 1 < rasterH (s.begun.atl 0x2A00 2) → Tab.find? s.atlas.lines (lineKey s.atlas.frame line) = none →
    u = (List.range 16).foldl (fun v t => v.underrunTile line s.foundShort t) (s.begun.until (lineInstant s.atlas.inForce
      s.atlas.frame (rasterVb (s.begun.atl 0x2A00 2) + line))).drawn →
    Answers (.atlasLine line) s ((List.range 16).foldl (fun s t => s.closeTile line t) { u with atlas := { u.atlas with
      lines := Tab.put u.atlas.lines (lineKey u.atlas.frame line) (u.rasterLine line) } })) ∧
  (∀ (s : State) (line t : Nat), s.tileEnd t ≠ line + 1 → s.closeTile line t = s) ∧
  (∀ (s u : State) (line t px : Nat) (x : TileRt), s.Inv → t < 16 → s.atlas.tiles[t]? = some x → (∀ c n b, x.shown ≠ .recon c n (some b)) →
    x.shown ≠ .none → x.offFrom = none → s.atl (0x2A10 + t) 8 ≤ line → line < s.tileEnd t → s.atl (0x2A10 + t) 7 ≤ px →
    px < s.atl (0x2A10 + t) 7 + s.atl (0x2A10 + t) 9 → u = s.underrunTile line [(t, px)] t →
    u.atlas.tiles[t]? = some { x with offFrom := some (line, px) } ∧ u.obj (0x2A10 + t) 0xC = 3 ∧
      u.obj (0x2A10 + t) 0xE = min 0xFFFFFFFF (s.obj (0x2A10 + t) 0xE + 1) ∧ s.underrunTile line [] t = s ∧
      ∀ j, j ≠ t → u.atlas.tiles[j]? = s.atlas.tiles[j]?) ∧
  (∀ (s : State) (line : Nat), s.live = true →
    s.atlas.next = none ∨ rasterH (s.begun.atl 0x2A00 2) ≤ line ∨
      (Tab.find? s.atlas.lines (lineKey s.atlas.frame line)).isSome = true → IsLost (.atlasLine line) s)

/-- R352-R355: an uncorrectable DRAM error freezes the module at its instant, writes the freeze record, counts it, marks
the DRAM and raises its event; ATTN_N is asserted and outputs stop. The freeze ends by a reset of kind 5 when its hold
expires, and not where the hold is 0. R351, R356, R482, R483: a scrub pass is counted while scrubbing is on and the DRAM
trained; the stack's temperature is reported within its type, and above 95 °C what follows is undefined (log 109 says how
the model stops); an uncorrectable SRAM error is counted and raised, with partition and
address, and one in a search cache, in the collector or in firmware memory touches nothing else. -/
def Obligations.MemoryErrorsFreezeOrCount : Prop :=
  (∀ (s : State) (cause addr coords syndromes port : Nat) (task : Option Nat), s.begun.dramUp = true →
    Answers (.dramUncorrectable cause addr coords syndromes port task) s
      ((((((((s.begun.onPower fun p => { p with freeze := some s.begun.now }).freezeRecord cause addr coords syndromes port
        task).count 0x2C00 6).setObj 0x2C00 1 3).raiseUnit 0x0705 cause).setAttn true)).say .quiet)) ∧
  (∀ (s : State) (te : Tick), s.power.vin ≠ .undefinedBand → s.power.freeze = some te → s.begun.nat 0x4C00 3 ≠ 0 →
    Answers .freezeHoldExpiry s ((s.begun.until (te + secT (s.begun.nat 0x4C00 3))).resetInto 5).updateAttn) ∧
  (∀ s : State, s.power.vin ≠ .undefinedBand → s.power.freeze = none ∨ s.begun.nat 0x4C00 3 = 0 →
    IsLost .freezeHoldExpiry s) ∧
  (∀ s : State, s.begun.dramUp = true → s.begun.nat 0x4C00 1 ≠ 0 →
    Answers .scrubPass s (s.begun.count 0x2C00 3)) ∧
  (∀ (s : State) (celsius : Int), s.begun.dramUp = true →
    (celsius ≤ 95 → Answers (.stackTemperatureChange celsius) s (s.begun.setObj 0x2C00 9 (clampI (-128) 127 celsius))) ∧
    (95 < celsius → Answers (.stackTemperatureChange celsius) s
      ((s.begun.setObj 0x2C00 9 (clampI (-128) 127 celsius)).onPower fun p => { p with vin := .undefinedBand }))) ∧
  (∀ (s : State) (partition addr : Nat), s.live = true → partition ∉ [1, 2, 4] →
    Answers (.sramUncorrectable partition addr) s
      ((s.begun.count 0x2C00 8).raiseUnit 0x0704 partition (addr / 0x100000000 % 0x100) (addr % 0x100000000))) ∧
  (∀ (s : State) (addr : Nat), s.live = true →
    Answers (.sramUncorrectable 4 addr) s
      (((s.begun.count 0x2C00 8).raiseUnit 0x0704 4 (addr / 0x100000000 % 0x100) (addr % 0x100000000)).loseAtlasWord) ∧
    ∀ x : State, ∃ off buf, (buf = 1 ∨ buf = 2) ∧ off % 8 = 0 ∧ off + 8 ≤ 22118400 ∧
      x.loseAtlasWord = (x.putBytes 0x6205 buf off ((List.range 8).map fun i => atlasBlack (off + i))).drawn)

/-- R345, R357-R360: a mover descriptor whose source and destination lie in memory and do not meet in the undefined way
copies its bytes, exactly: each destination byte reads as the source byte did, every other byte of memory as before, and
the descriptor leaves the ring marked done at its length. -/
def Obligations.MoversCopyTheirBytes : Prop :=
  ∀ (s : State) (ch : Nat) (d : Descriptor) (rest : List Descriptor), s.Inv → s.live = true → (s.begun.mover ch).ring = d :: rest →
    (s.begun.mover ch).stopped = false → d.overlaps = false →
    (∀ a, a < d.len → moverMay (d.src + a) = true ∧ moverMay (d.dst + a) = true) →
    Completes (.descriptorComplete ch none) s fun t =>
      (∀ a, a < d.len → t.memAt (d.dst + a) = s.memAt (d.src + a)) ∧
      (∀ a, a < d.dst ∨ d.dst + d.len ≤ a → t.memAt a = s.memAt a) ∧
      (t.mover ch).ring = rest ∧ (t.mover ch).last = some (2, d.len) ∧ (t.mover ch).stopped = d.stop

/-- R420-R424: the writer takes the oldest waiting event, gives it the next serial and the present time, and appends its
record of 32 bytes to the log, of which the newest 1,024 stay; ATTN_N follows the log; with no event waiting nothing
changes. -/
def Obligations.EventsAreWrittenInOrder : Prop :=
  (∀ (s : State) (e : Event) (v : EvtSt), s.coreUp = true → s.evt.next = some (e, v) →
    Answers .eventWrite s (State.writeEvent { s.begun with evt := v } e)) ∧
  (∀ s : State, s.coreUp = true → s.evt.next = none → IsLost .eventWrite s) ∧
  (∀ (s : State) (e : Event), (s.writeEvent e).evt.newest = s.evt.newest + 1 ∧
    (s.writeEvent e).evt.log = (s.evt.log ++ [eventRecord (s.evt.newest + 1) s.now32 e]).drop (s.evt.log.length + 1 - 1024) ∧
    (s.writeEvent e).evt.log.length ≤ 1024 ∧ (s.writeEvent e).evt.queue = s.evt.queue ∧
    (s.writeEvent e).out = s.out ∧ (s.writeEvent e).mem = s.mem ∧ (s.writeEvent e).bytes = s.bytes ∧
    (s.writeEvent e).commit = s.commit ∧ (s.writeEvent e).power = s.power) ∧
  (∀ (serial ns : Nat) (e : Event), (eventRecord serial ns e).length = 32) ∧
  (∀ (v w : EvtSt) (e : Event), v.next = some (e, w) → v.queue ++ v.stalled = e :: (w.queue ++ w.stalled) ∧
    w.log = v.log ∧ w.queue.length ≤ max v.queue.length 1)

/-! ### Power and reset -/

/-- R430, R431: when VIN passes the start gate, a unit that was off waits for RESET_N with every domain held; when VIN is
gone everything is lost but flash and calibration; below its limit a running unit enters the undefined band. R439, R446: a
watchdog raises its event and resets by kind 4; a failed engine pair is isolated and its loss raised; any other failed
domain is a watchdog reset with its number; without PD0's power every domain is held and the core stops. -/
def Obligations.SupplyWatchdogsAndDomainFailures : Prop :=
  (∀ s : State, s.power.vin = .off →
    Answers .vinStartGate s (s.begun.onPower fun p => { p with vin := .running, resetLow := true, held := some 0 })) ∧
  (∀ s : State, s.power.vin = .running → IsLost .vinStartGate s) ∧
  (∀ s : State, Answers .vinOff s
    { State.reset with
      flash := { s.flash with restore := false }, free := s.free, out := [.quiet]
      power := { PowerSt.reset with vin := .off, resetLow := true, held := some 0, bank := s.power.bank } }) ∧
  (∀ s : State, s.power.vin = .running →
    Answers .vinBelowLimit s (s.begun.onPower fun p => { p with vin := .undefinedBand })) ∧
  (∀ s : State, s.power.vin ≠ .running → IsLost .vinBelowLimit s) ∧
  (∀ (s : State) (cause : Nat), s.begun.mayFail = true →
    Answers (.watchdogReset cause) s ((s.begun.raiseUnit 0x0707 cause 0).resetInto 4)) ∧
  (∀ (s : State) (d : Nat), s.begun.mayFail = true → s.begun.domainOn d = true → 10 ≤ d → d ≤ 17 →
    Answers (.domainPowerFail d) s
      ((((s.begun.onPower fun p => { p with isolated := setBit p.isolated d true }).showDomains).loseEngines
        (3 * 4 ^ (d - 10))).raiseUnit 0x0701 (3 * 4 ^ (d - 10)))) ∧
  (∀ (s : State) (d : Nat), s.begun.mayFail = true → s.begun.domainOn d = true → d ≠ 0 → ¬(10 ≤ d ∧ d ≤ 17) →
    Answers (.domainPowerFail d) s ((s.begun.raiseUnit 0x0707 2 d).resetInto 4)) ∧
  (∀ (s : State) (d : Nat), s.power.vin ≠ .undefinedBand → s.begun.mayFail = false →
    IsLost (.domainPowerFail d) s ∧ IsLost (.watchdogReset d) s) ∧
  (∀ s : State, s.power.vin = .running → Answers .pd0PowerFail s
    ((s.begun.onPower fun p => { p with held := some 0, core := false, freeze := none, transition := none }).say .quiet))

/-- R444: RESET_N low for less than 1 µs does nothing, for 10 µs or more it resets by kind 1 and holds the module in reset
(by kind 5 where it is frozen); in between either happens. On release the straps are sampled and the start sequence counts
anew. -/
def Obligations.ResetPinHoldsAndReleases : Prop :=
  (∀ (s : State) (ns : Nat), s.power.vin = .running → ns < 1000 → IsLost (.resetNAssert ns) s) ∧
  (∀ (s : State) (ns : Nat), s.power.vin = .running → s.power.resetLow = false → 10000 ≤ ns → s.power.held ≠ some 0 →
    (s.power.freeze = none → Answers (.resetNAssert ns) s
      ((s.begun.resetInto 1).onPower fun p => { p with resetLow := true })) ∧
    (s.power.freeze.isSome = true → Answers (.resetNAssert ns) s
      ((s.begun.resetInto 5).updateAttn.onPower fun p => { p with resetLow := true }))) ∧
  (∀ (s : State) (ns : Nat), s.power.vin = .running → s.power.resetLow = false → 1000 ≤ ns → ns < 10000 →
    Answers (.resetNAssert ns) s s.begun.drawn.enterReset ∨ Answers (.resetNAssert ns) s s.begun.drawn) ∧
  (∀ (s : State) (straps : Nat), s.power.vin = .running → s.power.resetLow = true → s.power.held = none →
    Answers (.resetNRelease straps) s
      ((s.begun.onPower fun p => { p with resetLow := false, base := s.clk.cycles, since := s.clk.cycles }).sampleStraps
        straps)) ∧
  (∀ (s : State) (straps : Nat), s.power.vin = .running → s.power.resetLow = true → s.power.held = some 0 →
    Answers (.resetNRelease straps) s
      (((s.begun.onPower fun p => { p with resetLow := false, held := none, straps := straps }).resetInto 0).sampleStraps
        straps)) ∧
  (∀ (s : State) (straps : Nat), s.power.vin = .running → s.power.resetLow = false → IsLost (.resetNRelease straps) s)

/-- R439, R448: held domains are released after their 10 ms, or by a power-on reset where PD0 had lost its power. The start
sequence enters its stages in order, each at its offset from the reset: Meridian starts at 0 (but after a freeze), the core
boots and reports the start, the DRAM is trained, and the configuration in force begins to act. R449: the hold ends once
the time state reads locked, or the unit is its own grandmaster; what the configuration in force enables starts 1 ms ahead.
Before that, nothing happens. -/
def Obligations.TheStartSequenceRunsToTheHold : Prop :=
  (∀ (s : State) (k : Nat), s.power.vin = .running → s.power.resetLow = false → s.power.held = some k → k ≠ 0 →
    Answers .domainRelease s ((s.begun.untilCycle s.power.base).onPower fun p => { p with held := none })) ∧
  (∀ s : State, s.power.vin = .running → s.power.resetLow = false → s.power.held = some 0 →
    Answers .domainRelease s ((s.begun.onPower fun p => { p with held := none }).resetInto 0)) ∧
  (∀ (s : State) (k : Nat), s.power.vin = .running → s.power.resetLow = false → s.power.held = none → s.power.freeze = none →
    s.power.stage = k → k < 4 →
    Answers .startStage s (((s.begun.untilCycle (s.power.base + msCycles (stageOffsets.getD k 0))).onPower fun p =>
      { p with stage := k + 1 }).enterStage (k + 1))) ∧
  (∀ s : State, s.power.start ≠ 5 → (s.enterStage 1).clk.merid = 0 ∧ s.enterStage 3 = s.setObj 0x2C00 1 2 ∧
    s.enterStage 4 = s.bringUp) ∧
  (∀ s : State, s.power.vin = .running → s.power.stage = 4 → IsLost .startStage s) ∧
  (∀ s u v w : State, s.live = true → s.power.hold = true →
    s.begun.timeState = 2 ∨ (s.begun.ptpRole ≠ 0 ∧ s.ptp.parent = none) →
    u = s.begun.onPower (fun p => { p with hold := false }) → v = State.switchRun u.bare u (msT 1 + u.now) [] false →
    w = (if v.inCascade = true ∧ v.pos ≠ 0 then v.onCasc fun x => { x with masterLost := true } else v) →
    Answers .holdRelease s (if w.atl 0x2A00 1 = 1 then w.atlasStart w.atlas.inForce [] else w)) ∧
  (∀ s : State, s.live = true → s.power.hold = false → IsLost .holdRelease s) ∧
  (∀ s : State, s.live = true → s.begun.timeState ≠ 2 → s.begun.ptpRole = 0 ∨ s.ptp.parent.isSome = true →
    IsLost .holdRelease s)

/-- R442, R443, R450, Table 22-6: whatever its kind, a reset stops the outputs, empties the data plane, the memories, the
sessions, the pending commits and the long operations, sets the hold and the first stage of the start sequence, ends a
freeze, and records its kind; the log survives every kind but power-on, and CAN FD the kinds 4 and 5. -/
def Obligations.ResetsKeepWhatTheirKindKeeps : Prop :=
  ∀ (s : State) (kind : Nat), s.Inv → kind ≤ 5 →
    (s.resetInto kind).mem = [] ∧ (s.resetInto kind).chans = [] ∧ (s.resetInto kind).flows = [] ∧
    (s.resetInto kind).ports = [] ∧ (s.resetInto kind).links = [] ∧ (s.resetInto kind).ops = [] ∧
    (s.resetInto kind).egress = ⟨[], [], [], [], [], []⟩ ∧ (s.resetInto kind).commit.sessions = [] ∧
    (s.resetInto kind).commit.pending = [] ∧ (s.resetInto kind).exfer.sessions = [] ∧ (s.resetInto kind).hostCheck = none ∧
    (s.resetInto kind).power.stage = 0 ∧ (s.resetInto kind).power.hold = true ∧ (s.resetInto kind).power.freeze = none ∧
    (s.resetInto kind).power.vin = s.power.vin ∧ (s.resetInto kind).out = s.out ++ [.quiet] ∧
    (s.resetInto kind).obj 0x2000 4 = kind ∧ (s.resetInto kind).flash.imageA = s.flash.imageA ∧
    (s.resetInto kind).flash.imageB = s.flash.imageB ∧ (s.resetInto kind).clk.merid = s.clk.merid ∧
    (kind ≠ 0 → (s.resetInto kind).evt.log = s.evt.log ∧ (s.resetInto kind).evt.newest = s.evt.newest ∧
      (s.resetInto kind).obj 0x2000 5 = s.nat 0x2000 5 + 1) ∧
    (kind = 4 ∨ kind = 5 → (s.resetInto kind).can = { s.can with saveWait := none } ∧
      (s.resetInto kind).power.core = s.power.core ∧ (s.resetInto kind).power.held = some kind)

/-! ### Ingress -/

/-- R210, R212, R217, R218: a frame on a port that is down, of another shape or too long is dropped without a count; one
with a wrong checksum and one that matches no flow are counted; any other goes to the flow that it matches, unless that is the
region flow of another member of the canvas (R187). There it is counted for its path; above the policing rate it is counted
and nothing of it is kept. The bucket never holds more than its depth. -/
def Obligations.PacketsReachTheirFlows : Prop :=
  (∀ (s : State) (p : RxPacket), s.live = true →
    s.begun.portUp p.port = false ∨ p.shapeOk = false ∨ 9018 < p.frameLen → IsLost (.packetReceive p) s) ∧
  (∀ (s u : State) (p : RxPacket), s.live = true → s.begun.portUp p.port = true → p.shapeOk = true → p.frameLen ≤ 9018 →
    (p.ipSumOk = false ∨ p.udpSumOk = false → Answers (.packetReceive p) s (s.begun.count 0x4100 2)) ∧
    (p.ipSumOk = true → p.udpSumOk = true → u = s.begun.until p.pcs →
      (u.matchFlow p p.pcs = none → Answers (.packetReceive p) s (u.count 0x4100 1)) ∧
      ∀ f b, u.matchFlow p p.pcs = some (f, b) →
        (u.received f = true → Answers (.packetReceive p) s (State.ingressFollow u (u.rxMatched f b p p.pcs) f)) ∧
        (u.received f = false → Answers (.packetReceive p) s u))) ∧
  (∀ (u : State) (f : Nat) (p : RxPacket) (t : Tick), u.flowHoled f = false →
    (police (u.matchFields f p.ts t) (u.flow f).bucketA p.frameLen t).1 = false →
    (u.rxMatched f false p t).flowStat f = { u.flowStat f with
      rxA := sat32 ((u.flowStat f).rxA + 1), polA := sat32 ((u.flowStat f).polA + 1) } ∧
    ((u.rxMatched f false p t).flow f).lastA = some t ∧
    ((u.rxMatched f false p t).flow f).frames = (u.flow f).frames ∧
    ((u.rxMatched f false p t).flow f).held = (u.flow f).held) ∧
  (∀ (r : FlowRec) (b : Option Bucket) (len : Nat) (t : Tick), r.polRate ≠ 0 → r.polDepth ≠ 0 →
    ∃ x, (police r b len t).2 = some x ∧ x.at_ = t ∧ x.level ≤ bucketUnit * r.polDepth ∧
      ((police r b len t).1 = true → bucketUnit * len + x.level ≤ bucketUnit * r.polDepth))

/-- R221-R225, R229: at the deadline of a line a present frame's incomplete line closes concealed, and is counted; line 0
decides the frame: with a packet it is present, with none the slot is a repeat or absent. (R213: the entry is the one that
this slot is handled by.) Ancillary packets of a slot close together; an audio
index closes with what came, and the last sample in place of what did not. A path without a packet for 10 ms is silent. -/
def Obligations.LinesAndSamplesClose : Prop :=
  (∀ (s u : State) (f n l : Nat) (q : FlowRec), s.live = true → q = s.begun.recAt f n → q.on = true → q.kind = 0 →
    l < q.height → u = s.begun.until (q.deadline n l) →
    (∀ runs v, ((u.flow f).frame n).gift = .present → ((u.flow f).frame n).line l = .collecting runs → l + 1 < q.height →
      v = (u.closeLine f n l false (u.concealment f n l)).statFlow f (fun t => { t with concealed := sat32 (t.concealed + 1) }) →
      Answers (.lineClose f n l) s
        (State.ingressFollow s.begun (if (v.flow f).whole n q.height = true then v.leaveOld f n else v) f)) ∧
    (∀ p d, ((u.flow f).frame n).gift = .present → ((u.flow f).frame n).line l = .closed p d → l + 1 < q.height →
      Answers (.lineClose f n l) s
        (State.ingressFollow s.begun (if (u.flow f).whole n q.height = true then u.leaveOld f n else u) f)) ∧
    (∀ runs v, ((u.flow f).frame n).gift = .undecided → ((u.flow f).frame n).stamp.isSome = true →
      ((u.flow f).frame n).line 0 = .collecting runs → l = 0 → 1 < q.height → v = u.present f n →
      Answers (.lineClose f n l) s (State.ingressFollow s.begun ((v.closeLine f n 0 false (v.concealment f n 0)).statFlow f
        fun t => { t with concealed := sat32 (t.concealed + 1) }) f)) ∧
    (((u.flow f).frame n).gift = .undecided → ((u.flow f).frame n).stamp = none → l = 0 → 1 < q.height →
      Answers (.lineClose f n l) s (State.ingressFollow s.begun (u.unmapped f n) f))) ∧
  (∀ (s u : State) (f n : Nat) (q : FlowRec), s.live = true → q = s.begun.recAt f n → q.on = true → q.kind = 2 →
    u = s.begun.until (instantT q.rate n 1 1 (1000 * q.ac)) → (u.flow f).ancClosed.contains n = false →
    ((Tab.find? (u.flow f).anc n).isSome = true → Answers (.ancillaryClose f n) s
      ((((u.setFlow f { u.flow f with
        ancClosed := n :: (u.flow f).ancClosed.take 63, lastFrame := some (n, n), run := 0 }).countLost f n 0)).leaveOld f n)) ∧
    (Tab.find? (u.flow f).anc n = none → Answers (.ancillaryClose f n) s
      (((((u.setFlow f { u.flow f with ancClosed := n :: (u.flow f).ancClosed.take 63 }).unmapped f n).countLost f n 0)).leaveOld
        f n))) ∧
  (∀ (s u : State) (f i : Nat) (q : FlowRec), s.live = true → q = s.begun.recAt f i → q.on = true → q.kind = 1 →
    u = s.begun.until (q.audioClose i) → (∀ k, (u.flow f).audioNext = some k → k ≤ i) →
    Completes (.audioSampleClose f i) s fun t => (t.flow f).audioNext = some (i + 1) ∧
      (t.flow f).lastAudio = ((List.range q.width).map fun ch =>
        ((((Tab.find? (u.flow f).audio i).getD [])[ch]?)).getD ((u.flow f).lastAudio.getD ch 0)) ∧
      (t.flowStat f).concealed = sat32 ((u.flowStat f).concealed +
        (q.width - ((Tab.find? (u.flow f).audio i).getD []).length))) ∧
  (∀ (s u : State) (f : Nat) (t : Tick), s.live = true → u = s.begun.until (msT 10 + t) →
    ((s.begun.flow f).lastA = some t → Answers (.flowPathSilent f false) s
      ((u.setFlow f { s.begun.flow f with lastA := none }).flowStateEvent f (s.begun.flowState f))) ∧
    ((s.begun.flow f).lastB = some t → Answers (.flowPathSilent f true) s
      ((u.setFlow f { s.begun.flow f with lastB := none }).flowStateEvent f (s.begun.flowState f)))) ∧
  (∀ (s : State) (f n l : Nat), s.live = true →
    ((s.begun.recAt f n).on = false → Answers (.lineClose f n l) s (State.ingressFollow s.begun s.begun f) ∧
      IsLost (.ancillaryClose f n) s ∧ IsLost (.audioSampleClose f n) s) ∧
    ((s.begun.flow f).lastA = none → IsLost (.flowPathSilent f false) s))

/-- R208, R235, R258: a port whose lanes come up is up and raises its event, one that goes down likewise; a second edge the
same way changes nothing. A port answers a request for its own address, and asks for each next hop that its entries need,
keeping the answers to what it asked; what it sends waits in the port's management queue (R250). -/
def Obligations.PortsGoUpAndDownAndResolve : Prop :=
  (∀ (s : State) (p : Nat), s.live = true →
    (s.begun.nat 0x2105 (p + 1) = 2 → Answers (.portLinkDown p) s
      (((s.begun.setObj 0x2105 (p + 1) 1).laneStates (s.begun.portLanes p) 1).raiseUnit 0x0401 p)) ∧
    (s.begun.nat 0x2105 (p + 1) ≠ 2 → IsLost (.portLinkDown p) s) ∧
    (s.begun.nat 0x2105 (p + 1) ≠ 1 → IsLost (.portLinkUp p) s)) ∧
  (∀ (s : State) (p : Nat), s.Inv → s.live = true → s.begun.nat 0x2105 (p + 1) = 1 →
    Completes (.portLinkUp p) s fun t => t.nat 0x2105 (p + 1) = 2 ∧ t.evt = (s.begun.raiseUnit 0x0402 p).evt ∧
      t.free ≤ s.free + (s.begun.portLanes p).length ∧ t.mem = s.mem ∧ t.links = s.links ∧ t.out = []) ∧
  (∀ (s : State) (p target ip mac : Nat), s.live = true →
    (s.begun.portUp p = true → target = s.begun.nat 0x2101 (p + 1) → target ≠ 0 →
      Answers (.arpRequest p target ip mac) s (s.begun.manage p 28 (.arp p ip (Config.mac p)))) ∧
    (s.begun.portUp p = false ∨ target ≠ s.begun.nat 0x2101 (p + 1) → IsLost (.arpRequest p target ip mac) s)) ∧
  (∀ (s u : State) (p : Nat) (answers : List (Nat × Nat)), s.live = true → s.begun.portUp p = true →
    (s.begun.ether p).refreshed = none → u = (s.begun.hops p).foldl (fun s h => s.manage p 28 (.arp p h 0)) s.begun →
    Answers (.arpRefresh p answers) s { u with ports := Tab.put u.ports p { s.begun.ether p with
      arp := answers.filter fun a => (s.begun.hops p).contains a.1, refreshed := some s.begun.now } }) ∧
  (∀ (s u v : State) (p : Nat) (answers : List (Nat × Nat)) (t : Tick), s.live = true → s.begun.portUp p = true →
    (s.begun.ether p).refreshed = some t →
    (s.begun.hops p).all (fun h => (s.begun.ether p).arp.any fun a => a.1 == h) = true →
    u = s.begun.until (secT 60 + t) → v = (s.begun.hops p).foldl (fun s h => s.manage p 28 (.arp p h 0)) u →
    Answers (.arpRefresh p answers) s { v with ports := Tab.put v.ports p { s.begun.ether p with
      arp := answers.filter fun a => (s.begun.hops p).contains a.1, refreshed := some u.now } })

/-! ### The coding path -/

/-- R62: the global vector of a frame is the field vector that occurs in the most L1 blocks; ties go to the smaller |x| +
|y|, then the smaller y, then the smaller x. -/
def Obligations.TheGlobalVectorIsTheMostFrequent : Prop :=
  (∀ (th ts : Nat) (a p : AnaRt), (anaFinish th ts a (some p)).gv = modeVec (a.field.map (·.2))) ∧
  ∀ vs : List (Int × Int), vs ≠ [] →
    modeVec vs ∈ vs ∧ ∀ v ∈ vs, vs.count v ≤ vs.count (modeVec vs) ∧
      (vs.count v = vs.count (modeVec vs) → v ≠ modeVec vs →
        (modeVec vs).1.natAbs + (modeVec vs).2.natAbs < v.1.natAbs + v.2.natAbs ∨
        ((modeVec vs).1.natAbs + (modeVec vs).2.natAbs = v.1.natAbs + v.2.natAbs ∧
          ((modeVec vs).2 < v.2 ∨ ((modeVec vs).2 = v.2 ∧ (modeVec vs).1 < v.1))))

/-- R18, R58, R61-R64, R66: a pre-analysis band runs once every line of it has closed in a present frame of a source that a
channel takes in that slot, and what it stands on has settled, and is stored; a composition band runs once its layers' lines have closed, and is stored. The band's task then
ends. R89, R114, R171: a channel's next AU is decided once what it waits for stands, from E(n − D) on; on a standby that
waits for a resync record it is deferred and counted, and made at the latest 1 ms after. The decision opens the AU of the
next slot, POC 0 where it is an IDR picture, and names the slot after it as the next. -/
def Obligations.BandsAreAnalysedAndPicturesDecided : Prop :=
  (∀ (s u : State) (f n b : Nat) (q : FlowRec), s.live = true → q = s.begun.recAt f n → s.begun.anaDue f n = true →
    s.begun.anaSettled f n = true →
    (∀ l ∈ bandLines q.height b, ∃ p d, ((s.begun.flow f).frame n).line l = .closed p d) →
    b ∉ (s.begun.anaGet f n).bands → b < cdiv q.height 64 → u = s.begun.preAnalysis f n b →
    Answers (.preAnalysisBand f n b) s ((u.taskDone 1 f n b).frameReportDue f n) ∧
    (u.anaGet f n).bands = b :: (s.begun.anaGet f n).bands ∧
    (cdiv q.height 64 ≤ (u.anaGet f n).bands.length → (u.anaGet f n).done = true) ∧
    ∀ g m, anaKey g m ≠ anaKey f n → u.anaGet g m = s.begun.anaGet g m) ∧
  (∀ (s : State) (f n b : Nat), s.live = true → s.begun.anaDue f n = false ∨ b ∈ (s.begun.anaGet f n).bands ∨
    s.begun.anaSettled f n = false → IsLost (.preAnalysisBand f n b) s) ∧
  (∀ (s : State) (f n : Nat), s.anaDue f n = true → ((s.flow f).frame n).gift = .present ∧ s.chansOf f n ≠ []) ∧
  (∀ (s u v : State) (c n r : Nat) (a : Au), s.live = true → (s.begun.chan c).au? n = some a → a.skip = false →
    a.replaced = false → r < a.cfg.rows → Tab.find? a.bands r = none → v = s.begun.atSlot a.cfg.rate n →
    v.composable c a r = true → u = s.begun.composeBand c n r →
    Answers (.compositionBand c n r) s (u.rowTask c n r) ∧
    ∃ b, (u.chan c).au? n = some b ∧ b = { a with bands := Tab.put a.bands r (codedRow a.cfg (v.stack c a) r) }) ∧
  (∀ (s : State) (c n r : Nat), s.live = true → (s.begun.chan c).au? n = none → IsLost (.compositionBand c n r) s) ∧
  (∀ (s u : State) (c n : Nat), s.live = true → n = (s.begun.chan c).upcoming → s.begun.readyHere c n = true →
    (s.begun.pc c).deferred ≠ some n → u = s.begun.until (s.begun.decisionAt c n) →
    (u.mustDefer c n = false → Answers (.pictureDecision c) s (State.follow s.begun (u.pairDecide c n))) ∧
    (u.mustDefer c n = true → Answers (.pictureDecision c) s (State.follow s.begun
      ((u.count (expert c 0xB) 3).onPc c fun p => { p with deferred := some n })))) ∧
  (∀ (s : State) (c : Nat), s.live = true → s.begun.readyHere c (s.begun.chan c).upcoming = false →
    IsLost (.pictureDecision c) s) ∧
  (∀ (s u : State) (c n : Nat), s.live = true → (s.begun.pc c).deferred = some n →
    u = s.begun.until (msT 1 + s.begun.decisionAt c n) →
    Answers (.deferredDecisionTimeout c) s (State.follow s.begun (u.pairDecide c n))) ∧
  (∀ (s : State) (c n : Nat) (cv : Option CanvasIn), ((s.decide_ c n cv).chan c).nextSlot = n + 1 ∧
    ∃ a, ((s.decide_ c n cv).chan c).aus.getLast? = some a ∧ a.slot = n ∧ a.complete = none ∧ a.settled = false ∧
      (a.idr = true → a.poc = 0) ∧ (a.idr = false → a.poc = (s.chan c).nextPoc) ∧
      ((s.decide_ c n cv).chan c).nextPoc = a.poc + 1)

/-- R115-R117, R119: a row is decided once the row above it is, the row k above has settled and its bands stand; it is
coded once the row above has settled, its band is composed and its references and the replacement AU are ready: its total
is 8 bits a byte and 8 more for each substream. An AU of the present run that has fully settled updates the model once, from
the α values after the last AU before it, or the initial ones. -/
def Obligations.RowsAreDecidedAndCoded : Prop :=
  (∀ (s u : State) (c n r : Nat) (a : Au), s.live = true → (s.begun.chan c).au? n = some a → a.skip = false →
    a.replaced = false → r < a.rows.length → (a.row r).stage = .waiting → r = 0 ∨ (a.row (r - 1)).stage ≠ .waiting →
    r < a.cfg.k ∨ (a.row (r - a.cfg.k)).stage = .settled → s.begun.rowAnalysed a r = true →
    s.begun.bandsDecided a r = true → u = s.begun.rowDecision c n r →
    Answers (.rowDecision c n r) s (u.rowTaskCodes c n r) ∧
    ∃ b, (u.chan c).au? n = some b ∧ (b.row r).stage = .decided ∧ (∀ j, j ≠ r → b.row j = a.row j) ∧
      (s.begun.absentRow a r = true → (b.row r).guard = true ∧ (b.row r).allow = a.guardRowSize ∧ (b.row r).q = a.qb)) ∧
  (∀ (s u : State) (c n r : Nat) (a : Au), s.live = true → (s.begun.chan c).au? n = some a → a.skip = false →
    a.replaced = false → a.repl.isSome = true → r < a.rows.length → (a.row r).stage = .decided →
    r = 0 ∨ (a.row (r - 1)).stage = .settled → (Tab.find? a.bands r).isSome = true → s.begun.refsFinal c a r = true →
    u = s.begun.rowCoding c n r →
    (s.begun.isCanvas c = false → Answers (.rowCoding c n r) s (u.taskDone 4 c n r)) ∧
    (s.begun.isCanvas c = true → Answers (.rowCoding c n r) s ((u.taskDone 4 c n r).canvasRowSettled c n r)) ∧
    ∃ b o, (u.chan c).au? n = some b ∧ o = s.begun.codeRow c a r (s.begun.rowAbove c a r) ∧ (b.row r).stage = .settled ∧
      (b.row r).subs = o.subs ∧ (b.row r).coded = o.coded ∧ (b.row r).ctxs = o.ctxs ∧
      (b.row r).total = (o.subs.map fun x => 8 * x.length + 8).sum ∧ ∀ j, j ≠ r → b.row j = a.row j) ∧
  (∀ (s : State) (c n r : Nat), s.live = true → (s.begun.chan c).au? n = none →
    IsLost (.rowDecision c n r) s ∧ IsLost (.rowCoding c n r) s) ∧
  (∀ (s u : State) (c m : Nat) (a : Au), s.live = true → s.begun.isCanvas c = false → (s.begun.chan c).au? m = some a →
    a.settled = true → a.modelled = false → a.replaced = false → (s.begun.chan c).mine a = true →
    (∀ b ∈ (s.begun.chan c).aus, (s.begun.chan c).mine b = true → b.slot < m → b.modelled = true) →
    Tab.find? (s.begun.chan c).alphas m = none → u = s.begun.modelUpdate c m →
    Answers (.modelUpdate c m) s (u.pulse 18 none) ∧
    (∃ b, (u.chan c).au? m = some b ∧ b = { a with modelled := true }) ∧
    (∀ al, al = ((((s.begun.chan c).alphas.filter fun x => decide (x.1 < m)).getLast?.map (·.2)).getD (s.begun.chan c).alpha0) →
      Tab.find? (u.chan c).alphas m = some (modelStep al.1 al.2 (a.rows.filterMap fun w =>
        if w.guard ∨ w.tail then none else some (w.total, w.xi, w.xp, w.q)))) ∧
    ∀ k, k ≠ m → Tab.find? (u.chan c).alphas k = Tab.find? (s.begun.chan c).alphas k) ∧
  (∀ (s : State) (c m : Nat), s.live = true → s.begun.isCanvas c = true →
    Answers (.modelUpdate c m) s ((s.begun.canvasModel c m).pulse 18 none))

/-- R110, R115, R116, R118: the hard cap. A row decision that leaves the guard rows after it their size allots no more than
M leaves; a row after a guard row is a guard row; a row coded within its allowance takes no more bits than it, with its
guard CTUs, its flush and the overhead of each substream. -/
def Obligations.RowsStayWithinTheirAllowance : Prop :=
  (∀ (prev : Bool) (m settled charged left g qb qhi aI aP : Nat) (x : Nat × Nat) (later : List (Nat × Nat)), 1 ≤ left →
    settled + charged + left * g ≤ m →
    settled + charged + (rowChoice prev m settled charged left g qb qhi aI aP x later).allow + (left - 1) * g ≤ m ∧
    g ≤ (rowChoice prev m settled charged left g qb qhi aI aP x later).allow ∧
    (qb ≤ qhi → qb ≤ (rowChoice prev m settled charged left g qb qhi aI aP x later).q ∧
      (rowChoice prev m settled charged left g qb qhi aI aP x later).q ≤ qhi) ∧
    (prev = true → rowChoice prev m settled charged left g qb qhi aI aP x later = ⟨true, qb, g⟩)) ∧
  (∀ (bits bins guardB : Nat → Nat) (share nc b allow flush : Nat) (guard : Bool) (colAt : List Nat),
    colAt.head? = some 0 → colAt.getLast? = some nc → colAt.Pairwise (· ≤ ·) →
    nc * b + (colAt.length - 1) * rowOverhead ≤ allow →
    ((codedLengths bits bins guardB share nc b allow flush guard colAt).2.map fun x => 8 * x + 8).sum ≤ allow ∧
    (codedLengths bits bins guardB share nc b allow flush guard colAt).1 ≤ nc ∧
    (guard = true → (codedLengths bits bins guardB share nc b allow flush guard colAt).1 = 0))

/-- R23, R24, R142, R237: an AU's replacement is written once; an AU whose rows have settled and whose replacement stands is
assembled, with the instant of its completion and its check value; at E(n) one that is not complete gives way to its
replacement, its rows and buffer given up, its tasks cancelled, and every table that holds its entry follows (R96); of a canvas
only the master rescues, and its next decision names the AU (R192). A complete AU is packetised once, behind what already
stands in the wheel. -/
def Obligations.AusAreAssembledReplacedOrRescued : Prop :=
  (∀ (s u v : State) (c n : Nat) (a : Au), s.live = true → (s.begun.chan c).au? n = some a → a.repl = none →
    a.replaced = false → a.complete = none → v = s.begun.atSlot a.cfg.rate n → u = s.begun.replacementAu c n →
    Answers (.replacementAu c n) s (u.taskDone 5 c n 0) ∧
    ∃ b, (u.chan c).au? n = some b ∧
      b = { a with repl := some ((s.begun.replBytes v c a [] []).bytes, (s.begun.replBytes v c a [] []).outside)
                   settled := a.settled || a.skip }) ∧
  (∀ (s u : State) (c n : Nat) (a : Au), s.live = true → s.begun.isCanvas c = false → (s.begun.chan c).au? n = some a →
    a.cfg.canvas = false → s.begun.assemblyReady (s.begun.atSlot a.cfg.rate n) c a = true → u = s.begun.auAssembly c n →
    Answers (.auAssembly c n) s (State.follow s.begun u) ∧
    ∃ b, (u.chan c).au? n = some b ∧ b.complete = some s.begun.now ∧ b.replaced = false ∧
      b.check = foldedCrc 1 c 0xFF 0 (n % 0x100000000) b.data) ∧
  (∀ (s : State) (c n : Nat), s.live = true → s.begun.isCanvas c = true →
    Answers (.auAssembly c n) s (State.follow s.begun (s.begun.canvasAssembly c n))) ∧
  (∀ (s u v : State) (c n : Nat) (a : Au), s.live = true → (s.begun.isCanvas c = true → s.begun.isMaster = true) →
    (s.begun.chan c).au? n = some a → a.complete = none → a.replaced = false →
    ((s.begun.chan c).earlier a).all (fun b => b.complete.isSome) = true → u = s.begun.deadlineRescue c n →
    v = u.cancelTasks c n →
    (s.begun.isCanvas c = false → Answers (.deadlineRescue c n) s (State.follow s.begun v)) ∧
    (s.begun.isCanvas c = true → Answers (.deadlineRescue c n) s
      (State.follow s.begun (v.onCasc fun x => { x with rescue := some (v.pocOf c n) }))) ∧
    (∃ b, (u.chan c).au? n = some b ∧ b.replaced = true ∧ b.complete = some u.now ∧ b.buf = none ∧
      (∀ r ∈ b.rows, r = RowRt.empty) ∧
      ∀ d w, a.repl = some d → w = s.begun.until (a.cfg.rescueAt n) →
        b.data = d.1 ++ (w.atSlot a.cfg.rate n).auSuffix c a (w.replPlanes c a)) ∧
    (u.chan c).marks = (s.begun.chan c).marks.map (rescueEntry c a) ∧
    (s.clk.addend ≠ 0 → a.cfg.rescueAt n ≤ u.now)) ∧
  (∀ (s : State) (c n : Nat), s.live = true → s.begun.isCanvas c = true → s.begun.isMaster = false →
    IsLost (.deadlineRescue c n) s) ∧
  (∀ (s u : State) (c n : Nat) (a : Au), s.live = true → (s.begun.chan c).au? n = some a → a.complete.isSome = true →
    a.packetised = false → u = s.begun.packetisation c n →
    Answers (.packetisation c n) s ((u.taskDone 7 c n 0).retire c) ∧
    (∃ b, (u.chan c).au? n = some b ∧ b = { a with packetised := true }) ∧
    ∃ items, u.egress.wheel = s.egress.wheel ++ items) ∧
  (∀ (s : State) (c n : Nat), s.live = true → (s.begun.chan c).au? n = none →
    IsLost (.replacementAu c n) s ∧ IsLost (.deadlineRescue c n) s ∧ IsLost (.packetisation c n) s)

/-! ### Orchard and egress -/

/-- R328, R330, R339-R342: among Ready tasks the one with the earliest deadline goes first, then the one created first. A
producer's stalled record takes a slot that has freed; a collector round takes the oldest record of every producer that was
written before its first cycle, four to a cycle; the next round can start once it is over. A delayed creation is counted
and raised. -/
def Obligations.OrchardTakesTasksAndRecordsInOrder : Prop :=
  (∀ (ts : List (Nat × TaskRt)) (p : Nat × TaskRt), firstTask ts = some p →
    p ∈ ts ∧ ∀ q ∈ ts, ¬(q.2.deadline < p.2.deadline ∨ (q.2.deadline = p.2.deadline ∧ q.2.seq < p.2.seq))) ∧
  (∀ (s : State) (p : Nat) (q : Producer) (r : CollRec) (rest : List CollRec), s.live = true →
    Tab.find? s.orch.prods p = some q → q.stalled = r :: rest →
    (q.slots.length < 2 → Answers (.completionRecordWrite p) s (s.begun.onOrch fun o => { o with
      prods := Tab.put o.prods p ⟨q.slots ++ [{ r with cycle := s.begun.fabric }], rest⟩ })) ∧
    (2 ≤ q.slots.length → IsLost (.completionRecordWrite p) s)) ∧
  (∀ (s : State) (p : Nat) (q : Producer), s.live = true → Tab.find? s.orch.prods p = some q → q.stalled = [] →
    IsLost (.completionRecordWrite p) s) ∧
  (∀ s : State, s.live = true → (∀ p ∈ s.orch.prods, p.2.slots = []) → IsLost .collectorRound s) ∧
  (∀ (s : State) (p cycle : Nat) (x : CollRec) (old : List CollRec), s.live = true →
    s.orch.prods = [(p, ⟨x :: old, []⟩)] → x.cycle ≤ s.begun.fabric → cycle = max s.orch.free (x.cycle + 1) →
    Completes .collectorRound s fun t => t.orch.free = cycle + 1 ∧ t.orch.prods = [(p, ⟨old, []⟩)] ∧
      (∀ id, x.task = some id → Tab.sortedFrom 0 s.orch.tasks = true → Tab.find? t.orch.tasks id = none) ∧ t.chans = s.chans ∧ t.mem = s.mem) ∧
  (∀ (s u : State) (kind c n row : Nat), s.live = true →
    u = ((s.begun.createTask kind c n row).count 0x2B00 7).raise
      ⟨0x0702, if kind = 1 then 0xFF else c, n % 0x100000000, kind, 0, 0⟩ →
    (∀ x, u.taskOf kind c n row = some x → Answers (.taskCreationDelayed kind c n row) s (u.trace 10 18 x.1 x.2 0)) ∧
    (u.taskOf kind c n row = none → Answers (.taskCreationDelayed kind c n row) s u))

/-- R332: a decrement that names a counter that is free or already at 0 is discarded: it raises a counter-underflow event,
adds one to 0x4B00:06 (which holds at its top, as every counter), and no task becomes Ready: tasks and counters stay as
they are. -/
def Obligations.ADecrementOfNoCounterIsDiscarded : Prop :=
  ∀ (s : State) (p k : Nat), s.Inv → Tab.find? s.orch.counters k = none ∨ Tab.find? s.orch.counters k = some 0 →
    (s.decrement p k).orch.tasks = s.orch.tasks ∧ (s.decrement p k).orch.counters = s.orch.counters ∧
    (s.decrement p k).evt.queue ++ (s.decrement p k).evt.stalled = s.evt.queue ++ s.evt.stalled ++ [⟨0x0703, 0xFF, 0, k, p, 0⟩] ∧
    (s.decrement p k).obj 0x4B00 6 = min 0xFFFFFFFF (s.obj 0x4B00 6 + 1) ∧
    (s.decrement p k).chans = s.chans ∧ (s.decrement p k).mem = s.mem

/-- R235, R240, R246, R247, R250: the frame of a port that leaves next is the one that can start first, then by its queue, the
highest first, then by wheel slot, rank and index. A frame starts only where its gate is open long enough for it. At its start
a paced packet leaves its wheel and goes out with the addresses of the entry it was formed for, the wire is taken for its time,
and it is counted; one whose AU or entry may not be sent is dropped; with the port down or the next hop unknown it is dropped
and counted. A packet of a timed stream is formed as it starts, and its sequence number moves on; a frame of the queues beside
the wheel leaves its queue, with its timestamp where it is an event message (R269). -/
def Obligations.PacketsDepartInOrder : Prop :=
  (∀ (l : List Cand) (x : Cand), firstCandidate l = some x → x ∈ l ∧ ∀ y ∈ l, lexLt y.order x.order = false) ∧
  (∀ (spans : List Tick) (width dur : Tick) (fuel : Nat) (t : Tick), t ≤ displace spans width dur fuel t) ∧
  (∀ (s : State) (p q fuel : Nat) (dur t u : Tick), s.gateStart p q dur fuel t = some u →
    t ≤ u ∧ ∀ d, s.gateFor p q true u = some d → d ≠ 0 ∧ dur ≤ d) ∧
  (∀ (s : State) (p : Nat), s.live = true → s.begun.candidates p = [] → Answers (.packetDeparture p) s s.begun.retireAll) ∧
  (∀ (s u v : State) (p q j i : Nat) (t due : Tick) (x : WheelItem), s.live = true →
    firstCandidate (s.begun.candidates p) = some ⟨t, q, due, j, i, .paced x⟩ → u = s.begun.until t →
    v = { u with egress := { u.egress with wheel := u.egress.wheel.erase x } } →
    (∀ a, (v.chan x.chan).au? x.slot = some a → v.auMay a t = true → x.bad = false → v.holed false x.dest.d = false →
      v.selected x.dest = true →
      (∀ m, v.portUp x.dest.port = true → v.destMac x.dest = some m →
        Answers (.packetDeparture p) s
          (((v.say (.packet x.dest.port t (v.egressHdr x.dest x.mark m) x.rtp)).holdWire p
            (t + wireTime x.rtp.length x.dest.vlan (v.portRate p))).countSent x.dest.stream x.slot x.i x.last).retireAll) ∧
      (v.portUp x.dest.port = false → Answers (.packetDeparture p) s
        ((v.count 0x4401 (x.dest.port + 1)).say (.dropped x.dest.port x.dest.d)).retireAll) ∧
      (v.portUp x.dest.port = true → v.destMac x.dest = none → Answers (.packetDeparture p) s
        ((v.count 0x4401 (x.dest.port + 9)).say (.dropped x.dest.port x.dest.d)).retireAll)) ∧
    (x.bad = true ∨ v.holed false x.dest.d = true ∨ v.selected x.dest = false ∨
        (∀ a, (v.chan x.chan).au? x.slot = some a → v.auMay a t = false) →
      Answers (.packetDeparture p) s (v.say (.dropped x.dest.port x.dest.d)).retireAll)) ∧
  (∀ (s u v o w : State) (p q j i mac : Nat) (t due : Tick) (x : TimedNext) (pk : List Byte), s.live = true →
    firstCandidate (s.begun.candidates p) = some ⟨t, q, due, j, i, .timed x⟩ → u = s.begun.until t →
    v = { u with egress := { u.egress with timed := Tab.put u.egress.timed (timedKey x.dest) (x.m + 1) } } →
    o = v.atInstant x.from_ → v.holed false x.dest.d = false → v.selected x.dest = true → v.portUp x.dest.port = true →
    v.destMac x.dest = some mac →
    (o.str x.dest.stream 2 = 2 ∧ v.timedMay 2 (usT (x.m * o.packetUs x.dest.stream)) t = true ∧
        pk = v.audioPacket o x.dest.stream x.m) ∨
      (o.str x.dest.stream 2 = 3 ∧ v.timedMay 3 x.t t = true ∧ v.rasterPacket o x.dest.stream x.m = (pk, false)) →
    w = (v.say (.packet x.dest.port t (v.egressHdr x.dest (o.streamMark x.dest.stream) mac) pk)).setObj
      (0x2500 + x.dest.stream) 0x1C (((x.m + 1) % 0x10000 : Nat) : Int) →
    Answers (.packetDeparture p) s
      ((w.holdWire p (t + wireTime pk.length x.dest.vlan (w.portRate p))).countSent x.dest.stream 0 x.m false).retireAll) ∧
  (∀ (s u v : State) (p q j i : Nat) (t due : Tick) (x : QueuedFrame), s.live = true →
    firstCandidate (s.begun.candidates p) = some ⟨t, q, due, j, i, .frame x⟩ → u = s.begun.until t →
    v = { u with queues := u.queues.erase x } →
    (v.portUp p = false → Answers (.packetDeparture p) s v.retireAll) ∧
    (v.portUp p = true → Answers (.packetDeparture p) s
      (((v.stamped t x.out).1.say (v.stamped t x.out).2).holdWire p (t + onWire x.wire (v.portRate p))).retireAll))

/-! ### Pair and cascade -/

/-- R163, R165, R171, R179: a record on the mirror link leaves its inbox; in a unit without a pair it does nothing else;
one whose type, version, length or CRC does not stand is counted; one that stands is counted and taken: bands, decisions
and AUs are kept beside the unit's own and compared, but an AU record that comes after its gate (R167), a request is kept by
the active unit and ends a resync that it says has failed, a resync record and a yield are taken by the standby, which from
the AU named on sends as the active. -/
def Obligations.MirrorRecordsAreTaken : Prop :=
  (∀ (s u : State) (rec : List Byte), s.live = true → u = s.begun.takeMessage 2 0 rec → u.paired = false →
    Answers (.pairHeartbeat rec) s u ∧ Answers (.bandRecord rec) s u ∧ Answers (.resyncRequest rec) s u ∧
    Answers (.yield rec) s u) ∧
  (∀ (s u : State) (rec : List Byte), s.live = true → (s.begun.takeMessage 2 0 rec).paired = true →
    u = (s.begun.takeMessage 2 0 rec).trailer rec →
    (recOk 1 rec = false → Answers (.pairHeartbeat rec) s (u.count 0x4200 3)) ∧
    (recOk 2 rec = false → Answers (.bandRecord rec) s (u.count 0x4200 3)) ∧
    (recOk 3 rec = false → Answers (.decisionRecord rec) s (State.follow s.begun ((u.count 0x4200 3).pulse 26 none))) ∧
    (recOk 4 rec = false → Answers (.auRecord rec) s (State.follow s.begun ((u.count 0x4200 3).pulse 26 none))) ∧
    (recOk 5 rec = false → Answers (.resyncRequest rec) s (u.count 0x4200 3)) ∧
    (recOk 6 rec = false → Answers (.resyncRecord rec) s (State.follow s.begun ((u.count 0x4200 3).pulse 26 none))) ∧
    (recOk 7 rec = false → Answers (.yield rec) s (u.count 0x4200 3))) ∧
  (∀ (s u w : State) (rec : List Byte) (c n : Nat), s.live = true → (s.begun.takeMessage 2 0 rec).paired = true →
    u = (s.begun.takeMessage 2 0 rec).trailer rec → w = u.count 0x4200 2 → (c, n) = w.recChan rec →
    (recOk 1 rec = true → Answers (.pairHeartbeat rec) s (w.hearHeartbeat rec false)) ∧
    (recOk 2 rec = true → (w.chan c).running = true → Answers (.bandRecord rec) s ((w.onPc c fun p => { p with
      hisBands := Tab.put (p.hisBands.filter fun y => decide (groupKey n 0 ≤ y.1 + 16 * 256)) (groupKey n (field rec 8 2 / 16))
        rec }).compareBands c n (field rec 8 2 / 16))) ∧
    (recOk 3 rec = true → (w.chan c).running = true → Answers (.decisionRecord rec) s (State.follow s.begun
      ((((w.onRec c n fun q => { q with hisDec := some rec }).compareDec c n).resumeDeferred c n).pulse 26 none))) ∧
    (recOk 4 rec = true → (w.chan c).running = true → w.isStandby = false → Answers (.auRecord rec) s (State.follow s.begun
      (((((w.onRec c n fun q => { q with hisAu := some rec }).adoptAlphas c n).adoptNumbers c n).compareAu c n).pulse 26
        none))) ∧
    (recOk 4 rec = true → (w.chan c).running = true → w.isStandby = true →
      ∀ a x, (w.chan c).au? n = some a → x = w.lowerTo (expert c 0xB) 2 (((a.gateAt : Int) - w.now) / 65536) →
        (a.gateAt < w.now → Answers (.auRecord rec) s (State.follow s.begun (x.pulse 26 none))) ∧
        (w.now ≤ a.gateAt → Answers (.auRecord rec) s (State.follow s.begun
          (((((x.onRec c n fun q => { q with hisAu := some rec }).adoptAlphas c n).adoptNumbers c n).compareAu c n).pulse 26
            none)))) ∧
    (recOk 5 rec = true → w.isActive = true → Answers (.resyncRequest rec) s (w.onPc c fun p => { p with
      asked := some ((field rec 16 1).testBit 0, field rec 8 4, field rec 12 4)
      resyncAt := p.resyncAt.filter fun m => decide (n < m) })) ∧
    (recOk 6 rec = true → w.isStandby = true → Answers (.resyncRecord rec) s (State.follow s.begun
      (((w.onRec c n fun q => { q with resync := some rec }).resumeDeferred c n).pulse 26 none))) ∧
    (recOk 7 rec = true → w.isStandby = true → Completes (.yield rec) s fun t => t.nat 0x2200 3 = w.promote.nat 0x2200 3 ∧
      t.pair = { w.promote.pair with swapped := some (w.promote.yieldAt w.canvasChan
        (nearSlot (w.chan w.canvasChan).upcoming (field rec 8 4)), true) } ∧ t.evt = w.promote.evt ∧
      ∀ d, (t.chan d).aus.length = (w.promote.chan d).aus.length)) ∧
  (∀ a : List Byte, auCause a a = none)

/-- R167: at its gate the standby releases an AU whose record and the active's agree, or, the active lost, one whose record
did not come; it discards one that differs, one that no record vouches for, and every AU of a channel not in sync, and
counts the discard. A resync whose AU has come to its gate undecided has failed (R171). R162, R172, R173, R175, R178: a paired unit sends its
heartbeat every 50 µs, on the mirror link and, where the partner's address is set, into the queue of a port; after listening
for 1 ms it takes its preferred active role, or promotes; a standby that hears nothing of the active for 150 µs promotes; a
cascade member does what its master does; the mirror
route silent while the other is heard is counted and raised, and diverges a standby; a promotion ends with the streams
unmuted at the next wheel slot. -/
def Obligations.TheSendGateFollowsTheRole : Prop :=
  (∀ (s v u : State) (c n : Nat) (a : Au), s.live = true → (s.begun.chan c).au? n = some a → s.begun.paired = true →
    a.gated = true → a.gate = none → a.complete.isSome = true → v = s.begun.until a.gateAt →
    u = (if (v.pc c).resyncAt = some n then v.resyncFails c else v) →
    (u.chanSync c = false ∨ n < (u.pc c).syncFrom → Answers (.sendGate c n) s
      ((u.onAu c n fun a => { a with gate := some false }).count (basic c 0xB) 2)) ∧
    (u.chanSync c = true → (u.pc c).syncFrom ≤ n →
      (∀ x y, ((u.pc c).rec_ n).ownAu = some x → ((u.pc c).rec_ n).hisAu = some y →
        (auCause x y = none → Answers (.sendGate c n) s (u.onAu c n fun a => { a with gate := some true })) ∧
        ∀ k, auCause x y = some k → Answers (.sendGate c n) s
          (((u.onAu c n fun a => { a with gate := some false }).count (basic c 0xB) 2).diverge c n k a.poc)) ∧
      (((u.pc c).rec_ n).hisAu = none → u.pairState = 5 →
        Answers (.sendGate c n) s (u.onAu c n fun a => { a with gate := some true })) ∧
      (((u.pc c).rec_ n).hisAu = none → u.pairState ≠ 5 → Answers (.sendGate c n) s
        (((u.onAu c n fun a => { a with gate := some false }).count (basic c 0xB) 2).count (basic c 0xB) 8)))) ∧
  (∀ (s : State) (c n : Nat), s.live = true → (s.begun.chan c).au? n = none ∨ s.begun.paired = false →
    IsLost (.sendGate c n) s) ∧
  (∀ (s u v w : State) (raw tag : List Byte), s.live = true → s.begun.paired = true →
    u = s.begun.until ((s.pair.hbLast.map (usT 50 + ·)).getD 0) →
    v = u.onPair (fun p => { p with hbSeq := (p.hbSeq + 1) % 0x100000000, hbLast := some u.now }) →
    w = v.mirror v.heartbeatRec → raw = exferBytes 0x32 flagAuth (w.nat 0x1FF1 3) 0 0 0xFF v.heartbeatRec →
    tag = w.pairTag (Config.serial % 0x100000000) raw →
    (w.nat 0x2200 8 = 0 ∨ w.heartbeatPort = none → Answers .pairHeartbeatSend s w) ∧
    ∀ p, w.nat 0x2200 8 ≠ 0 → w.heartbeatPort = some p → Answers .pairHeartbeatSend s
      (w.manage p (28 + raw.length + tag.length) (.heartbeat (w.nat 0x2200 8) raw tag))) ∧
  (∀ (s u : State) (t : Tick), s.live = true → s.pair.listen = some t →
    u = (s.begun.until t).onPair (fun p => { p with listen := none }) →
    (u.follower = true → Answers .roleListenExpiry s u) ∧
    (u.follower = false → u.nat 0x2200 2 = 1 → Answers .roleListenExpiry s u.takeActive) ∧
    (u.follower = false → u.nat 0x2200 2 ≠ 1 → Answers .roleListenExpiry s u.promote)) ∧
  (∀ (s u : State), s.live = true → s.begun.paired = true → s.pair.listen = none → s.begun.pairState ≠ 5 →
    u = (s.begun.until (usT 150 + s.pair.heard)).setObj 0x2200 9 5 →
    (u.isStandby = true → u.follower = false → Answers .activeLost s u.promote) ∧
    (u.isStandby = false ∨ u.follower = true → Answers .activeLost s u)) ∧
  (∀ (s u v : State) (t : Tick), s.live = true → s.begun.paired = true → s.pair.listen = none → s.pair.lastNet = some t →
    s.begun.pairState ≠ 4 → s.begun.pairState ≠ 5 → u = s.begun.until (usT 150 + max s.pair.since (s.pair.lastMirror.getD 0)) →
    u.now ≤ usT 150 + t → v = ((u.count 0x2200 0x10).raiseUnit 0x0204).setObj 0x2200 9 4 →
    (v.isStandby = true → Answers .mirrorLinkLost s (v.divergeAll 6)) ∧ (v.isStandby = false → Answers .mirrorLinkLost s v)) ∧
  (∀ (s : State) (t : Tick), s.live = true → s.pair.promoting = some t → Answers .promotionComplete s
    (s.begun.onPair fun p => { p with promoting := none, unmuteAt := nsT 64 * (s.begun.now / nsT 64 + 1) })) ∧
  (∀ s : State, s.live = true → s.begun.paired = false → s.pair.listen = none → s.pair.promoting = none →
    IsLost .pairHeartbeatSend s ∧ IsLost .roleListenExpiry s ∧ IsLost .activeLost s ∧ IsLost .promotionComplete s ∧
    IsLost .mirrorLinkLost s)

/-- R184, R202, R205, R310: a unit of a cascade sends its heartbeat every 50 µs, and counts whom it hears as present; the
cascade has formed once every member is. A member silent for 150 µs, since its last heartbeat or since the cascade was enabled,
is no longer present at the master, and lost; a member that misses its master so long
mutes its outputs and says so. A loss notice names the lost members; a message whose trailer fails is only counted. -/
def Obligations.CascadeMembersAreHeardAndLost : Prop :=
  (∀ (s u : State) (body : List Byte), s.live = true → s.begun.inCascade = true →
    u = (s.begun.until ((s.casc.hbLast.map (usT 50 + ·)).getD 0)).onCasc (fun x => { x with
      hbLast := some (s.begun.until ((s.casc.hbLast.map (usT 50 + ·)).getD 0)).now }) →
    body = beBytes 4 u.now32 ++ beBytes 1 (u.nat 0x2300 9) ++ beBytes 1 (u.nat 0x2300 8) ++ zeros 2 →
    (u.isMaster = true → Answers .cascadeHeartbeatSend s (u.others.foldl (fun s q => s.sendTo q 0x10 0xFF 0 body) u)) ∧
    (u.isMaster = false → Answers .cascadeHeartbeatSend s (u.sendTo 0 0x10 0xFF 0 body))) ∧
  (∀ (s u : State) (msg : List Byte), s.live = true → u = (s.begun.takeCasc 0x10 msg).1 →
    (s.begun.takeCasc 0x10 msg).2 = true →
    (u.isMaster = true → msgFrom msg ≠ u.pos → msgFrom msg < u.members → u.nat 0x2300 8 ≠ 1 → u.Inv →
      Completes (.cascadeHeartbeat msg) s fun t => Tab.find? t.casc.heard (msgFrom msg) = some u.now ∧
        t.nat 0x2300 9 = setBit (u.nat 0x2300 9) (msgFrom msg) true ∧ t.evt = u.evt) ∧
    (u.isMaster = false → u.pos ≠ 0 → msgFrom msg = 0 → 0 < u.members → u.nat 0x2300 8 ≠ 1 →
      Answers (.cascadeHeartbeat msg) s ((u.onCasc fun x => { x with heard := Tab.put x.heard 0 u.now }).setObj 0x2300 9
        ((setBit (u.nat 0x2300 9) 0 true : Nat) : Int)))) ∧
  (∀ (s : State) (type_ : Nat) (msg : List Byte), s.inCascade = true →
    (s.takeCasc type_ msg).2 = recOk type_ msg ∧ ∃ k, (k = 0 ∨ k = 1) ∧
      (s.takeCasc type_ msg).1 = if recOk type_ msg then (s.takeMessage k 1 msg).trailer msg
        else ((s.takeMessage k 1 msg).trailer msg).count 0x4300 4) ∧
  (∀ (s u : State) (p : Nat) (t : Tick), s.live = true → s.begun.isMaster = true → p ≠ 0 → p < s.begun.members →
    t = s.begun.heardAt p → u = s.begun.until (usT 150 + t) →
    Answers (.memberLost p) s (((u.setObj 0x2300 9 ((setBit (u.nat 0x2300 9) p false : Nat) : Int)).declareLost p 0).relayReview)) ∧
  (∀ (s : State) (p : Nat), s.live = true → s.begun.isMaster = false ∨ p = 0 ∨ s.begun.members ≤ p → s.commit.relay = none →
    IsLost (.memberLost p) s) ∧
  (∀ (s u w : State) (t : Tick), s.live = true → s.begun.inCascade = true → s.begun.isMaster = false →
    s.casc.masterLost = false → t = s.begun.heardAt 0 →
    u = { (s.begun.until (usT 150 + t)).onCasc (fun x => { x with masterLost := true }) with
      audio := { s.audio with muted := true } } →
    w = s.audio.ports.foldl (fun (v : State) q =>
      if v.ap q.1 1 = 2 ∧ q.2.running then v.setObj (0x2900 + q.1) 0xB 5 else v) u →
    Answers .masterLost s (((w.setObj 0x2300 9 ((setBit (w.nat 0x2300 9) 0 false : Nat) : Int)).setObj 0x2300 8
      5).raiseUnit 0x0305)) ∧
  (∀ s : State, s.live = true → s.casc.masterLost = true → IsLost .masterLost s) ∧
  (∀ (s u : State) (msg : List Byte), s.live = true → u = (s.begun.takeCasc 0x1A msg).1 →
    (s.begun.takeCasc 0x1A msg).2 = true → u.isMaster = false → msgFrom msg = 0 → field msg 9 1 ≠ 3 →
    Answers (.lossNotice msg) s ((u.onCasc fun x => { x with lost := field msg 8 1 }).settleBands)) ∧
  (∀ (s u : State) (p cause : Nat), s.casc.lost.testBit p = false → u = s.declareLost p cause →
    u.casc.lost.testBit p = true ∧ u.power = s.power ∧ u.mem = s.mem)

/-- R191-R193: the master keeps a member's frame report and AU report of a slot, and a row record of a region that the
member owns, which it acknowledges; a member opens the AU that a canvas decision names, and exports the rows that are
acknowledged. A report close decides without the members whose reports are absent, and counts them. R194, R196-R200: a band
segment whose check value fits is kept once; one that does not is counted as a mismatch and asked for again once, and
failing again poisons its picture. An exporter sends a segment again while it holds the picture. At its band close a row
whose bands are still missing is clamped; at the merge close every member whose regions are not all held is lost. -/
def Obligations.CanvasRowsAndBandsAreExchanged : Prop :=
  (∀ (s u : State) (msg : List Byte), s.live = true → u = (s.begun.takeCasc 0x11 msg).1 →
    (s.begun.takeCasc 0x11 msg).2 = true → u.isMaster = true → msgFrom msg ≠ 0 → msgFrom msg < u.members →
    Answers (.frameReport msg) s ((((((u.holdReport (msgFrom msg) (u.msgSlot msg) msg).setStatus (msgFrom msg)
      (u.nat 0x2301 (msgFrom msg + 1)) (field msg 8 4)).checkSurvey (u.msgSlot msg) (field msg 8 4)).checkReports
        (u.msgSlot msg)).pulse 26 none).relayReview)) ∧
  (∀ (s u : State) (n mask : Nat), s.live = true → s.begun.isMaster = true → s.begun.canvasOn = true →
    (s.begun.chan s.begun.canvasChan).inSlot n = true → (s.begun.chan s.begun.canvasChan).upcoming = n →
    Tab.find? s.casc.closed n = none →
    mask = s.begun.absentReports (basisSlot ((s.begun.forSlot s.begun.canvasChan n).ch s.begun.canvasChan 1 1) n) → mask ≠ 0 →
    u = (s.begun.until (s.begun.reportCloseAt s.begun.canvasChan n)).onCasc (fun x => { x with
      closed := Tab.put x.closed n mask }) →
    Answers (.reportClose n) s (((((u.count 0x4300 3 (popCount 8 mask)).pictureDecision s.begun.canvasChan).settleBands).pulse
      26 none).relayReview)) ∧
  (∀ (s u v : State) (msg : List Byte) (c n : Nat), s.live = true → u = (s.begun.takeCasc 0x12 msg).1 →
    (s.begun.takeCasc 0x12 msg).2 = true → u.isMaster = false → u.canvasOn = true → c = u.canvasChan → n = u.msgSlot msg →
    (u.chan c).inSlot n = true → (u.chan c).upcoming ≤ n → msgFrom msg = 0 →
    v = u.onCasc (fun x => { x with lost := field msg 36 1 }) →
    (v.casc.lost.testBit v.pos = false → Answers (.canvasDecision msg) s (State.follow s.begun
      (((v.openCanvasAu c n msg).decisionSent c n none).settleBands))) ∧
    (v.casc.lost.testBit v.pos = true → Answers (.canvasDecision msg) s (State.follow s.begun v))) ∧
  (∀ (s u : State) (msg : List Byte), s.live = true → u = (s.begun.takeCasc 0x13 msg).1 →
    (s.begun.takeCasc 0x13 msg).2 = true → u.isMaster = true → u.ownerOf (field msg 12 1) = msgFrom msg →
    field msg 12 1 < u.gratRegions →
    Answers (.rowRecord msg) s ((u.holdRow u.canvasChan (u.msgSlot msg) (field msg 8 4) (field msg 12 1) (field msg 14 2)
      (slice msg 32 (field msg 20 4)) (slice msg (32 + up4 (field msg 20 4)) (field msg 24 4))
      (slice msg (32 + up4 (field msg 20 4) + up4 (field msg 24 4)) (field msg 28 2))).pulse 26 none)) ∧
  (∀ (s u : State) (msg : List Byte) (k : Nat), s.live = true → u = (s.begun.takeCasc 0x14 msg).1 →
    (s.begun.takeCasc 0x14 msg).2 = true → u.isMaster = false → msgFrom msg = 0 → u.ownerOf (field msg 12 1) = u.pos →
    k = posKey (u.msgSlot msg) (field msg 12 1) →
    Answers (.rowAcknowledgement msg) s ((u.onCasc fun x => { x with
      acked := Tab.put (x.acked.filter fun p => decide (posKey (u.msgSlot msg) 0 ≤ p.1 + 64 * 64)) k
        (max (Tab.get 0 x.acked k) (field msg 14 2)) }).exportRows u.canvasChan (u.msgSlot msg))) ∧
  (∀ (s u : State) (msg : List Byte), s.live = true → u = (s.begun.takeCasc 0x15 msg).1 →
    (s.begun.takeCasc 0x15 msg).2 = true → u.isMaster = true → msgFrom msg ≠ 0 → msgFrom msg < u.members →
    Answers (.auReport msg) s ((u.holdAuReport (msgFrom msg) (u.msgSlot msg) msg).pulse 26 none)) ∧
  (∀ (s : State) (c n poc i r : Nat) (sub cont context : List Byte), (s.region n i).completed = false →
    r ≠ (s.region n i).rows.length → s.holdRow c n poc i r sub cont context = s) ∧
  (∀ (s u v : State) (msg data : List Byte) (k : SegKey), s.live = true → u = (s.begun.takeCasc 0x16 msg).1 →
    (s.begun.takeCasc 0x16 msg).2 = true → u.canvasOn = true → k = ⟨u.msgSlot msg, field msg 12 1, field msg 14 2⟩ →
    u.hasSegment k = false → u.casc.failed.contains k = false → data = slice msg 28 (msg.length - 32) →
    v = u.checkValue 4 u.canvasChan k.slot (field msg 24 4) (foldedCrc 4 u.canvasChan k.region k.row (k.slot % 0x100000000) data) →
    (field msg 24 4 = foldedCrc 4 u.canvasChan k.region k.row (k.slot % 0x100000000) data →
      Answers (.bandSegment msg) s ((((v.onCasc fun x => { x with
        segments := x.segments ++ [⟨k.slot, k.region, k.row, field msg 16 2, field msg 18 2, field msg 20 2, field msg 22 2,
          data⟩] }).trimSegments u.canvasChan k.slot).settleBands).pulse 26 none)) ∧
    (field msg 24 4 ≠ foldedCrc 4 u.canvasChan k.region k.row (k.slot % 0x100000000) data →
      u.casc.retried.contains k = false → u.casc.lost.testBit (u.ownerOf k.region) = true →
      Answers (.bandSegment msg) s (v.pulse 26 none)) ∧
    (field msg 24 4 ≠ foldedCrc 4 u.canvasChan k.region k.row (k.slot % 0x100000000) data →
      u.casc.retried.contains k = true →
      ∀ w, w = ((v.onCasc fun x => { x with failed := k :: x.failed }).count 0x4300 2) → ∀ b, (w.chan u.canvasChan).bufOf k.slot = some b →
        Answers (.bandSegment msg) s ((w.poisonBuf u.canvasChan b k.slot).pulse 26 none))) ∧
  (∀ (s u : State) (msg : List Byte) (k : SegKey), s.live = true → u = (s.begun.takeCasc 0x16 msg).1 →
    (s.begun.takeCasc 0x16 msg).2 = true → k = ⟨u.msgSlot msg, field msg 12 1, field msg 14 2⟩ →
    u.hasSegment k = true ∨ u.casc.failed.contains k = true →
    Answers (.bandSegment msg) s (u.pulse 26 none)) ∧
  (∀ (s u : State) (msg : List Byte) (c n b : Nat), s.live = true → u = (s.begun.takeCasc 0x17 msg).1 →
    (s.begun.takeCasc 0x17 msg).2 = true → u.canvasOn = true → u.ownerOf (field msg 12 1) = u.pos → c = u.canvasChan →
    n = u.msgSlot msg → (u.chan c).bufOf n = some b → u.casc.exported.contains ⟨n, field msg 12 1, field msg 14 2⟩ = true →
    Answers (.bandRetryRequest msg) s (u.sendSegment c n (field msg 12 1) (field msg 14 2) (msgFrom msg)
      ((u.forSlot c n).auCfg c) (field msg 8 4) b)) ∧
  (∀ (s u : State) (c n r : Nat) (a : Au), s.live = true → s.begun.canvasOn = true → c = s.begun.canvasChan →
    (s.begun.chan c).au? n = some a → a.replaced = false → r < a.cfg.rows → Tab.find? s.casc.presence (rowKey n r) = none →
    u = s.begun.until (a.bandCloseAt r) →
    Answers (.bandClose n r) s ((u.decideBands c a r false).pulse 26 none)) ∧
  (∀ (s u : State) (c n : Nat) (a : Au), s.live = true → s.begun.isMaster = true → s.begun.canvasOn = true →
    c = s.begun.canvasChan → (s.begun.chan c).au? n = some a → a.complete = none → a.replaced = false →
    u = s.begun.until (a.cfg.rescueAt n - usT 100) →
    Answers (.mergeClose n) s (State.relayReview (u.others.foldl (fun s q =>
      if s.casc.lost.testBit q ∨ a.lostMask.testBit q ∨ (s.regionsOf q).all (s.regionFull a) then s else s.declareLost q 1) u)))

/-- R206: a member judges a relayed commit as its own and votes; it keeps a commit that it accepts as pending. The master
counts the votes: the last missing one passes the commit, a rejection fails it with its code and withdraws it. -/
def Obligations.RelayedCommitsAreVotedOn : Prop :=
  (∀ (s u : State) (msg : List Byte) (ident target epoch : Nat) (ws : List HostWrite), s.live = true →
    u = (s.begun.takeCasc 0x18 msg).1 → (s.begun.takeCasc 0x18 msg).2 = true → u.isMaster = false → msgFrom msg = 0 →
    readRecord (slice msg 8 (msg.length - 12)) = some (ident, target, epoch, ws) →
    firstCode [u.recordCode ws, u.judgeCommit ws target] = 0 →
    Answers (.relayedCommit msg) s (((u.enrol none ident target epoch ws true).accepted).sendTo 0 0x19 0xFF 0
      (beBytes 4 ident ++ beBytes 1 0 ++ zeros 3 ++ beBytes 4 0))) ∧
  (∀ (s u : State) (msg : List Byte) (ident target epoch code : Nat) (ws : List HostWrite), s.live = true →
    u = (s.begun.takeCasc 0x18 msg).1 → (s.begun.takeCasc 0x18 msg).2 = true → u.isMaster = false → msgFrom msg = 0 →
    readRecord (slice msg 8 (msg.length - 12)) = some (ident, target, epoch, ws) →
    code = firstCode [u.recordCode ws, u.judgeCommit ws target] → code ≠ 0 →
    Answers (.relayedCommit msg) s (u.sendTo 0 0x19 0xFF 0 (beBytes 4 ident ++ beBytes 1 1 ++ zeros 3 ++ beBytes 4 code))) ∧
  (∀ (s u : State) (msg : List Byte) (r : RelayedCommit), s.live = true → u = (s.begun.takeCasc 0x19 msg).1 →
    (s.begun.takeCasc 0x19 msg).2 = true → u.commit.relay = some r → field msg 8 4 = r.ident →
    r.waiting.contains (msgFrom msg) = true →
    (field msg 12 1 % 2 = 1 → Answers (.commitVote msg) s (u.relayFails (field msg 16 4))) ∧
    (field msg 12 1 % 2 = 0 → (r.waiting.filter (· != msgFrom msg)) ≠ [] → Answers (.commitVote msg) s
      (u.onCommit fun x => { x with relay := some { r with waiting := r.waiting.filter (· != msgFrom msg) } })) ∧
    (field msg 12 1 % 2 = 0 → (r.waiting.filter (· != msgFrom msg)) = [] → Answers (.commitVote msg) s
      (State.relayPasses (u.onCommit fun x => { x with relay := some { r with waiting := [] } })))) ∧
  (∀ (s u : State) (msg : List Byte), s.live = true → u = (s.begun.takeCasc 0x19 msg).1 → u.commit.relay = none →
    Answers (.commitVote msg) s u) ∧
  (∀ (s : State) (code : Nat) (r : RelayedCommit), s.commit.relay = some r → (s.relayFails code).commit.relay = none ∧
    (∀ p ∈ (s.relayFails code).commit.pending, p.relayed = false) ∧ (s.relayFails code).dict = s.dict)

/-- R286, R294-R296: a link goes through its bring-up in order: signal wait to equalise and lock when every lane's clock is
recovered; each lane's peaking code is frozen once; training starts when every lane shows eight sets, turns the polarity of
inverted lanes, and ends with the lane map; deskew ends within 32 characters; eight sets of the last state on every lane
bring it Up. Each state has its time limit; a training set in Up means that the partner has restarted. R258, R284,
R291-R293, R296: in Up a skip character is deleted or added where every lane stands more than 8 characters off; a good
frame in its place joins the message of its rank, the last fragment ends it; a bad one is counted on the link and for its
kind of link, and its message is discarded. A whole cascade message goes on where it is for another position (R183), and a pair relay
takes effect (R178). A link that goes down, a lane that is trained anew or whose PLL loses lock takes with
it what runs on it. R284: a write of 1 to a lane's retrain object takes down the port and the device links whose lanes it
is one of; any other value changes nothing. -/
def Obligations.LinksComeUpAndCarryFrames : Prop :=
  (∀ (s : State) (k : Nat) (lanes : List Nat), s.live = true → s.begun.lk k 1 = 1 →
    (∀ l ∈ (s.begun.link k).lanes, l ∈ lanes) → Answers (.cdrLock k lanes) s
      (State.enterLink ((s.begun.link k).lanes.foldl (fun s l => (s.lockLanePll (l / 4)).setObj (0x2800 + l) 9 2) s.begun)
        k 2)) ∧
  (∀ (s : State) (k : Nat) (lanes : List Nat), s.live = true → s.begun.lk k 1 ≠ 1 → IsLost (.cdrLock k lanes) s) ∧
  (∀ (s : State) (k : Nat) (openings : List (List Nat)), s.live = true →
    (s.begun.lk k 1 = 2 → (s.begun.link k).adapted = false →
      Answers (.equaliserAdaptation k openings) s
        (((s.begun.link k).lanes.zipIdx.foldl (fun (s : State) p => s.setObj (0x2800 + p.1) 2
          ((s.peaking p.1 (openings.getD p.2 []) : Nat) : Int)) s.begun).setLink k { s.begun.link k with adapted := true })) ∧
    (s.begun.lk k 1 ≠ 2 ∨ (s.begun.link k).adapted = true → IsLost (.equaliserAdaptation k openings) s)) ∧
  (∀ (s : State) (k : Nat) (sets l : List TrainingLane), s.live = true → allSets (s.begun.link k).lanes sets = some l →
    (s.begun.lk k 1 = 2 → (s.begun.link k).adapted = true → (∀ t ∈ l, 8 ≤ t.run) → Answers (.trainingSet k sets) s
      ((s.begun.laneStates (s.begun.link k).lanes 3).enterLink k 3)) ∧
    (s.begun.lk k 1 = 3 → (∀ t ∈ l, t.inverted = false ∧ 16 ≤ t.run) → trainingOk k l.length l = true →
      Answers (.trainingSet k sets) s ((((s.begun.setObj (0x2810 + k) 3 ((laneMap l : Nat) : Int)).setObj (0x2810 + k) 6
        ((((l.head?.map (·.kind)).getD 0 : Nat) : Int))).setObj (0x2810 + k) 7
          ((((l.head?.map (·.position)).getD 0 : Nat) : Int))).enterLink k 4)) ∧
    (s.begun.lk k 1 = 5 → (∀ t ∈ l, t.state = 5 ∧ 8 ≤ t.run) → Answers (.trainingSet k sets) s
      (State.enterLink ((s.begun.link k).lanes.foldl (fun s l => s.count (0x2800 + l) 0xE)
        (((s.begun.until ((s.begun.link k).since + charTime (s.begun.link k).rate 128)).laneStates (s.begun.link k).lanes
          4).count (0x2810 + k) 0xC)) k 6))) ∧
  (∀ (s : State) (k : Nat) (sets : List TrainingLane), s.live = true → s.begun.lk k 1 = 6 →
    (sets ≠ [] → Answers (.trainingSet k sets) s (s.begun.dropLink k)) ∧ (sets = [] → IsLost (.trainingSet k sets) s)) ∧
  (∀ (s : State) (k skew : Nat) (seen : List Nat) (occupancy : List Int), s.live = true → s.begun.lk k 1 = 4 →
    ((∀ l ∈ (s.begun.link k).lanes, l ∈ seen) → skew ≤ 32 → Answers (.compensationSequence k seen occupancy skew) s
      ((s.begun.setObj (0x2810 + k) 5 skew).enterLink k 5)) ∧
    (32 < skew → IsLost (.compensationSequence k seen occupancy skew) s)) ∧
  (∀ (s : State) (k : Nat) (d : Tick), s.live = true → stateLimit (s.begun.lk k 1) = some d →
    Answers (.linkStateTimeout k) s
      (((s.begun.until ((s.begun.link k).since + d)).count (0x2810 + k) 0xD).restartLink k)) ∧
  (∀ (s : State) (k : Nat), s.live = true → stateLimit (s.begun.lk k 1) = none → IsLost (.linkStateTimeout k) s) ∧
  (∀ (s : State) (k skew : Nat) (seen : List Nat) (occupancy : List Int), s.live = true → s.begun.lk k 1 = 6 →
    occupancy.length = (s.begun.link k).lanes.length → occupancy ≠ [] →
    ((∀ o ∈ occupancy, 8 < o) → Answers (.compensationSequence k seen occupancy skew) s
      ((s.begun.count (0x2810 + k) 0xA).say (.skip k true))) ∧
    ((∀ o ∈ occupancy, o < -8) → Answers (.compensationSequence k seen occupancy skew) s
      ((s.begun.count (0x2810 + k) 0xB).say (.skip k false))) ∧
    ((∃ o ∈ occupancy, o ≤ 8) → (∃ o ∈ occupancy, -8 ≤ o) → IsLost (.compensationSequence k seen occupancy skew) s)) ∧
  (∀ (s : State) (x : LinkFrameIn), s.live = true → s.begun.linkUp x.link = false → IsLost (.linkFrame x) s) ∧
  (∀ (s u : State) (x : LinkFrameIn), s.live = true → s.begun.linkUp x.link = true → u = s.begun.linkFrame x →
    Answers (.linkFrame x) s (State.passOn s.begun u x.link).takeRelays ∧
    (2 ≤ x.link ∨ u.inCascade = false → State.passOn s.begun u x.link = u) ∧
    ((u.link 0).inbox.all (fun m => m.1 != 1 || field m.2 0 1 != 0x1B) = true →
      (u.link 1).inbox.all (fun m => m.1 != 1 || field m.2 0 1 != 0x1B) = true → u.takeRelays = u)) ∧
  (∀ (s u : State) (x : LinkFrameIn) (cls rank idx len : Nat), s.begun.linkUp x.link = true → u = s.begun.linkFrame x →
    x.codeErr = false → x.endOk = true → len = field x.bytes 2 2 % 4096 + 1 → x.bytes.length = len + 6 →
    crc16 (x.bytes.take (len + 4)) = field x.bytes (len + 4) 2 → cls = field x.bytes 0 1 % 4 →
    rank = field x.bytes 1 1 % 8 → idx = field x.bytes 1 1 / 8 →
    ((field x.bytes 0 1).testBit 2 = true → (field x.bytes 0 1).testBit 3 = true → idx = 0 →
      Tab.find? (s.begun.link x.link).open_ rank = none →
      (u.link x.link).inbox = (s.begun.link x.link).inbox ++ [(cls, slice x.bytes 4 len)] ∧
        u.dict = (s.begun.count (0x2810 + x.link) 8).dict ∧ u.evt = s.evt) ∧
    (∀ b, (field x.bytes 0 1).testBit 2 = false → (field x.bytes 0 1).testBit 3 = true →
      Tab.find? (s.begun.link x.link).open_ rank = some (idx, some b) →
      (u.link x.link).inbox = (s.begun.link x.link).inbox ++ [(cls, b ++ slice x.bytes 4 len)] ∧
        u.dict = (s.begun.count (0x2810 + x.link) 8).dict) ∧
    (∀ b, (field x.bytes 0 1).testBit 2 = false → (field x.bytes 0 1).testBit 3 = false →
      Tab.find? (s.begun.link x.link).open_ rank = some (idx, some b) →
      (u.link x.link).inbox = (s.begun.link x.link).inbox ∧
        Tab.find? (u.link x.link).open_ rank = some ((idx + 1) % 32, some (b ++ slice x.bytes 4 len)))) ∧
  (∀ (s u : State) (x : LinkFrameIn), s.begun.linkUp x.link = true → x.codeErr = true ∨ x.endOk = false →
    u = s.begun.linkFrame x → (u.link x.link).inbox = (s.begun.link x.link).inbox ∧
      (Tab.sortedFrom 0 (s.begun.link x.link).open_ = true →
        ∀ b, Tab.find? (u.link x.link).open_ (field x.bytes 1 1 % 8) = some b → b.2 = none)) ∧
  (∀ (s : State) (k cause : Nat), s.live = true →
    (s.begun.linkUp k = true → Answers (.deviceLinkDown k cause) s ((s.begun.raiseUnit 0x0403 k 6).restartLink k)) ∧
    (s.begun.linkUp k = false → IsLost (.deviceLinkDown k cause) s)) ∧
  (∀ (s u v : State) (g : Nat), s.live = true → (s.begun.nat 0x2702 4).testBit g = true →
    u = s.begun.setObj 0x2702 4 ((setBit (s.begun.nat 0x2702 4) g false : Nat) : Int) →
    v = (List.range 8).foldl (fun s p => if (s.portList[p]?).any (fun x => x.1 == g) then s.portLinkDown p else s) u →
    Answers (.lanePllLockLoss g) s ((List.range 3).foldl (fun s k =>
      if (s.link k).lanes.any (fun l => l / 4 == g) then s.dropLink k else s) v)) ∧
  (∀ (s : State) (g : Nat), s.live = true → (s.begun.nat 0x2702 4).testBit g = false → IsLost (.lanePllLockLoss g) s) ∧
  (∀ (s : State) (k : Nat), s.Inv → (s.restartLink k).lk k 1 = 1 ∧
    ((s.restartLink k).link k).open_ = [] ∧ ((s.restartLink k).link k).lanes = (s.link k).lanes ∧
    ((s.restartLink k).link k).inbox = (s.link k).inbox) ∧
  (∀ (s : State) (c : Client) (lane v : Nat), lane < 16 → v < 256 → Writable s c (numWrite (0x2800 + lane) 0xA 1 v) →
      (v = 1 → Granted (.laneRetrain c lane v) s c
        ((List.range 3).foldl (fun s k => if (s.link k).lanes.contains lane then s.dropLink k else s)
          ((List.range 8).foldl (fun s p => if (s.portLanes p).contains lane then s.portLinkDown p else s) s.begun))) ∧
      (v ≠ 1 → Granted (.laneRetrain c lane v) s c s.begun))
end

