-- ==== Sys2Proof/Laws/State.lean ====
section
/-! SUPPORT. Laws/State.lean: what each elementary update of the state leaves as it is, field by field. -/

namespace Sys2Proof.Machine

variable (s : State)

/-! ### setObj -/

@[simp] theorem State.setObj_pending (i j : Nat) (v : Int) : (s.setObj i j v).pending = s.pending := rfl
@[simp] theorem State.setObj_clk (i j : Nat) (v : Int) : (s.setObj i j v).clk = s.clk := rfl
@[simp] theorem State.setObj_bytes (i j : Nat) (v : Int) : (s.setObj i j v).bytes = s.bytes := rfl
@[simp] theorem State.setObj_mem (i j : Nat) (v : Int) : (s.setObj i j v).mem = s.mem := rfl
@[simp] theorem State.setObj_slotsZero (i j : Nat) (v : Int) : (s.setObj i j v).slotsZero = s.slotsZero := rfl
@[simp] theorem State.setObj_commit (i j : Nat) (v : Int) : (s.setObj i j v).commit = s.commit := rfl
@[simp] theorem State.setObj_ops (i j : Nat) (v : Int) : (s.setObj i j v).ops = s.ops := rfl
@[simp] theorem State.setObj_can (i j : Nat) (v : Int) : (s.setObj i j v).can = s.can := rfl
@[simp] theorem State.setObj_exfer (i j : Nat) (v : Int) : (s.setObj i j v).exfer = s.exfer := rfl
@[simp] theorem State.setObj_evt (i j : Nat) (v : Int) : (s.setObj i j v).evt = s.evt := rfl
@[simp] theorem State.setObj_power (i j : Nat) (v : Int) : (s.setObj i j v).power = s.power := rfl
@[simp] theorem State.setObj_flash (i j : Nat) (v : Int) : (s.setObj i j v).flash = s.flash := rfl
@[simp] theorem State.setObj_survey (i j : Nat) (v : Int) : (s.setObj i j v).survey = s.survey := rfl
@[simp] theorem State.setObj_hostCheck (i j : Nat) (v : Int) : (s.setObj i j v).hostCheck = s.hostCheck := rfl
@[simp] theorem State.setObj_flows (i j : Nat) (v : Int) : (s.setObj i j v).flows = s.flows := rfl
@[simp] theorem State.setObj_flowStats (i j : Nat) (v : Int) : (s.setObj i j v).flowStats = s.flowStats := rfl
@[simp] theorem State.setObj_ports (i j : Nat) (v : Int) : (s.setObj i j v).ports = s.ports := rfl
@[simp] theorem State.setObj_ana (i j : Nat) (v : Int) : (s.setObj i j v).ana = s.ana := rfl
@[simp] theorem State.setObj_chans (i j : Nat) (v : Int) : (s.setObj i j v).chans = s.chans := rfl
@[simp] theorem State.setObj_orch (i j : Nat) (v : Int) : (s.setObj i j v).orch = s.orch := rfl
@[simp] theorem State.setObj_egress (i j : Nat) (v : Int) : (s.setObj i j v).egress = s.egress := rfl
@[simp] theorem State.setObj_audio (i j : Nat) (v : Int) : (s.setObj i j v).audio = s.audio := rfl
@[simp] theorem State.setObj_atlas (i j : Nat) (v : Int) : (s.setObj i j v).atlas = s.atlas := rfl
@[simp] theorem State.setObj_movers (i j : Nat) (v : Int) : (s.setObj i j v).movers = s.movers := rfl
@[simp] theorem State.setObj_hole (i j : Nat) (v : Int) : (s.setObj i j v).hole = s.hole := rfl
@[simp] theorem State.setObj_ptp (i j : Nat) (v : Int) : (s.setObj i j v).ptp = s.ptp := rfl
@[simp] theorem State.setObj_vpll (i j : Nat) (v : Int) : (s.setObj i j v).vpll = s.vpll := rfl
@[simp] theorem State.setObj_apll (i j : Nat) (v : Int) : (s.setObj i j v).apll = s.apll := rfl
@[simp] theorem State.setObj_tio (i j : Nat) (v : Int) : (s.setObj i j v).tio = s.tio := rfl
@[simp] theorem State.setObj_links (i j : Nat) (v : Int) : (s.setObj i j v).links = s.links := rfl
@[simp] theorem State.setObj_pair (i j : Nat) (v : Int) : (s.setObj i j v).pair = s.pair := rfl
@[simp] theorem State.setObj_casc (i j : Nat) (v : Int) : (s.setObj i j v).casc = s.casc := rfl
@[simp] theorem State.setObj_queues (i j : Nat) (v : Int) : (s.setObj i j v).queues = s.queues := rfl
@[simp] theorem State.setObj_out (i j : Nat) (v : Int) : (s.setObj i j v).out = s.out := rfl
@[simp] theorem State.setObj_free (i j : Nat) (v : Int) : (s.setObj i j v).free = s.free := rfl

/-! ### say -/

@[simp] theorem State.say_pending (o : Out) : (s.say o).pending = s.pending := rfl
@[simp] theorem State.say_clk (o : Out) : (s.say o).clk = s.clk := rfl
@[simp] theorem State.say_dict (o : Out) : (s.say o).dict = s.dict := rfl
@[simp] theorem State.say_bytes (o : Out) : (s.say o).bytes = s.bytes := rfl
@[simp] theorem State.say_mem (o : Out) : (s.say o).mem = s.mem := rfl
@[simp] theorem State.say_slotsZero (o : Out) : (s.say o).slotsZero = s.slotsZero := rfl
@[simp] theorem State.say_commit (o : Out) : (s.say o).commit = s.commit := rfl
@[simp] theorem State.say_ops (o : Out) : (s.say o).ops = s.ops := rfl
@[simp] theorem State.say_can (o : Out) : (s.say o).can = s.can := rfl
@[simp] theorem State.say_exfer (o : Out) : (s.say o).exfer = s.exfer := rfl
@[simp] theorem State.say_evt (o : Out) : (s.say o).evt = s.evt := rfl
@[simp] theorem State.say_power (o : Out) : (s.say o).power = s.power := rfl
@[simp] theorem State.say_flash (o : Out) : (s.say o).flash = s.flash := rfl
@[simp] theorem State.say_survey (o : Out) : (s.say o).survey = s.survey := rfl
@[simp] theorem State.say_hostCheck (o : Out) : (s.say o).hostCheck = s.hostCheck := rfl
@[simp] theorem State.say_flows (o : Out) : (s.say o).flows = s.flows := rfl
@[simp] theorem State.say_flowStats (o : Out) : (s.say o).flowStats = s.flowStats := rfl
@[simp] theorem State.say_ports (o : Out) : (s.say o).ports = s.ports := rfl
@[simp] theorem State.say_ana (o : Out) : (s.say o).ana = s.ana := rfl
@[simp] theorem State.say_chans (o : Out) : (s.say o).chans = s.chans := rfl
@[simp] theorem State.say_orch (o : Out) : (s.say o).orch = s.orch := rfl
@[simp] theorem State.say_egress (o : Out) : (s.say o).egress = s.egress := rfl
@[simp] theorem State.say_audio (o : Out) : (s.say o).audio = s.audio := rfl
@[simp] theorem State.say_atlas (o : Out) : (s.say o).atlas = s.atlas := rfl
@[simp] theorem State.say_movers (o : Out) : (s.say o).movers = s.movers := rfl
@[simp] theorem State.say_hole (o : Out) : (s.say o).hole = s.hole := rfl
@[simp] theorem State.say_ptp (o : Out) : (s.say o).ptp = s.ptp := rfl
@[simp] theorem State.say_vpll (o : Out) : (s.say o).vpll = s.vpll := rfl
@[simp] theorem State.say_apll (o : Out) : (s.say o).apll = s.apll := rfl
@[simp] theorem State.say_tio (o : Out) : (s.say o).tio = s.tio := rfl
@[simp] theorem State.say_links (o : Out) : (s.say o).links = s.links := rfl
@[simp] theorem State.say_pair (o : Out) : (s.say o).pair = s.pair := rfl
@[simp] theorem State.say_casc (o : Out) : (s.say o).casc = s.casc := rfl
@[simp] theorem State.say_queues (o : Out) : (s.say o).queues = s.queues := rfl
@[simp] theorem State.say_free (o : Out) : (s.say o).free = s.free := rfl

/-! ### begun -/

@[simp] theorem State.begun_pending : (s.begun).pending = s.pending := rfl
@[simp] theorem State.begun_clk : (s.begun).clk = s.clk := rfl
@[simp] theorem State.begun_dict : (s.begun).dict = s.dict := rfl
@[simp] theorem State.begun_bytes : (s.begun).bytes = s.bytes := rfl
@[simp] theorem State.begun_mem : (s.begun).mem = s.mem := rfl
@[simp] theorem State.begun_slotsZero : (s.begun).slotsZero = s.slotsZero := rfl
@[simp] theorem State.begun_commit : (s.begun).commit = s.commit := rfl
@[simp] theorem State.begun_ops : (s.begun).ops = s.ops := rfl
@[simp] theorem State.begun_can : (s.begun).can = s.can := rfl
@[simp] theorem State.begun_exfer : (s.begun).exfer = s.exfer := rfl
@[simp] theorem State.begun_evt : (s.begun).evt = s.evt := rfl
@[simp] theorem State.begun_power : (s.begun).power = s.power := rfl
@[simp] theorem State.begun_flash : (s.begun).flash = s.flash := rfl
@[simp] theorem State.begun_survey : (s.begun).survey = s.survey := rfl
@[simp] theorem State.begun_hostCheck : (s.begun).hostCheck = s.hostCheck := rfl
@[simp] theorem State.begun_flows : (s.begun).flows = s.flows := rfl
@[simp] theorem State.begun_flowStats : (s.begun).flowStats = s.flowStats := rfl
@[simp] theorem State.begun_ports : (s.begun).ports = s.ports := rfl
@[simp] theorem State.begun_ana : (s.begun).ana = s.ana := rfl
@[simp] theorem State.begun_chans : (s.begun).chans = s.chans := rfl
@[simp] theorem State.begun_orch : (s.begun).orch = s.orch := rfl
@[simp] theorem State.begun_egress : (s.begun).egress = s.egress := rfl
@[simp] theorem State.begun_audio : (s.begun).audio = s.audio := rfl
@[simp] theorem State.begun_atlas : (s.begun).atlas = s.atlas := rfl
@[simp] theorem State.begun_movers : (s.begun).movers = s.movers := rfl
@[simp] theorem State.begun_hole : (s.begun).hole = s.hole := rfl
@[simp] theorem State.begun_ptp : (s.begun).ptp = s.ptp := rfl
@[simp] theorem State.begun_vpll : (s.begun).vpll = s.vpll := rfl
@[simp] theorem State.begun_apll : (s.begun).apll = s.apll := rfl
@[simp] theorem State.begun_tio : (s.begun).tio = s.tio := rfl
@[simp] theorem State.begun_links : (s.begun).links = s.links := rfl
@[simp] theorem State.begun_pair : (s.begun).pair = s.pair := rfl
@[simp] theorem State.begun_casc : (s.begun).casc = s.casc := rfl
@[simp] theorem State.begun_queues : (s.begun).queues = s.queues := rfl
@[simp] theorem State.begun_free : (s.begun).free = s.free := rfl

/-! ### cycles -/

@[simp] theorem State.cycles_pending (k : Nat) : (s.cycles k).pending = s.pending := rfl
@[simp] theorem State.cycles_dict (k : Nat) : (s.cycles k).dict = s.dict := rfl
@[simp] theorem State.cycles_bytes (k : Nat) : (s.cycles k).bytes = s.bytes := rfl
@[simp] theorem State.cycles_mem (k : Nat) : (s.cycles k).mem = s.mem := rfl
@[simp] theorem State.cycles_slotsZero (k : Nat) : (s.cycles k).slotsZero = s.slotsZero := rfl
@[simp] theorem State.cycles_commit (k : Nat) : (s.cycles k).commit = s.commit := rfl
@[simp] theorem State.cycles_ops (k : Nat) : (s.cycles k).ops = s.ops := rfl
@[simp] theorem State.cycles_can (k : Nat) : (s.cycles k).can = s.can := rfl
@[simp] theorem State.cycles_exfer (k : Nat) : (s.cycles k).exfer = s.exfer := rfl
@[simp] theorem State.cycles_evt (k : Nat) : (s.cycles k).evt = s.evt := rfl
@[simp] theorem State.cycles_power (k : Nat) : (s.cycles k).power = s.power := rfl
@[simp] theorem State.cycles_flash (k : Nat) : (s.cycles k).flash = s.flash := rfl
@[simp] theorem State.cycles_survey (k : Nat) : (s.cycles k).survey = s.survey := rfl
@[simp] theorem State.cycles_hostCheck (k : Nat) : (s.cycles k).hostCheck = s.hostCheck := rfl
@[simp] theorem State.cycles_flows (k : Nat) : (s.cycles k).flows = s.flows := rfl
@[simp] theorem State.cycles_flowStats (k : Nat) : (s.cycles k).flowStats = s.flowStats := rfl
@[simp] theorem State.cycles_ports (k : Nat) : (s.cycles k).ports = s.ports := rfl
@[simp] theorem State.cycles_ana (k : Nat) : (s.cycles k).ana = s.ana := rfl
@[simp] theorem State.cycles_chans (k : Nat) : (s.cycles k).chans = s.chans := rfl
@[simp] theorem State.cycles_orch (k : Nat) : (s.cycles k).orch = s.orch := rfl
@[simp] theorem State.cycles_egress (k : Nat) : (s.cycles k).egress = s.egress := rfl
@[simp] theorem State.cycles_audio (k : Nat) : (s.cycles k).audio = s.audio := rfl
@[simp] theorem State.cycles_atlas (k : Nat) : (s.cycles k).atlas = s.atlas := rfl
@[simp] theorem State.cycles_movers (k : Nat) : (s.cycles k).movers = s.movers := rfl
@[simp] theorem State.cycles_hole (k : Nat) : (s.cycles k).hole = s.hole := rfl
@[simp] theorem State.cycles_ptp (k : Nat) : (s.cycles k).ptp = s.ptp := rfl
@[simp] theorem State.cycles_vpll (k : Nat) : (s.cycles k).vpll = s.vpll := rfl
@[simp] theorem State.cycles_apll (k : Nat) : (s.cycles k).apll = s.apll := rfl
@[simp] theorem State.cycles_tio (k : Nat) : (s.cycles k).tio = s.tio := rfl
@[simp] theorem State.cycles_links (k : Nat) : (s.cycles k).links = s.links := rfl
@[simp] theorem State.cycles_pair (k : Nat) : (s.cycles k).pair = s.pair := rfl
@[simp] theorem State.cycles_casc (k : Nat) : (s.cycles k).casc = s.casc := rfl
@[simp] theorem State.cycles_queues (k : Nat) : (s.cycles k).queues = s.queues := rfl
@[simp] theorem State.cycles_out (k : Nat) : (s.cycles k).out = s.out := rfl
@[simp] theorem State.cycles_free (k : Nat) : (s.cycles k).free = s.free := rfl

/-! ### memPut -/

@[simp] theorem State.memPut_pending (a : Nat) (b : Byte) : (s.memPut a b).pending = s.pending := rfl
@[simp] theorem State.memPut_clk (a : Nat) (b : Byte) : (s.memPut a b).clk = s.clk := rfl
@[simp] theorem State.memPut_dict (a : Nat) (b : Byte) : (s.memPut a b).dict = s.dict := rfl
@[simp] theorem State.memPut_bytes (a : Nat) (b : Byte) : (s.memPut a b).bytes = s.bytes := rfl
@[simp] theorem State.memPut_slotsZero (a : Nat) (b : Byte) : (s.memPut a b).slotsZero = s.slotsZero := rfl
@[simp] theorem State.memPut_commit (a : Nat) (b : Byte) : (s.memPut a b).commit = s.commit := rfl
@[simp] theorem State.memPut_ops (a : Nat) (b : Byte) : (s.memPut a b).ops = s.ops := rfl
@[simp] theorem State.memPut_can (a : Nat) (b : Byte) : (s.memPut a b).can = s.can := rfl
@[simp] theorem State.memPut_exfer (a : Nat) (b : Byte) : (s.memPut a b).exfer = s.exfer := rfl
@[simp] theorem State.memPut_evt (a : Nat) (b : Byte) : (s.memPut a b).evt = s.evt := rfl
@[simp] theorem State.memPut_power (a : Nat) (b : Byte) : (s.memPut a b).power = s.power := rfl
@[simp] theorem State.memPut_flash (a : Nat) (b : Byte) : (s.memPut a b).flash = s.flash := rfl
@[simp] theorem State.memPut_survey (a : Nat) (b : Byte) : (s.memPut a b).survey = s.survey := rfl
@[simp] theorem State.memPut_hostCheck (a : Nat) (b : Byte) : (s.memPut a b).hostCheck = s.hostCheck := rfl
@[simp] theorem State.memPut_flows (a : Nat) (b : Byte) : (s.memPut a b).flows = s.flows := rfl
@[simp] theorem State.memPut_flowStats (a : Nat) (b : Byte) : (s.memPut a b).flowStats = s.flowStats := rfl
@[simp] theorem State.memPut_ports (a : Nat) (b : Byte) : (s.memPut a b).ports = s.ports := rfl
@[simp] theorem State.memPut_ana (a : Nat) (b : Byte) : (s.memPut a b).ana = s.ana := rfl
@[simp] theorem State.memPut_chans (a : Nat) (b : Byte) : (s.memPut a b).chans = s.chans := rfl
@[simp] theorem State.memPut_orch (a : Nat) (b : Byte) : (s.memPut a b).orch = s.orch := rfl
@[simp] theorem State.memPut_egress (a : Nat) (b : Byte) : (s.memPut a b).egress = s.egress := rfl
@[simp] theorem State.memPut_audio (a : Nat) (b : Byte) : (s.memPut a b).audio = s.audio := rfl
@[simp] theorem State.memPut_atlas (a : Nat) (b : Byte) : (s.memPut a b).atlas = s.atlas := rfl
@[simp] theorem State.memPut_movers (a : Nat) (b : Byte) : (s.memPut a b).movers = s.movers := rfl
@[simp] theorem State.memPut_hole (a : Nat) (b : Byte) : (s.memPut a b).hole = s.hole := rfl
@[simp] theorem State.memPut_ptp (a : Nat) (b : Byte) : (s.memPut a b).ptp = s.ptp := rfl
@[simp] theorem State.memPut_vpll (a : Nat) (b : Byte) : (s.memPut a b).vpll = s.vpll := rfl
@[simp] theorem State.memPut_apll (a : Nat) (b : Byte) : (s.memPut a b).apll = s.apll := rfl
@[simp] theorem State.memPut_tio (a : Nat) (b : Byte) : (s.memPut a b).tio = s.tio := rfl
@[simp] theorem State.memPut_links (a : Nat) (b : Byte) : (s.memPut a b).links = s.links := rfl
@[simp] theorem State.memPut_pair (a : Nat) (b : Byte) : (s.memPut a b).pair = s.pair := rfl
@[simp] theorem State.memPut_casc (a : Nat) (b : Byte) : (s.memPut a b).casc = s.casc := rfl
@[simp] theorem State.memPut_queues (a : Nat) (b : Byte) : (s.memPut a b).queues = s.queues := rfl
@[simp] theorem State.memPut_out (a : Nat) (b : Byte) : (s.memPut a b).out = s.out := rfl
@[simp] theorem State.memPut_free (a : Nat) (b : Byte) : (s.memPut a b).free = s.free := rfl

/-! ### drawn -/

@[simp] theorem State.drawn_pending : (s.drawn).pending = s.pending := rfl
@[simp] theorem State.drawn_clk : (s.drawn).clk = s.clk := rfl
@[simp] theorem State.drawn_dict : (s.drawn).dict = s.dict := rfl
@[simp] theorem State.drawn_bytes : (s.drawn).bytes = s.bytes := rfl
@[simp] theorem State.drawn_mem : (s.drawn).mem = s.mem := rfl
@[simp] theorem State.drawn_slotsZero : (s.drawn).slotsZero = s.slotsZero := rfl
@[simp] theorem State.drawn_commit : (s.drawn).commit = s.commit := rfl
@[simp] theorem State.drawn_ops : (s.drawn).ops = s.ops := rfl
@[simp] theorem State.drawn_can : (s.drawn).can = s.can := rfl
@[simp] theorem State.drawn_exfer : (s.drawn).exfer = s.exfer := rfl
@[simp] theorem State.drawn_evt : (s.drawn).evt = s.evt := rfl
@[simp] theorem State.drawn_power : (s.drawn).power = s.power := rfl
@[simp] theorem State.drawn_flash : (s.drawn).flash = s.flash := rfl
@[simp] theorem State.drawn_survey : (s.drawn).survey = s.survey := rfl
@[simp] theorem State.drawn_hostCheck : (s.drawn).hostCheck = s.hostCheck := rfl
@[simp] theorem State.drawn_flows : (s.drawn).flows = s.flows := rfl
@[simp] theorem State.drawn_flowStats : (s.drawn).flowStats = s.flowStats := rfl
@[simp] theorem State.drawn_ports : (s.drawn).ports = s.ports := rfl
@[simp] theorem State.drawn_ana : (s.drawn).ana = s.ana := rfl
@[simp] theorem State.drawn_chans : (s.drawn).chans = s.chans := rfl
@[simp] theorem State.drawn_orch : (s.drawn).orch = s.orch := rfl
@[simp] theorem State.drawn_egress : (s.drawn).egress = s.egress := rfl
@[simp] theorem State.drawn_audio : (s.drawn).audio = s.audio := rfl
@[simp] theorem State.drawn_atlas : (s.drawn).atlas = s.atlas := rfl
@[simp] theorem State.drawn_movers : (s.drawn).movers = s.movers := rfl
@[simp] theorem State.drawn_hole : (s.drawn).hole = s.hole := rfl
@[simp] theorem State.drawn_ptp : (s.drawn).ptp = s.ptp := rfl
@[simp] theorem State.drawn_vpll : (s.drawn).vpll = s.vpll := rfl
@[simp] theorem State.drawn_apll : (s.drawn).apll = s.apll := rfl
@[simp] theorem State.drawn_tio : (s.drawn).tio = s.tio := rfl
@[simp] theorem State.drawn_links : (s.drawn).links = s.links := rfl
@[simp] theorem State.drawn_pair : (s.drawn).pair = s.pair := rfl
@[simp] theorem State.drawn_casc : (s.drawn).casc = s.casc := rfl
@[simp] theorem State.drawn_queues : (s.drawn).queues = s.queues := rfl
@[simp] theorem State.drawn_out : (s.drawn).out = s.out := rfl

/-! ### setAttn -/

@[simp] theorem State.setAttn_pending (b : Bool) : (s.setAttn b).pending = s.pending := rfl
@[simp] theorem State.setAttn_clk (b : Bool) : (s.setAttn b).clk = s.clk := rfl
@[simp] theorem State.setAttn_dict (b : Bool) : (s.setAttn b).dict = s.dict := rfl
@[simp] theorem State.setAttn_bytes (b : Bool) : (s.setAttn b).bytes = s.bytes := rfl
@[simp] theorem State.setAttn_mem (b : Bool) : (s.setAttn b).mem = s.mem := rfl
@[simp] theorem State.setAttn_slotsZero (b : Bool) : (s.setAttn b).slotsZero = s.slotsZero := rfl
@[simp] theorem State.setAttn_commit (b : Bool) : (s.setAttn b).commit = s.commit := rfl
@[simp] theorem State.setAttn_ops (b : Bool) : (s.setAttn b).ops = s.ops := rfl
@[simp] theorem State.setAttn_can (b : Bool) : (s.setAttn b).can = s.can := rfl
@[simp] theorem State.setAttn_exfer (b : Bool) : (s.setAttn b).exfer = s.exfer := rfl
@[simp] theorem State.setAttn_power (b : Bool) : (s.setAttn b).power = s.power := rfl
@[simp] theorem State.setAttn_flash (b : Bool) : (s.setAttn b).flash = s.flash := rfl
@[simp] theorem State.setAttn_survey (b : Bool) : (s.setAttn b).survey = s.survey := rfl
@[simp] theorem State.setAttn_hostCheck (b : Bool) : (s.setAttn b).hostCheck = s.hostCheck := rfl
@[simp] theorem State.setAttn_flows (b : Bool) : (s.setAttn b).flows = s.flows := rfl
@[simp] theorem State.setAttn_flowStats (b : Bool) : (s.setAttn b).flowStats = s.flowStats := rfl
@[simp] theorem State.setAttn_ports (b : Bool) : (s.setAttn b).ports = s.ports := rfl
@[simp] theorem State.setAttn_ana (b : Bool) : (s.setAttn b).ana = s.ana := rfl
@[simp] theorem State.setAttn_chans (b : Bool) : (s.setAttn b).chans = s.chans := rfl
@[simp] theorem State.setAttn_orch (b : Bool) : (s.setAttn b).orch = s.orch := rfl
@[simp] theorem State.setAttn_egress (b : Bool) : (s.setAttn b).egress = s.egress := rfl
@[simp] theorem State.setAttn_audio (b : Bool) : (s.setAttn b).audio = s.audio := rfl
@[simp] theorem State.setAttn_atlas (b : Bool) : (s.setAttn b).atlas = s.atlas := rfl
@[simp] theorem State.setAttn_movers (b : Bool) : (s.setAttn b).movers = s.movers := rfl
@[simp] theorem State.setAttn_hole (b : Bool) : (s.setAttn b).hole = s.hole := rfl
@[simp] theorem State.setAttn_ptp (b : Bool) : (s.setAttn b).ptp = s.ptp := rfl
@[simp] theorem State.setAttn_vpll (b : Bool) : (s.setAttn b).vpll = s.vpll := rfl
@[simp] theorem State.setAttn_apll (b : Bool) : (s.setAttn b).apll = s.apll := rfl
@[simp] theorem State.setAttn_tio (b : Bool) : (s.setAttn b).tio = s.tio := rfl
@[simp] theorem State.setAttn_links (b : Bool) : (s.setAttn b).links = s.links := rfl
@[simp] theorem State.setAttn_pair (b : Bool) : (s.setAttn b).pair = s.pair := rfl
@[simp] theorem State.setAttn_casc (b : Bool) : (s.setAttn b).casc = s.casc := rfl
@[simp] theorem State.setAttn_queues (b : Bool) : (s.setAttn b).queues = s.queues := rfl
@[simp] theorem State.setAttn_out (b : Bool) : (s.setAttn b).out = s.out := rfl
@[simp] theorem State.setAttn_free (b : Bool) : (s.setAttn b).free = s.free := rfl

/-! ### onCommit -/

@[simp] theorem State.onCommit_pending (f : CommitSt → CommitSt) : (s.onCommit f).pending = s.pending := rfl
@[simp] theorem State.onCommit_clk (f : CommitSt → CommitSt) : (s.onCommit f).clk = s.clk := rfl
@[simp] theorem State.onCommit_dict (f : CommitSt → CommitSt) : (s.onCommit f).dict = s.dict := rfl
@[simp] theorem State.onCommit_bytes (f : CommitSt → CommitSt) : (s.onCommit f).bytes = s.bytes := rfl
@[simp] theorem State.onCommit_mem (f : CommitSt → CommitSt) : (s.onCommit f).mem = s.mem := rfl
@[simp] theorem State.onCommit_slotsZero (f : CommitSt → CommitSt) : (s.onCommit f).slotsZero = s.slotsZero := rfl
@[simp] theorem State.onCommit_ops (f : CommitSt → CommitSt) : (s.onCommit f).ops = s.ops := rfl
@[simp] theorem State.onCommit_can (f : CommitSt → CommitSt) : (s.onCommit f).can = s.can := rfl
@[simp] theorem State.onCommit_exfer (f : CommitSt → CommitSt) : (s.onCommit f).exfer = s.exfer := rfl
@[simp] theorem State.onCommit_evt (f : CommitSt → CommitSt) : (s.onCommit f).evt = s.evt := rfl
@[simp] theorem State.onCommit_power (f : CommitSt → CommitSt) : (s.onCommit f).power = s.power := rfl
@[simp] theorem State.onCommit_flash (f : CommitSt → CommitSt) : (s.onCommit f).flash = s.flash := rfl
@[simp] theorem State.onCommit_survey (f : CommitSt → CommitSt) : (s.onCommit f).survey = s.survey := rfl
@[simp] theorem State.onCommit_hostCheck (f : CommitSt → CommitSt) : (s.onCommit f).hostCheck = s.hostCheck := rfl
@[simp] theorem State.onCommit_flows (f : CommitSt → CommitSt) : (s.onCommit f).flows = s.flows := rfl
@[simp] theorem State.onCommit_flowStats (f : CommitSt → CommitSt) : (s.onCommit f).flowStats = s.flowStats := rfl
@[simp] theorem State.onCommit_ports (f : CommitSt → CommitSt) : (s.onCommit f).ports = s.ports := rfl
@[simp] theorem State.onCommit_ana (f : CommitSt → CommitSt) : (s.onCommit f).ana = s.ana := rfl
@[simp] theorem State.onCommit_chans (f : CommitSt → CommitSt) : (s.onCommit f).chans = s.chans := rfl
@[simp] theorem State.onCommit_orch (f : CommitSt → CommitSt) : (s.onCommit f).orch = s.orch := rfl
@[simp] theorem State.onCommit_egress (f : CommitSt → CommitSt) : (s.onCommit f).egress = s.egress := rfl
@[simp] theorem State.onCommit_audio (f : CommitSt → CommitSt) : (s.onCommit f).audio = s.audio := rfl
@[simp] theorem State.onCommit_atlas (f : CommitSt → CommitSt) : (s.onCommit f).atlas = s.atlas := rfl
@[simp] theorem State.onCommit_movers (f : CommitSt → CommitSt) : (s.onCommit f).movers = s.movers := rfl
@[simp] theorem State.onCommit_hole (f : CommitSt → CommitSt) : (s.onCommit f).hole = s.hole := rfl
@[simp] theorem State.onCommit_ptp (f : CommitSt → CommitSt) : (s.onCommit f).ptp = s.ptp := rfl
@[simp] theorem State.onCommit_vpll (f : CommitSt → CommitSt) : (s.onCommit f).vpll = s.vpll := rfl
@[simp] theorem State.onCommit_apll (f : CommitSt → CommitSt) : (s.onCommit f).apll = s.apll := rfl
@[simp] theorem State.onCommit_tio (f : CommitSt → CommitSt) : (s.onCommit f).tio = s.tio := rfl
@[simp] theorem State.onCommit_links (f : CommitSt → CommitSt) : (s.onCommit f).links = s.links := rfl
@[simp] theorem State.onCommit_pair (f : CommitSt → CommitSt) : (s.onCommit f).pair = s.pair := rfl
@[simp] theorem State.onCommit_casc (f : CommitSt → CommitSt) : (s.onCommit f).casc = s.casc := rfl
@[simp] theorem State.onCommit_queues (f : CommitSt → CommitSt) : (s.onCommit f).queues = s.queues := rfl
@[simp] theorem State.onCommit_out (f : CommitSt → CommitSt) : (s.onCommit f).out = s.out := rfl
@[simp] theorem State.onCommit_free (f : CommitSt → CommitSt) : (s.onCommit f).free = s.free := rfl

/-! ### onExfer -/

@[simp] theorem State.onExfer_pending (f : ExferSt → ExferSt) : (s.onExfer f).pending = s.pending := rfl
@[simp] theorem State.onExfer_clk (f : ExferSt → ExferSt) : (s.onExfer f).clk = s.clk := rfl
@[simp] theorem State.onExfer_dict (f : ExferSt → ExferSt) : (s.onExfer f).dict = s.dict := rfl
@[simp] theorem State.onExfer_bytes (f : ExferSt → ExferSt) : (s.onExfer f).bytes = s.bytes := rfl
@[simp] theorem State.onExfer_mem (f : ExferSt → ExferSt) : (s.onExfer f).mem = s.mem := rfl
@[simp] theorem State.onExfer_slotsZero (f : ExferSt → ExferSt) : (s.onExfer f).slotsZero = s.slotsZero := rfl
@[simp] theorem State.onExfer_commit (f : ExferSt → ExferSt) : (s.onExfer f).commit = s.commit := rfl
@[simp] theorem State.onExfer_ops (f : ExferSt → ExferSt) : (s.onExfer f).ops = s.ops := rfl
@[simp] theorem State.onExfer_can (f : ExferSt → ExferSt) : (s.onExfer f).can = s.can := rfl
@[simp] theorem State.onExfer_evt (f : ExferSt → ExferSt) : (s.onExfer f).evt = s.evt := rfl
@[simp] theorem State.onExfer_power (f : ExferSt → ExferSt) : (s.onExfer f).power = s.power := rfl
@[simp] theorem State.onExfer_flash (f : ExferSt → ExferSt) : (s.onExfer f).flash = s.flash := rfl
@[simp] theorem State.onExfer_survey (f : ExferSt → ExferSt) : (s.onExfer f).survey = s.survey := rfl
@[simp] theorem State.onExfer_hostCheck (f : ExferSt → ExferSt) : (s.onExfer f).hostCheck = s.hostCheck := rfl
@[simp] theorem State.onExfer_flows (f : ExferSt → ExferSt) : (s.onExfer f).flows = s.flows := rfl
@[simp] theorem State.onExfer_flowStats (f : ExferSt → ExferSt) : (s.onExfer f).flowStats = s.flowStats := rfl
@[simp] theorem State.onExfer_ports (f : ExferSt → ExferSt) : (s.onExfer f).ports = s.ports := rfl
@[simp] theorem State.onExfer_ana (f : ExferSt → ExferSt) : (s.onExfer f).ana = s.ana := rfl
@[simp] theorem State.onExfer_chans (f : ExferSt → ExferSt) : (s.onExfer f).chans = s.chans := rfl
@[simp] theorem State.onExfer_orch (f : ExferSt → ExferSt) : (s.onExfer f).orch = s.orch := rfl
@[simp] theorem State.onExfer_egress (f : ExferSt → ExferSt) : (s.onExfer f).egress = s.egress := rfl
@[simp] theorem State.onExfer_audio (f : ExferSt → ExferSt) : (s.onExfer f).audio = s.audio := rfl
@[simp] theorem State.onExfer_atlas (f : ExferSt → ExferSt) : (s.onExfer f).atlas = s.atlas := rfl
@[simp] theorem State.onExfer_movers (f : ExferSt → ExferSt) : (s.onExfer f).movers = s.movers := rfl
@[simp] theorem State.onExfer_hole (f : ExferSt → ExferSt) : (s.onExfer f).hole = s.hole := rfl
@[simp] theorem State.onExfer_ptp (f : ExferSt → ExferSt) : (s.onExfer f).ptp = s.ptp := rfl
@[simp] theorem State.onExfer_vpll (f : ExferSt → ExferSt) : (s.onExfer f).vpll = s.vpll := rfl
@[simp] theorem State.onExfer_apll (f : ExferSt → ExferSt) : (s.onExfer f).apll = s.apll := rfl
@[simp] theorem State.onExfer_tio (f : ExferSt → ExferSt) : (s.onExfer f).tio = s.tio := rfl
@[simp] theorem State.onExfer_links (f : ExferSt → ExferSt) : (s.onExfer f).links = s.links := rfl
@[simp] theorem State.onExfer_pair (f : ExferSt → ExferSt) : (s.onExfer f).pair = s.pair := rfl
@[simp] theorem State.onExfer_casc (f : ExferSt → ExferSt) : (s.onExfer f).casc = s.casc := rfl
@[simp] theorem State.onExfer_queues (f : ExferSt → ExferSt) : (s.onExfer f).queues = s.queues := rfl
@[simp] theorem State.onExfer_out (f : ExferSt → ExferSt) : (s.onExfer f).out = s.out := rfl
@[simp] theorem State.onExfer_free (f : ExferSt → ExferSt) : (s.onExfer f).free = s.free := rfl

/-! ### onPtp -/

@[simp] theorem State.onPtp_pending (f : PtpSt → PtpSt) : (s.onPtp f).pending = s.pending := rfl
@[simp] theorem State.onPtp_clk (f : PtpSt → PtpSt) : (s.onPtp f).clk = s.clk := rfl
@[simp] theorem State.onPtp_dict (f : PtpSt → PtpSt) : (s.onPtp f).dict = s.dict := rfl
@[simp] theorem State.onPtp_bytes (f : PtpSt → PtpSt) : (s.onPtp f).bytes = s.bytes := rfl
@[simp] theorem State.onPtp_mem (f : PtpSt → PtpSt) : (s.onPtp f).mem = s.mem := rfl
@[simp] theorem State.onPtp_slotsZero (f : PtpSt → PtpSt) : (s.onPtp f).slotsZero = s.slotsZero := rfl
@[simp] theorem State.onPtp_commit (f : PtpSt → PtpSt) : (s.onPtp f).commit = s.commit := rfl
@[simp] theorem State.onPtp_ops (f : PtpSt → PtpSt) : (s.onPtp f).ops = s.ops := rfl
@[simp] theorem State.onPtp_can (f : PtpSt → PtpSt) : (s.onPtp f).can = s.can := rfl
@[simp] theorem State.onPtp_exfer (f : PtpSt → PtpSt) : (s.onPtp f).exfer = s.exfer := rfl
@[simp] theorem State.onPtp_evt (f : PtpSt → PtpSt) : (s.onPtp f).evt = s.evt := rfl
@[simp] theorem State.onPtp_power (f : PtpSt → PtpSt) : (s.onPtp f).power = s.power := rfl
@[simp] theorem State.onPtp_flash (f : PtpSt → PtpSt) : (s.onPtp f).flash = s.flash := rfl
@[simp] theorem State.onPtp_survey (f : PtpSt → PtpSt) : (s.onPtp f).survey = s.survey := rfl
@[simp] theorem State.onPtp_hostCheck (f : PtpSt → PtpSt) : (s.onPtp f).hostCheck = s.hostCheck := rfl
@[simp] theorem State.onPtp_flows (f : PtpSt → PtpSt) : (s.onPtp f).flows = s.flows := rfl
@[simp] theorem State.onPtp_flowStats (f : PtpSt → PtpSt) : (s.onPtp f).flowStats = s.flowStats := rfl
@[simp] theorem State.onPtp_ports (f : PtpSt → PtpSt) : (s.onPtp f).ports = s.ports := rfl
@[simp] theorem State.onPtp_ana (f : PtpSt → PtpSt) : (s.onPtp f).ana = s.ana := rfl
@[simp] theorem State.onPtp_chans (f : PtpSt → PtpSt) : (s.onPtp f).chans = s.chans := rfl
@[simp] theorem State.onPtp_orch (f : PtpSt → PtpSt) : (s.onPtp f).orch = s.orch := rfl
@[simp] theorem State.onPtp_egress (f : PtpSt → PtpSt) : (s.onPtp f).egress = s.egress := rfl
@[simp] theorem State.onPtp_audio (f : PtpSt → PtpSt) : (s.onPtp f).audio = s.audio := rfl
@[simp] theorem State.onPtp_atlas (f : PtpSt → PtpSt) : (s.onPtp f).atlas = s.atlas := rfl
@[simp] theorem State.onPtp_movers (f : PtpSt → PtpSt) : (s.onPtp f).movers = s.movers := rfl
@[simp] theorem State.onPtp_hole (f : PtpSt → PtpSt) : (s.onPtp f).hole = s.hole := rfl
@[simp] theorem State.onPtp_vpll (f : PtpSt → PtpSt) : (s.onPtp f).vpll = s.vpll := rfl
@[simp] theorem State.onPtp_apll (f : PtpSt → PtpSt) : (s.onPtp f).apll = s.apll := rfl
@[simp] theorem State.onPtp_tio (f : PtpSt → PtpSt) : (s.onPtp f).tio = s.tio := rfl
@[simp] theorem State.onPtp_links (f : PtpSt → PtpSt) : (s.onPtp f).links = s.links := rfl
@[simp] theorem State.onPtp_pair (f : PtpSt → PtpSt) : (s.onPtp f).pair = s.pair := rfl
@[simp] theorem State.onPtp_casc (f : PtpSt → PtpSt) : (s.onPtp f).casc = s.casc := rfl
@[simp] theorem State.onPtp_queues (f : PtpSt → PtpSt) : (s.onPtp f).queues = s.queues := rfl
@[simp] theorem State.onPtp_out (f : PtpSt → PtpSt) : (s.onPtp f).out = s.out := rfl
@[simp] theorem State.onPtp_free (f : PtpSt → PtpSt) : (s.onPtp f).free = s.free := rfl

/-! ### onPower -/

@[simp] theorem State.onPower_pending (f : PowerSt → PowerSt) : (s.onPower f).pending = s.pending := rfl
@[simp] theorem State.onPower_clk (f : PowerSt → PowerSt) : (s.onPower f).clk = s.clk := rfl
@[simp] theorem State.onPower_dict (f : PowerSt → PowerSt) : (s.onPower f).dict = s.dict := rfl
@[simp] theorem State.onPower_bytes (f : PowerSt → PowerSt) : (s.onPower f).bytes = s.bytes := rfl
@[simp] theorem State.onPower_mem (f : PowerSt → PowerSt) : (s.onPower f).mem = s.mem := rfl
@[simp] theorem State.onPower_slotsZero (f : PowerSt → PowerSt) : (s.onPower f).slotsZero = s.slotsZero := rfl
@[simp] theorem State.onPower_commit (f : PowerSt → PowerSt) : (s.onPower f).commit = s.commit := rfl
@[simp] theorem State.onPower_ops (f : PowerSt → PowerSt) : (s.onPower f).ops = s.ops := rfl
@[simp] theorem State.onPower_can (f : PowerSt → PowerSt) : (s.onPower f).can = s.can := rfl
@[simp] theorem State.onPower_exfer (f : PowerSt → PowerSt) : (s.onPower f).exfer = s.exfer := rfl
@[simp] theorem State.onPower_evt (f : PowerSt → PowerSt) : (s.onPower f).evt = s.evt := rfl
@[simp] theorem State.onPower_flash (f : PowerSt → PowerSt) : (s.onPower f).flash = s.flash := rfl
@[simp] theorem State.onPower_survey (f : PowerSt → PowerSt) : (s.onPower f).survey = s.survey := rfl
@[simp] theorem State.onPower_hostCheck (f : PowerSt → PowerSt) : (s.onPower f).hostCheck = s.hostCheck := rfl
@[simp] theorem State.onPower_flows (f : PowerSt → PowerSt) : (s.onPower f).flows = s.flows := rfl
@[simp] theorem State.onPower_flowStats (f : PowerSt → PowerSt) : (s.onPower f).flowStats = s.flowStats := rfl
@[simp] theorem State.onPower_ports (f : PowerSt → PowerSt) : (s.onPower f).ports = s.ports := rfl
@[simp] theorem State.onPower_ana (f : PowerSt → PowerSt) : (s.onPower f).ana = s.ana := rfl
@[simp] theorem State.onPower_chans (f : PowerSt → PowerSt) : (s.onPower f).chans = s.chans := rfl
@[simp] theorem State.onPower_orch (f : PowerSt → PowerSt) : (s.onPower f).orch = s.orch := rfl
@[simp] theorem State.onPower_egress (f : PowerSt → PowerSt) : (s.onPower f).egress = s.egress := rfl
@[simp] theorem State.onPower_audio (f : PowerSt → PowerSt) : (s.onPower f).audio = s.audio := rfl
@[simp] theorem State.onPower_atlas (f : PowerSt → PowerSt) : (s.onPower f).atlas = s.atlas := rfl
@[simp] theorem State.onPower_movers (f : PowerSt → PowerSt) : (s.onPower f).movers = s.movers := rfl
@[simp] theorem State.onPower_hole (f : PowerSt → PowerSt) : (s.onPower f).hole = s.hole := rfl
@[simp] theorem State.onPower_ptp (f : PowerSt → PowerSt) : (s.onPower f).ptp = s.ptp := rfl
@[simp] theorem State.onPower_vpll (f : PowerSt → PowerSt) : (s.onPower f).vpll = s.vpll := rfl
@[simp] theorem State.onPower_apll (f : PowerSt → PowerSt) : (s.onPower f).apll = s.apll := rfl
@[simp] theorem State.onPower_tio (f : PowerSt → PowerSt) : (s.onPower f).tio = s.tio := rfl
@[simp] theorem State.onPower_links (f : PowerSt → PowerSt) : (s.onPower f).links = s.links := rfl
@[simp] theorem State.onPower_pair (f : PowerSt → PowerSt) : (s.onPower f).pair = s.pair := rfl
@[simp] theorem State.onPower_casc (f : PowerSt → PowerSt) : (s.onPower f).casc = s.casc := rfl
@[simp] theorem State.onPower_queues (f : PowerSt → PowerSt) : (s.onPower f).queues = s.queues := rfl
@[simp] theorem State.onPower_out (f : PowerSt → PowerSt) : (s.onPower f).out = s.out := rfl
@[simp] theorem State.onPower_free (f : PowerSt → PowerSt) : (s.onPower f).free = s.free := rfl

/-! ### raise -/

@[simp] theorem State.raise_pending (e : Event) : (s.raise e).pending = s.pending := by unfold State.raise; split <;> rfl
@[simp] theorem State.raise_clk (e : Event) : (s.raise e).clk = s.clk := by unfold State.raise; split <;> rfl
@[simp] theorem State.raise_dict (e : Event) : (s.raise e).dict = s.dict := by unfold State.raise; split <;> rfl
@[simp] theorem State.raise_bytes (e : Event) : (s.raise e).bytes = s.bytes := by unfold State.raise; split <;> rfl
@[simp] theorem State.raise_mem (e : Event) : (s.raise e).mem = s.mem := by unfold State.raise; split <;> rfl
@[simp] theorem State.raise_slotsZero (e : Event) : (s.raise e).slotsZero = s.slotsZero := by unfold State.raise; split <;> rfl
@[simp] theorem State.raise_commit (e : Event) : (s.raise e).commit = s.commit := by unfold State.raise; split <;> rfl
@[simp] theorem State.raise_ops (e : Event) : (s.raise e).ops = s.ops := by unfold State.raise; split <;> rfl
@[simp] theorem State.raise_can (e : Event) : (s.raise e).can = s.can := by unfold State.raise; split <;> rfl
@[simp] theorem State.raise_exfer (e : Event) : (s.raise e).exfer = s.exfer := by unfold State.raise; split <;> rfl
@[simp] theorem State.raise_power (e : Event) : (s.raise e).power = s.power := by unfold State.raise; split <;> rfl
@[simp] theorem State.raise_flash (e : Event) : (s.raise e).flash = s.flash := by unfold State.raise; split <;> rfl
@[simp] theorem State.raise_survey (e : Event) : (s.raise e).survey = s.survey := by unfold State.raise; split <;> rfl
@[simp] theorem State.raise_hostCheck (e : Event) : (s.raise e).hostCheck = s.hostCheck := by unfold State.raise; split <;> rfl
@[simp] theorem State.raise_flows (e : Event) : (s.raise e).flows = s.flows := by unfold State.raise; split <;> rfl
@[simp] theorem State.raise_flowStats (e : Event) : (s.raise e).flowStats = s.flowStats := by unfold State.raise; split <;> rfl
@[simp] theorem State.raise_ports (e : Event) : (s.raise e).ports = s.ports := by unfold State.raise; split <;> rfl
@[simp] theorem State.raise_ana (e : Event) : (s.raise e).ana = s.ana := by unfold State.raise; split <;> rfl
@[simp] theorem State.raise_chans (e : Event) : (s.raise e).chans = s.chans := by unfold State.raise; split <;> rfl
@[simp] theorem State.raise_orch (e : Event) : (s.raise e).orch = s.orch := by unfold State.raise; split <;> rfl
@[simp] theorem State.raise_egress (e : Event) : (s.raise e).egress = s.egress := by unfold State.raise; split <;> rfl
@[simp] theorem State.raise_audio (e : Event) : (s.raise e).audio = s.audio := by unfold State.raise; split <;> rfl
@[simp] theorem State.raise_atlas (e : Event) : (s.raise e).atlas = s.atlas := by unfold State.raise; split <;> rfl
@[simp] theorem State.raise_movers (e : Event) : (s.raise e).movers = s.movers := by unfold State.raise; split <;> rfl
@[simp] theorem State.raise_hole (e : Event) : (s.raise e).hole = s.hole := by unfold State.raise; split <;> rfl
@[simp] theorem State.raise_ptp (e : Event) : (s.raise e).ptp = s.ptp := by unfold State.raise; split <;> rfl
@[simp] theorem State.raise_vpll (e : Event) : (s.raise e).vpll = s.vpll := by unfold State.raise; split <;> rfl
@[simp] theorem State.raise_apll (e : Event) : (s.raise e).apll = s.apll := by unfold State.raise; split <;> rfl
@[simp] theorem State.raise_tio (e : Event) : (s.raise e).tio = s.tio := by unfold State.raise; split <;> rfl
@[simp] theorem State.raise_links (e : Event) : (s.raise e).links = s.links := by unfold State.raise; split <;> rfl
@[simp] theorem State.raise_pair (e : Event) : (s.raise e).pair = s.pair := by unfold State.raise; split <;> rfl
@[simp] theorem State.raise_casc (e : Event) : (s.raise e).casc = s.casc := by unfold State.raise; split <;> rfl
@[simp] theorem State.raise_queues (e : Event) : (s.raise e).queues = s.queues := by unfold State.raise; split <;> rfl
@[simp] theorem State.raise_out (e : Event) : (s.raise e).out = s.out := by unfold State.raise; split <;> rfl
@[simp] theorem State.raise_free (e : Event) : (s.raise e).free = s.free := by unfold State.raise; split <;> rfl

/-! ### until -/

/-- Time either stands, or moves by a number of cycles: the one lemma about `until` that others cite. -/
theorem State.until_cases (t : Tick) : s.until t = s ∨ ∃ k, s.until t = s.cycles k := by
  unfold State.until
  split
  · exact Or.inl rfl
  · exact Or.inr ⟨_, rfl⟩

@[simp] theorem State.until_pending (t : Tick) : (s.until t).pending = s.pending := by rcases s.until_cases t with h | ⟨k, h⟩ <;> (rw [h]; try rfl)
@[simp] theorem State.until_dict (t : Tick) : (s.until t).dict = s.dict := by rcases s.until_cases t with h | ⟨k, h⟩ <;> (rw [h]; try rfl)
@[simp] theorem State.until_bytes (t : Tick) : (s.until t).bytes = s.bytes := by rcases s.until_cases t with h | ⟨k, h⟩ <;> (rw [h]; try rfl)
@[simp] theorem State.until_mem (t : Tick) : (s.until t).mem = s.mem := by rcases s.until_cases t with h | ⟨k, h⟩ <;> (rw [h]; try rfl)
@[simp] theorem State.until_slotsZero (t : Tick) : (s.until t).slotsZero = s.slotsZero := by rcases s.until_cases t with h | ⟨k, h⟩ <;> (rw [h]; try rfl)
@[simp] theorem State.until_commit (t : Tick) : (s.until t).commit = s.commit := by rcases s.until_cases t with h | ⟨k, h⟩ <;> (rw [h]; try rfl)
@[simp] theorem State.until_ops (t : Tick) : (s.until t).ops = s.ops := by rcases s.until_cases t with h | ⟨k, h⟩ <;> (rw [h]; try rfl)
@[simp] theorem State.until_can (t : Tick) : (s.until t).can = s.can := by rcases s.until_cases t with h | ⟨k, h⟩ <;> (rw [h]; try rfl)
@[simp] theorem State.until_exfer (t : Tick) : (s.until t).exfer = s.exfer := by rcases s.until_cases t with h | ⟨k, h⟩ <;> (rw [h]; try rfl)
@[simp] theorem State.until_evt (t : Tick) : (s.until t).evt = s.evt := by rcases s.until_cases t with h | ⟨k, h⟩ <;> (rw [h]; try rfl)
@[simp] theorem State.until_power (t : Tick) : (s.until t).power = s.power := by rcases s.until_cases t with h | ⟨k, h⟩ <;> (rw [h]; try rfl)
@[simp] theorem State.until_flash (t : Tick) : (s.until t).flash = s.flash := by rcases s.until_cases t with h | ⟨k, h⟩ <;> (rw [h]; try rfl)
@[simp] theorem State.until_survey (t : Tick) : (s.until t).survey = s.survey := by rcases s.until_cases t with h | ⟨k, h⟩ <;> (rw [h]; try rfl)
@[simp] theorem State.until_hostCheck (t : Tick) : (s.until t).hostCheck = s.hostCheck := by rcases s.until_cases t with h | ⟨k, h⟩ <;> (rw [h]; try rfl)
@[simp] theorem State.until_flows (t : Tick) : (s.until t).flows = s.flows := by rcases s.until_cases t with h | ⟨k, h⟩ <;> (rw [h]; try rfl)
@[simp] theorem State.until_flowStats (t : Tick) : (s.until t).flowStats = s.flowStats := by rcases s.until_cases t with h | ⟨k, h⟩ <;> (rw [h]; try rfl)
@[simp] theorem State.until_ports (t : Tick) : (s.until t).ports = s.ports := by rcases s.until_cases t with h | ⟨k, h⟩ <;> (rw [h]; try rfl)
@[simp] theorem State.until_ana (t : Tick) : (s.until t).ana = s.ana := by rcases s.until_cases t with h | ⟨k, h⟩ <;> (rw [h]; try rfl)
@[simp] theorem State.until_chans (t : Tick) : (s.until t).chans = s.chans := by rcases s.until_cases t with h | ⟨k, h⟩ <;> (rw [h]; try rfl)
@[simp] theorem State.until_orch (t : Tick) : (s.until t).orch = s.orch := by rcases s.until_cases t with h | ⟨k, h⟩ <;> (rw [h]; try rfl)
@[simp] theorem State.until_egress (t : Tick) : (s.until t).egress = s.egress := by rcases s.until_cases t with h | ⟨k, h⟩ <;> (rw [h]; try rfl)
@[simp] theorem State.until_audio (t : Tick) : (s.until t).audio = s.audio := by rcases s.until_cases t with h | ⟨k, h⟩ <;> (rw [h]; try rfl)
@[simp] theorem State.until_atlas (t : Tick) : (s.until t).atlas = s.atlas := by rcases s.until_cases t with h | ⟨k, h⟩ <;> (rw [h]; try rfl)
@[simp] theorem State.until_movers (t : Tick) : (s.until t).movers = s.movers := by rcases s.until_cases t with h | ⟨k, h⟩ <;> (rw [h]; try rfl)
@[simp] theorem State.until_hole (t : Tick) : (s.until t).hole = s.hole := by rcases s.until_cases t with h | ⟨k, h⟩ <;> (rw [h]; try rfl)
@[simp] theorem State.until_ptp (t : Tick) : (s.until t).ptp = s.ptp := by rcases s.until_cases t with h | ⟨k, h⟩ <;> (rw [h]; try rfl)
@[simp] theorem State.until_vpll (t : Tick) : (s.until t).vpll = s.vpll := by rcases s.until_cases t with h | ⟨k, h⟩ <;> (rw [h]; try rfl)
@[simp] theorem State.until_apll (t : Tick) : (s.until t).apll = s.apll := by rcases s.until_cases t with h | ⟨k, h⟩ <;> (rw [h]; try rfl)
@[simp] theorem State.until_tio (t : Tick) : (s.until t).tio = s.tio := by rcases s.until_cases t with h | ⟨k, h⟩ <;> (rw [h]; try rfl)
@[simp] theorem State.until_links (t : Tick) : (s.until t).links = s.links := by rcases s.until_cases t with h | ⟨k, h⟩ <;> (rw [h]; try rfl)
@[simp] theorem State.until_pair (t : Tick) : (s.until t).pair = s.pair := by rcases s.until_cases t with h | ⟨k, h⟩ <;> (rw [h]; try rfl)
@[simp] theorem State.until_casc (t : Tick) : (s.until t).casc = s.casc := by rcases s.until_cases t with h | ⟨k, h⟩ <;> (rw [h]; try rfl)
@[simp] theorem State.until_queues (t : Tick) : (s.until t).queues = s.queues := by rcases s.until_cases t with h | ⟨k, h⟩ <;> (rw [h]; try rfl)
@[simp] theorem State.until_out (t : Tick) : (s.until t).out = s.out := by rcases s.until_cases t with h | ⟨k, h⟩ <;> (rw [h]; try rfl)
@[simp] theorem State.until_free (t : Tick) : (s.until t).free = s.free := by rcases s.until_cases t with h | ⟨k, h⟩ <;> (rw [h]; try rfl)

end Sys2Proof.Machine
end

