-- ==== Sys2Proof/Laws/Tab.lean ====
section
/-! SUPPORT. Laws/Tab.lean: the sparse tables: what a key reads as after each operation, and that each keeps the order and the
canonical form. -/

namespace Sys2Proof.Machine

variable {α : Type}

theorem Tab.get_eq_find? (d : α) (t : Tab α) (n : Nat) : Tab.get d t n = (Tab.find? t n).getD d := by
  induction t with
  | nil => rfl
  | cons p t ih => obtain ⟨k, v⟩ := p; simp only [Tab.get, Tab.find?]; split <;> simp_all

/-- Keys below the first one of a rising table read as unlisted. -/
theorem Tab.find?_below {t : Tab α} {lo n : Nat} (h : Tab.sortedFrom lo t = true) (hn : n < lo) : Tab.find? t n = none := by
  induction t generalizing lo with
  | nil => rfl
  | cons p t ih =>
    obtain ⟨k, v⟩ := p
    simp only [Tab.sortedFrom, Bool.and_eq_true, decide_eq_true_eq] at h
    simp only [Tab.find?]
    rw [if_neg (by omega)]
    exact ih h.2 (by omega)

theorem Tab.sortedFrom_mono {t : Tab α} {a b : Nat} (h : Tab.sortedFrom b t = true) (hab : a ≤ b) : Tab.sortedFrom a t = true := by
  cases t with
  | nil => rfl
  | cons p t => simp only [Tab.sortedFrom, Bool.and_eq_true, decide_eq_true_eq] at h ⊢; exact ⟨by omega, h.2⟩

/-- An entry put in place is read back; every other key reads as before. -/
theorem Tab.find?_put (t : Tab α) (n m : Nat) (a : α) : Tab.find? (Tab.put t n a) m = if m = n then some a else Tab.find? t m := by
  induction t with
  | nil => simp [Tab.put, Tab.find?]
  | cons p t ih =>
    obtain ⟨k, v⟩ := p
    simp only [Tab.put]
    split
    · simp only [Tab.find?]
    · split
      · rename_i _ h; subst h; simp only [Tab.find?]; split <;> rfl
      · simp only [Tab.find?, ih]; split <;> split <;> simp_all

theorem Tab.find?_erase {t : Tab α} {lo : Nat} (h : Tab.sortedFrom lo t = true) (n m : Nat) :
    Tab.find? (Tab.erase t n) m = if m = n then none else Tab.find? t m := by
  induction t generalizing lo with
  | nil => simp [Tab.erase, Tab.find?]
  | cons p t ih =>
    obtain ⟨k, v⟩ := p
    simp only [Tab.sortedFrom, Bool.and_eq_true, decide_eq_true_eq] at h
    simp only [Tab.erase]
    split
    · rename_i hk
      split
      · rename_i hm; subst hm
        simp only [Tab.find?]; rw [if_neg (by omega)]; exact Tab.find?_below h.2 (by omega)
      · rfl
    · split
      · rename_i hk; subst hk
        split
        · rename_i hm; subst hm; exact Tab.find?_below h.2 (by omega)
        · rename_i hm; simp only [Tab.find?]; rw [if_neg hm]
      · simp only [Tab.find?, ih h.2]; split <;> split <;> simp_all

theorem Tab.sortedFrom_put {t : Tab α} {lo : Nat} (h : Tab.sortedFrom lo t = true) {n : Nat} (hn : lo ≤ n) (a : α) :
    Tab.sortedFrom lo (Tab.put t n a) = true := by
  induction t generalizing lo with
  | nil => simp [Tab.put, Tab.sortedFrom, hn]
  | cons p t ih =>
    obtain ⟨k, v⟩ := p
    simp only [Tab.sortedFrom, Bool.and_eq_true, decide_eq_true_eq] at h
    simp only [Tab.put]
    split
    · simp only [Tab.sortedFrom, Bool.and_eq_true, decide_eq_true_eq]
      exact ⟨hn, by omega, h.2⟩
    · split
      · rename_i hk; subst hk
        simp only [Tab.sortedFrom, Bool.and_eq_true, decide_eq_true_eq]; exact h
      · simp only [Tab.sortedFrom, Bool.and_eq_true, decide_eq_true_eq]
        exact ⟨h.1, ih h.2 (by omega)⟩

theorem Tab.sortedFrom_erase {t : Tab α} {lo : Nat} (h : Tab.sortedFrom lo t = true) (n : Nat) :
    Tab.sortedFrom lo (Tab.erase t n) = true := by
  induction t generalizing lo with
  | nil => rfl
  | cons p t ih =>
    obtain ⟨k, v⟩ := p
    simp only [Tab.sortedFrom, Bool.and_eq_true, decide_eq_true_eq] at h
    simp only [Tab.erase]
    split
    · simp only [Tab.sortedFrom, Bool.and_eq_true, decide_eq_true_eq]; exact h
    · split
      · exact Tab.sortedFrom_mono h.2 (by omega)
      · simp only [Tab.sortedFrom, Bool.and_eq_true, decide_eq_true_eq]; exact ⟨h.1, ih h.2⟩

theorem Tab.sortedFrom_filter {t : Tab α} {lo : Nat} (h : Tab.sortedFrom lo t = true) (f : Nat × α → Bool) :
    Tab.sortedFrom lo (t.filter f) = true := by
  induction t generalizing lo with
  | nil => rfl
  | cons p t ih =>
    obtain ⟨k, v⟩ := p
    simp only [Tab.sortedFrom, Bool.and_eq_true, decide_eq_true_eq] at h
    simp only [List.filter_cons]
    split
    · simp only [Tab.sortedFrom, Bool.and_eq_true, decide_eq_true_eq]; exact ⟨h.1, ih h.2⟩
    · exact Tab.sortedFrom_mono (ih h.2) (by omega)

theorem Tab.mem_put {t : Tab α} {n : Nat} {a : α} {p : Nat × α} (h : p ∈ Tab.put t n a) : p = (n, a) ∨ p ∈ t := by
  induction t with
  | nil => simp [Tab.put] at h; exact Or.inl h
  | cons q t ih =>
    obtain ⟨k, v⟩ := q
    simp only [Tab.put] at h
    split at h
    · simpa using h
    · split at h
      · simp only [List.mem_cons] at h ⊢; tauto
      · simp only [List.mem_cons] at h ⊢
        rcases h with h | h
        · tauto
        · rcases ih h with h | h <;> tauto

theorem Tab.mem_erase {t : Tab α} {n : Nat} {p : Nat × α} (h : p ∈ Tab.erase t n) : p ∈ t := by
  induction t with
  | nil => simp [Tab.erase] at h
  | cons q t ih =>
    obtain ⟨k, v⟩ := q
    simp only [Tab.erase] at h
    split at h
    · exact h
    · split at h
      · exact List.mem_cons_of_mem _ h
      · simp only [List.mem_cons] at h ⊢; tauto

variable [DecidableEq α]

theorem Tab.sortedFrom_set {t : Tab α} (h : Tab.sortedFrom 0 t = true) (d a : α) (n : Nat) :
    Tab.sortedFrom 0 (Tab.set d t n a) = true := by
  unfold Tab.set
  split
  · exact Tab.sortedFrom_erase h n
  · exact Tab.sortedFrom_put h (Nat.zero_le n) a

/-- A written key reads back; every other key reads as before. -/
theorem Tab.get_set {t : Tab α} (h : Tab.sortedFrom 0 t = true) (d a : α) (n : Nat) (d' : α) (m : Nat) :
    Tab.get d' (Tab.set d t n a) m = if m = n then (if a = d then d' else a) else Tab.get d' t m := by
  simp only [Tab.get_eq_find?, Tab.set]
  split
  · rw [Tab.find?_erase h]; split <;> rfl
  · rw [Tab.find?_put]; split <;> rfl

/-- A write keeps the canonical form. -/
theorem Tab.wf_set {t : Tab α} {d : Nat → α} (h : Tab.wf d t = true) (n : Nat) (a : α) :
    Tab.wf d (Tab.set (d n) t n a) = true := by
  simp only [Tab.wf, Bool.and_eq_true, List.all_eq_true, bne_iff_ne, ne_eq] at h ⊢
  refine ⟨Tab.sortedFrom_set h.1 _ _ _, fun p hp => ?_⟩
  simp only [Tab.set] at hp
  split at hp
  · exact h.2 p (Tab.mem_erase hp)
  · rename_i hne
    rcases Tab.mem_put hp with hp | hp
    · subst hp; exact hne
    · exact h.2 p hp

theorem Tab.wf_filter {t : Tab α} {d : Nat → α} (h : Tab.wf d t = true) (f : Nat × α → Bool) :
    Tab.wf d (t.filter f) = true := by
  simp only [Tab.wf, Bool.and_eq_true, List.all_eq_true, bne_iff_ne, ne_eq] at h ⊢
  exact ⟨Tab.sortedFrom_filter h.1 f, fun p hp => h.2 p (List.mem_of_mem_filter hp)⟩

end Sys2Proof.Machine
end

