-- ==== Sys2Proof/Laws/Memory.lean ====
section
/-! SUPPORT. Laws/Memory.lean: the memory and the objects: what reads as what after a write, and that every operation over the
memory keeps its canonical form. -/

namespace Sys2Proof.Machine

variable {s : State}

/-! ### The system address space -/

theorem Memory.sorted {m : Tab Byte} (h : Memory.wf m = true) : Tab.sortedFrom 0 m = true := by
  simp only [Memory.wf, Tab.wf, Bool.and_eq_true] at h
  exact h.1

/-- A written byte reads back, and no other byte changes. -/
theorem memAt_memPut (h : Memory.wf s.mem = true) (a b : Nat) (x : Byte) :
    (s.memPut a x).memAt b = if b = a then x else s.memAt b := by
  simp only [State.memAt, State.memPut, Tab.get_set (Memory.sorted h)]
  split
  · split <;> simp_all
  · rfl

theorem memPut_wf (h : Memory.wf s.mem = true) (a : Nat) (x : Byte) : Memory.wf (s.memPut a x).mem = true :=
  Tab.wf_set (d := fun _ => (0 : Byte)) h a x

theorem memPuts_wf (h : Memory.wf s.mem = true) (a : Nat) (xs : List Byte) : Memory.wf (s.memPuts a xs).mem = true := by
  induction xs generalizing s a with
  | nil => exact h
  | cons x xs ih => exact ih (memPut_wf h a x) (a + 1)

/-- A run of bytes is stored where it says, and nowhere else. -/
theorem memAt_memPuts (h : Memory.wf s.mem = true) (a b : Nat) (xs : List Byte) :
    (s.memPuts a xs).memAt b = if a ≤ b ∧ b < a + xs.length then xs.getD (b - a) 0 else s.memAt b := by
  induction xs generalizing s a with
  | nil => simp only [State.memPuts, List.length_nil]; rw [if_neg (by omega)]
  | cons x xs ih =>
    rw [State.memPuts, ih (memPut_wf h a x), memAt_memPut h]
    by_cases hb : b = a
    · subst hb
      rw [if_neg (by omega), if_pos rfl, if_pos (by simp)]
      simp
    · by_cases hr : a + 1 ≤ b ∧ b < a + 1 + xs.length
      · obtain ⟨k, hk⟩ : ∃ k, b - a = k + 1 := ⟨b - a - 1, by omega⟩
        rw [if_pos hr, if_pos (by simp only [List.length_cons]; omega), hk, show b - (a + 1) = k by omega]
        simp
      · rw [if_neg hr, if_neg hb, if_neg (by simp only [List.length_cons]; omega)]

/-- What a memory test leaves is in order too. -/
theorem testMemory_wf (h : Memory.wf s.mem = true) : Memory.wf s.testMemory.mem = true :=
  Tab.wf_filter (d := fun _ => (0 : Byte)) h _

theorem reset_memory_wf : Memory.wf State.reset.mem = true := rfl

/-! ### Objects -/

/-- An object that is set reads its value; an object under another key reads as before. -/
theorem obj_setObj (h : Tab.sortedFrom 0 s.dict = true) (i j i' j' : Nat) (v : Int) :
    (s.setObj i j v).obj i' j' = if key i' j' = key i j then v else s.obj i' j' := by
  simp only [State.obj, State.setObj, Tab.get_set h]
  split
  · rename_i e; rw [e]; split <;> simp_all
  · rfl

theorem setObj_dict_sorted (h : Tab.sortedFrom 0 s.dict = true) (i j : Nat) (v : Int) :
    Tab.sortedFrom 0 (s.setObj i j v).dict = true := Tab.sortedFrom_set h _ _ _

/-- Setting an object keeps every store in order. -/
theorem setObj_inv (h : s.Inv) (i j : Nat) (v : Int) : (s.setObj i j v).Inv :=
  ⟨h.1, setObj_dict_sorted h.2.1 i j v, h.2.2⟩

/-- So does writing a byte of memory. -/
theorem memPut_inv (h : s.Inv) (a : Nat) (x : Byte) : (s.memPut a x).Inv := ⟨memPut_wf h.1 a x, h.2⟩

/-- And writing a byte of an object. -/
theorem putByte_inv (h : s.Inv) (i j off : Nat) (x : Byte) : (s.putByte i j off x).Inv := by
  unfold State.putByte
  split
  · exact ⟨h.1, h.2.1, Tab.sortedFrom_put h.2.2 (Nat.zero_le _) _⟩
  · exact ⟨h.1, h.2.1, Tab.sortedFrom_set h.2.2 _ _ _⟩

theorem putBytes_inv (h : s.Inv) (i j off : Nat) (xs : List Byte) : (s.putBytes i j off xs).Inv := by
  induction xs generalizing s off with
  | nil => exact h
  | cons x xs ih => exact ih (putByte_inv h i j off x) (off + 1)

end Sys2Proof.Machine
end

