-- ==== Sys2Proof/Laws/Admission.lean ====
section
/-!
SUPPORT. The admission of a commit cut into small evaluations: the rule of the Legend slots (R151), which reads 256 slots,
holds of every dictionary that lists no object of theirs, so a commit can be judged without evaluating it.
-/

set_option Elab.async false

namespace Sys2Proof.Machine

theorem firstCode_append (a b : List Nat) : firstCode (a ++ b) = if firstCode a = 0 then firstCode b else firstCode a := by
  induction a with
  | nil => simp [firstCode]
  | cons x xs ih =>
    by_cases hx : x = 0
    · simp [firstCode, hx, ih]
    · simp [firstCode, hx]

theorem slot_width_default_a : (List.range' 0 64).all (fun j => defaultOf (key (0x6100 + j) 2) == 0) = true := by decide +kernel
theorem slot_width_default_b : (List.range' 64 64).all (fun j => defaultOf (key (0x6100 + j) 2) == 0) = true := by decide +kernel
theorem slot_width_default_c : (List.range' 128 64).all (fun j => defaultOf (key (0x6100 + j) 2) == 0) = true := by decide +kernel
theorem slot_width_default_d : (List.range' 192 64).all (fun j => defaultOf (key (0x6100 + j) 2) == 0) = true := by decide +kernel

/-- A Legend slot's width is 0 by default (Table 19-8). -/
theorem slot_width_default {j : Nat} (h : j < 256) : defaultOf (key (0x6100 + j) 2) = 0 := by
  have on (lo : Nat) (ha : (List.range' lo 64).all (fun j => defaultOf (key (0x6100 + j) 2) == 0) = true) (h1 : lo ≤ j)
      (h2 : j < lo + 64) : defaultOf (key (0x6100 + j) 2) = 0 := by
    have hm : j ∈ List.range' lo 64 := by rw [List.mem_range'_1]; omega
    exact beq_iff_eq.mp (List.all_eq_true.mp ha j hm)
  by_cases a : j < 64
  · exact on 0 slot_width_default_a (by omega) (by omega)
  by_cases b : j < 128
  · exact on 64 slot_width_default_b (by omega) (by omega)
  by_cases c : j < 192
  · exact on 128 slot_width_default_c (by omega) (by omega)
  · exact on 192 slot_width_default_d (by omega) (by omega)

/-- The dictionary lists no object of a Legend slot. -/
def noSlots (v : State) : Bool := v.dict.all fun e => e.1 / 65536 != 0x61

theorem slotBytes_of_noSlots {v : State} (h : noSlots v = true) {j : Nat} (hj : j < 256) : v.slotBytes j = 0 := by
  have absent : ∀ t : Tab Int, t.all (fun e => e.1 / 65536 != 0x61) = true → Tab.find? t (key (0x6100 + j) 2) = none := by
    intro t ht
    induction t with
    | nil => rfl
    | cons e es ih =>
      rw [List.all_cons, Bool.and_eq_true] at ht
      have hne' : ¬(key (0x6100 + j) 2 = e.1) := by
        intro he
        have := ht.1
        rw [← he] at this
        simp only [key, bne_iff_ne, ne_eq] at this
        omega
      simp only [Tab.find?, hne', if_neg, not_false_eq_true, ih ht.2]
  have h2 : v.nat (0x6100 + j) 2 = 0 := by
    rw [State.nat, State.obj, Tab.get_eq_find?, absent v.dict h, slot_width_default hj]; rfl
  rw [State.slotBytes, h2, Nat.zero_mul, Nat.zero_mul]

/-- Without slot objects the rule of R151 holds. -/
theorem slotsOk_of_noSlots {v : State} (h : noSlots v = true) : v.slotsOk = true := by
  have hf : ((List.range 256).filter fun j => v.slotBytes j != 0) = [] := by
    rw [List.filter_eq_nil_iff]
    intro j hj
    rw [slotBytes_of_noSlots h (List.mem_range.mp hj)]
    decide
  rw [State.slotsOk, hf]
  rfl

/-- The checks of a configuration without slot objects, the rule of the slots left out. -/
theorem checkConfig_of_noSlots {o v : State} (h : noSlots v = true)
    (hc : firstCode ([State.checkPower o v, State.checkFlows o v, State.checkLanes o v, State.checkAudio o v, v.checkPair,
      State.checkCascade o v] ++ (v.chansOn.map v.checkChannel) ++ [need v.groupsOk 0x06040043, v.checkSums, v.checkEgress]) = 0) :
    State.checkConfig o v = 0 := by
  rw [State.checkConfig, slotsOk_of_noSlots h, ← hc, firstCode_append _ [_, _, _], firstCode_append _ [_, _, _, _]]
  rfl

/-- A commit in time, within the limits and without a role swap, whose configuration the checks let through. -/
theorem judgeCommit_of_noSlots {s : State} {ws : List HostWrite} {target : Tick}
    (hq : (msT 1 + s.now ≤ target ∧ s.commit.pending.any (fun p => decide (target < p.target)) = false ∧
      target ≤ secT 3600 + s.now ∧ s.commit.pending.length < pendingLimit ∧ s.commit.relay.isSome = false ∧
      ws.length ≤ 4096 ∧ domainBytes ws ≤ 4194304 ∧ asksSwap ws = false))
    (h : noSlots (s.last.putWrites ws) = true)
    (hc : firstCode ([State.checkPower s.last (s.last.putWrites ws), State.checkFlows s.last (s.last.putWrites ws),
      State.checkLanes s.last (s.last.putWrites ws), State.checkAudio s.last (s.last.putWrites ws),
      (s.last.putWrites ws).checkPair, State.checkCascade s.last (s.last.putWrites ws)] ++
      ((s.last.putWrites ws).chansOn.map (s.last.putWrites ws).checkChannel) ++
      [need (s.last.putWrites ws).groupsOk 0x06040043, (s.last.putWrites ws).checkSums,
        (s.last.putWrites ws).checkEgress]) = 0) :
    s.judgeCommit ws target = 0 := by
  obtain ⟨a, b, c, d, e, f, g, i⟩ := hq
  have h1 : ¬(target < msT 1 + s.now ∨ s.commit.pending.any (fun p => decide (target < p.target)) = true) := by
    rintro (x | x)
    · exact absurd a (Nat.not_le.mpr x)
    · rw [b] at x; cases x
  have h3 : ¬(pendingLimit ≤ s.commit.pending.length ∨ s.commit.relay.isSome = true) := by
    rintro (x | x)
    · exact absurd d (Nat.not_lt.mpr x)
    · rw [e] at x; cases x
  have h4 : ¬(4096 < ws.length ∨ 4194304 < domainBytes ws) := by omega
  have h5 : ¬(asksSwap ws = true ∧ (!s.swapOk) = true) := by rw [i]; simp
  rw [State.judgeCommit, if_neg h1, if_neg (Nat.not_lt.mpr c), if_neg h3, if_neg h4, if_neg h5]
  exact checkConfig_of_noSlots h hc

end Sys2Proof.Machine
end

