-- ==== Sys2Proof/Laws/Answers.lean ====
section
/-! SUPPORT. Laws/Answers.lean: what a command answers, from the form of its meaning: the one place where `act` and its gates
are unfolded, and the route of a host write. -/

namespace Sys2Proof.Machine

variable {s t : State} {i : Instr} {f : State → State} {c : Client} {w : HostWrite}

/-! ### The gates -/

@[simp] theorem State.begun_live (s : State) : s.begun.live = s.live := rfl
@[simp] theorem State.begun_coreUp (s : State) : s.begun.coreUp = s.coreUp := rfl
@[simp] theorem State.begun_allServed (s : State) : s.begun.allServed = s.allServed := rfl

theorem live_vin (h : s.live = true) : s.power.vin = .running := by
  simp only [State.live, Bool.and_eq_true, beq_iff_eq] at h; exact h.1.1.1.1.1

theorem coreUp_vin (h : s.coreUp = true) : s.power.vin = .running := by
  simp only [State.coreUp, Bool.and_eq_true, beq_iff_eq] at h; exact h.1.1

theorem allServed_coreUp (h : s.allServed = true) : s.coreUp = true := by
  simp only [State.allServed, Bool.and_eq_true] at h; exact h.1.1.1

theorem not_undefined (h : s.power.vin = .running) : s.power.vin ≠ .undefinedBand := by simp [h]

/-- A meaning in the one form answers its effect. -/
theorem answers_act (hi : exec i s = s.act f) (h : s.power.vin ≠ .undefinedBand) (hf : f s.begun = t) : Answers i s t := by
  unfold Answers
  rw [hi, State.act, if_neg h, State.effect]
  exact congrArg (fun x : State => Host.Outcome.next { x with pending := s.pending }) hf

theorem answers_live (hi : exec i s = s.actLive f) (h : s.live = true) (hf : f s.begun = t) : Answers i s t := by
  refine answers_act hi (not_undefined (live_vin h)) ?_
  simp only [State.begun_live, h, if_true]; exact hf

theorem answers_core (hi : exec i s = s.actCore f) (h : s.coreUp = true) (hf : f s.begun = t) : Answers i s t := by
  refine answers_act hi (not_undefined (coreUp_vin h)) ?_
  simp only [State.begun_coreUp, h, if_true]; exact hf

theorem answers_served (hi : exec i s = s.actServed f) (h : s.allServed = true) (hf : f s.begun = t) : Answers i s t := by
  refine answers_act hi (not_undefined (coreUp_vin (allServed_coreUp h))) ?_
  simp only [State.begun_allServed, h, if_true]; exact hf

/-! ### Numbers in bytes -/

theorem leNat_leBytes (n v : Nat) (h : v < 256 ^ n) : leNat (leBytes n v) = v := by
  induction n generalizing v with
  | zero => simp [leBytes, leNat] at *; omega
  | succ n ih =>
    have hd : v / 256 < 256 ^ n := by
      rw [Nat.div_lt_iff_lt_mul (by norm_num)]; rw [pow_succ] at h; exact h
    have hi := ih _ hd
    simp only [leBytes, leNat, List.foldr_cons] at hi ⊢
    rw [hi]
    simp
    omega

theorem num_numWrite (x k n v : Nat) (h : v < 256 ^ n) : HostWrite_num (numWrite x k n v) = v := leNat_leBytes n v h

@[simp] theorem num_leBytes (o : Obj) (off : Option Nat) (n v : Nat) : HostWrite_num ⟨o, off, leBytes n v⟩ = leNat (leBytes n v) :=
  rfl

/-! ### Host writes -/

theorem answers_write (hi : exec i s = s.actWrite c w) (h : s.coreUp = true) (hw : s.begun.write c w = t) : Answers i s t :=
  answers_act hi (not_undefined (coreUp_vin h)) hw

/-- A write that fails a check is turned down with that check's code. -/
theorem write_refused (h : s.coreUp = true) (hc : s.writeCode c w ≠ 0) : s.write c w = s.say (.confirm c (s.writeCode c w)) := by
  simp [State.write, h, State.hostWrite, hc, State.answer]

/-- A write that passes its checks goes the way of its object's row. -/
theorem write_immediate {r : ObjRow} (h : s.coreUp = true) (hc : s.writeCode c w = 0)
    (hr : rowOf w.obj.idx w.obj.sub = some r) (ha : r.apply = .immediate) :
    s.write c w = State.answer (s.immediateWrite c w) c := by
  simp [State.write, h, State.hostWrite, hc, hr, ha]

theorem write_staged {r : ObjRow} (h : s.coreUp = true) (hc : s.writeCode c w = 0)
    (hr : rowOf w.obj.idx w.obj.sub = some r) (ha : r.apply = .staged) :
    s.write c w = State.answer (answered (s.stagedWrite c w)) c := by
  simp [State.write, h, State.hostWrite, hc, hr, ha]

theorem write_frame {r : ObjRow} (h : s.coreUp = true) (hc : s.writeCode c w = 0)
    (hr : rowOf w.obj.idx w.obj.sub = some r) (ha : r.apply = .frame) :
    s.write c w = State.answer (answered (s.frameWrite c w)) c := by
  simp [State.write, h, State.hostWrite, hc, hr, ha]

/-- A command that writes a number to an Immediate object answers what that write does. The row's class is a matter of
evaluation: `by decide +kernel`. -/
theorem answers_number (x k n v : Nat) (hi : exec i s = s.actWrite c (numWrite x k n v))
    (h : Writable s c (numWrite x k n v)) (hr : (rowOf x k).map (·.apply) = some .immediate)
    (hw : State.answer (s.begun.immediateWrite c (numWrite x k n v)) c = t) : Answers i s t := by
  refine answers_write hi h.1 ?_
  cases hrow : rowOf x k with
  | none => simp [hrow] at hr
  | some r =>
    simp only [hrow, Option.map_some, Option.some.injEq] at hr
    rw [write_immediate (s := s.begun) h.1 h.2 hrow hr, hw]

/-- A commit field and a command field of 0x2F00. -/
theorem immediateWrite_commitField (s : State) (c : Client) (k n v : Nat) (hv : v < 256 ^ n) (hk : k < 0x10) :
    s.immediateWrite c (numWrite 0x2F00 k n v) = s.commitField c k v := by
  have hb : s.busyWrite (numWrite 0x2F00 k n v).obj = false := by simp [State.busyWrite, numWrite, isSlot]
  have hp : ∀ k, k < 0x10 → (place 0x2F00 k).base = 0x2F00 := by decide
  simp only [State.immediateWrite, hb, num_numWrite _ _ _ _ hv]
  simp [numWrite, hp k hk, hk]

theorem immediateWrite_commandField (s : State) (c : Client) (k v : Nat) (hv : v < 256) (h1 : 1 ≤ k) (h6 : k ≤ 6) :
    s.immediateWrite c (numWrite 0x2F00 (0x10 * k) 1 v) = answered (s.commandOp k v) := by
  have hb : s.busyWrite (numWrite 0x2F00 (0x10 * k) 1 v).obj = false := by simp [State.busyWrite, numWrite, isSlot]
  have hp : ∀ k, k ≤ 6 → (place 0x2F00 (0x10 * k)).base = 0x2F00 := by decide
  simp only [State.immediateWrite, hb, num_numWrite _ _ _ _ (show v < 256 ^ 1 by omega)]
  simp only [numWrite, hp k h6]
  have h16 : ¬(16 * k < 16) := by omega
  have hm : 16 * k % 16 = 0 := by omega
  have hd : 16 * k / 16 = k := by omega
  simp [h16, hm, hd]

end Sys2Proof.Machine
end

