-- ==== Sys2Proof/Laws/Collector.lean ====
section
/-! SUPPORT. Laws/Collector.lean: everything that a record at the collector and a compared check value can change. -/

namespace Sys2Proof.Machine

variable {s t : State}

/-- What a record at the collector leaves alone: everything but Orchard and the stall counter. -/
structure State.OnlyCollector (s t : State) : Prop where
  pending : t.pending = s.pending
  clk : t.clk = s.clk
  power : t.power = s.power
  mem : t.mem = s.mem
  chans : t.chans = s.chans
  flows : t.flows = s.flows
  commit : t.commit = s.commit
  pair : t.pair = s.pair
  casc : t.casc = s.casc
  links : t.links = s.links
  egress : t.egress = s.egress

theorem writeRecord_only (p : Nat) (task : Option Nat) (decs : List Nat) : State.OnlyCollector s (s.writeRecord p task decs) := by
  unfold State.writeRecord
  simp only []
  split <;> constructor <;> simp [State.onOrch, State.count]

theorem writeRecord_evt (p : Nat) (task : Option Nat) (decs : List Nat) : (s.writeRecord p task decs).evt = s.evt := by
  unfold State.writeRecord
  simp only []
  split <;> simp [State.onOrch, State.count]

theorem checkValue_only (kind chan slot expected found : Nat) :
    State.OnlyCollector s (s.checkValue kind chan slot expected found) := by
  have h := writeRecord_only (s := s) 27 none []
  unfold State.checkValue
  simp only []
  split
  · exact h
  · constructor <;> simp [State.mismatch, State.count, h.pending, h.clk, h.power, h.mem, h.chans, h.flows, h.commit, h.pair,
      h.casc, h.links, h.egress]

theorem checkValue_same (kind chan slot v : Nat) : s.checkValue kind chan slot v v = s.writeRecord 27 none [] := by
  simp [State.checkValue]

theorem trailer_only (rec : List Byte) : State.OnlyCollector s (s.trailer rec) := by
  unfold State.trailer
  simp only []
  split
  · exact ⟨rfl, rfl, rfl, rfl, rfl, rfl, rfl, rfl, rfl, rfl, rfl⟩
  · exact checkValue_only _ _ _ _ _

end Sys2Proof.Machine
end

