-- ==== Sys2Proof/Laws/Objects.lean ====
section
/-! SUPPORT. Laws/Objects.lean: the dictionary's rows are found where they stand: every row in the table found for its index,
and no two rows there claim one sub-index of one index. -/

namespace Sys2Proof.Machine

/-- In the table found for its index, a row is the only one that claims any of its sub-indices. -/
def ObjRow.alone (r : ObjRow) : Bool :=
  (tableFor r.idx).countP (fun x => Nat.beq x.idx r.idx && Nat.ble x.subLo r.subHi && Nat.ble r.subLo x.subHi) == 1 &&
    (tableFor r.idx).contains r

theorem table0_5_alone : table0_5.all ObjRow.alone = true := by decide +kernel
theorem table1_4_alone : table1_4.all ObjRow.alone = true := by decide +kernel
theorem table2_8_alone : table2_8.all ObjRow.alone = true := by decide +kernel
theorem table3_6_alone : table3_6.all ObjRow.alone = true := by decide +kernel
theorem table4_2_alone : table4_2.all ObjRow.alone = true := by decide +kernel
theorem table5_4_alone : table5_4.all ObjRow.alone = true := by decide +kernel
theorem table6_6_alone : table6_6.all ObjRow.alone = true := by decide +kernel
theorem table7_3_alone : table7_3.all ObjRow.alone = true := by decide +kernel
theorem table8_9_alone : table8_9.all ObjRow.alone = true := by decide +kernel
theorem table8_10_alone : table8_10.all ObjRow.alone = true := by decide +kernel
theorem table9_4_alone : table9_4.all ObjRow.alone = true := by decide +kernel
theorem table9_5_alone : table9_5.all ObjRow.alone = true := by decide +kernel
theorem table10_5_alone : table10_5.all ObjRow.alone = true := by decide +kernel
theorem table11_3_alone : table11_3.all ObjRow.alone = true := by decide +kernel
theorem table11_4_alone : table11_4.all ObjRow.alone = true := by decide +kernel
theorem table12_7_alone : table12_7.all ObjRow.alone = true := by decide +kernel
theorem table12_8_alone : table12_8.all ObjRow.alone = true := by decide +kernel
theorem table12_9_alone : table12_9.all ObjRow.alone = true := by decide +kernel
theorem table12_10_alone : table12_10.all ObjRow.alone = true := by decide +kernel
theorem table13_6_alone : table13_6.all ObjRow.alone = true := by decide +kernel
theorem table13_7_alone : table13_7.all ObjRow.alone = true := by decide +kernel
theorem table14_3_alone : table14_3.all ObjRow.alone = true := by decide +kernel
theorem table15_3_alone : table15_3.all ObjRow.alone = true := by decide +kernel
theorem table15_4_alone : table15_4.all ObjRow.alone = true := by decide +kernel
theorem table16_6_alone : table16_6.all ObjRow.alone = true := by decide +kernel
theorem table17_8_alone : table17_8.all ObjRow.alone = true := by decide +kernel
theorem table18_4_alone : table18_4.all ObjRow.alone = true := by decide +kernel
theorem table19_9_alone : table19_9.all ObjRow.alone = true := by decide +kernel
theorem table19_10_alone : table19_10.all ObjRow.alone = true := by decide +kernel
theorem table19_11_alone : table19_11.all ObjRow.alone = true := by decide +kernel
theorem table20_3_alone : table20_3.all ObjRow.alone = true := by decide +kernel
theorem table20_4_alone : table20_4.all ObjRow.alone = true := by decide +kernel
theorem tablePdo_alone : tablePdo.all ObjRow.alone = true := by decide +kernel

theorem all_both {a b : List ObjRow} (ha : a.all ObjRow.alone = true) (hb : b.all ObjRow.alone = true) :
    (a ++ b).all ObjRow.alone = true := by
  rw [List.all_append, ha, hb]; rfl

/-- Every row of the dictionary stands in the table found for its index, and no other row there claims one of its
sub-indices. -/
theorem objRows_alone : objRows.all ObjRow.alone = true := by
  unfold objRows
  exact all_both (all_both (all_both (all_both (all_both (all_both (all_both (all_both (all_both (all_both (all_both (all_both
    (all_both (all_both (all_both (all_both (all_both (all_both (all_both (all_both (all_both (all_both (all_both (all_both
    (all_both (all_both (all_both (all_both (all_both (all_both (all_both (all_both table0_5_alone table1_4_alone)
    table2_8_alone) table3_6_alone) table4_2_alone) table5_4_alone) table6_6_alone) table7_3_alone) table8_9_alone)
    table8_10_alone) table9_4_alone) table9_5_alone) table10_5_alone) table11_3_alone) table11_4_alone) table12_7_alone)
    table12_8_alone) table12_9_alone) table12_10_alone) table13_6_alone) table13_7_alone) table14_3_alone) table15_3_alone)
    table15_4_alone) table16_6_alone) table17_8_alone) table18_4_alone) table19_9_alone) table19_10_alone) table19_11_alone)
    table20_3_alone) table20_4_alone) tablePdo_alone

end Sys2Proof.Machine
end

