-- ==== Sys2Proof/Tests/Slice0.lean ====
section
/-! SUPPORT. Slice0.lean: the model's own tests: for each hypothesis of a statement a state that meets it, the worked
examples of the spec, one-step tests, and ill-formed operands that the checks refuse. -/

open Sys2Proof Sys2Proof.Machine

namespace Sys2Proof.Tests

-- One thread: every kernel evaluation that runs beside others takes a stack of its own.
set_option Elab.async false

/-- A unit that has started: every stage entered, the hold released, CAN FD operational. -/
def up : State :=
  { State.reset with
    power := { PowerSt.reset with stage := 4, core := true, hold := false }
    can := { CanSt.reset with nmt := .operational } }

/-- A state with some objects set. -/
def set (l : List (Nat × Nat × Int)) (s : State) : State := l.foldl (fun s x => s.setObj x.1 x.2.1 x.2.2) s

/-- Its power side changed. -/
def pow (f : PowerSt → PowerSt) (s : State) : State := { s with power := f s.power }

/-- The master of a cascade of two. -/
def master : State := set [(0x2300, 1, 2), (0x2300, 4, 2)] up

/-- Its member at position 1. -/
def member : State := set [(0x2300, 1, 2), (0x2300, 2, 1), (0x2300, 3, 1), (0x2300, 4, 2)] up

/-- The master and the member of a canvas on channel 0. -/
def canvas : State := set [(0x2300, 1, 1), (0x2300, 4, 2)] up
def canvasMember : State := set [(0x2300, 1, 1), (0x2300, 2, 1), (0x2300, 3, 1), (0x2300, 4, 2)] up

/-- A paired unit, active or standby. -/
def active : State := set [(0x2200, 1, 1), (0x2200, 3, 2)] up
def standby : State := set [(0x2200, 1, 1), (0x2200, 3, 1)] up

/-! ### The whole machine -/

theorem wit_stepRunsTheFront : ({ up with pending := [.commitTarget] } : State).pending = .commitTarget :: [] ∧ up.pending = [] := by
  decide

theorem wit_commandsKeepTheQueue : ∃ t, exec .vinOff up = .next t := ⟨_, rfl⟩

theorem wit_onlyTheUndefinedBandStops :
    ((pow ({ · with vin := .undefinedBand }) up).power.vin = .undefinedBand ∧ Instr.commitTarget ≠ .vinOff ∧
      Instr.commitTarget ≠ .vinBelowLimit) ∧
    ¬(up.power.vin = .undefinedBand ∧ Instr.commitTarget ≠ .vinOff ∧ Instr.commitTarget ≠ .vinBelowLimit) := by decide

theorem wit_freezeLosesTheRest :
    (pow ({ · with freeze := some 5 }) up).power.vin = .running ∧
    (pow ({ · with freeze := some 5 }) up).power.freeze.isSome = true ∧ reachesCore .commitTarget = false := by decide

theorem wit_everyStepKeepsTheStores :
    (set [(0x2900, 1, 1)] up).Inv ∧ ∃ t, step (set [(0x2900, 1, 1)] up) = .next t := by
  refine ⟨?_, _, rfl⟩
  unfold State.Inv
  decide +kernel

/-! ### Commits -/

/-- With a session of client sdo that holds one write. -/
def inSession : State := { up with commit := { up.commit with sessions := [⟨.sdo, 5, [⟨⟨0x3000, 1⟩, none, [1]⟩], 0⟩] } }

theorem wit_sessions :
    up.coreUp = true ∧ up.begun.writeCode .sdo (numWrite 0x2F00 1 4 5) = 0 ∧ up.sessionOf .sdo = none ∧
    up.commit.sessions.length < 4 ∧ up.begun.writeCode .sdo (numWrite 0x2F00 1 4 0) = 0 := by decide +kernel

theorem wit_sessionsHoldWrites :
    inSession.coreUp = true ∧ inSession.begun.writeCode .sdo ⟨⟨0x3000, 1⟩, none, [1]⟩ = 0 ∧
    (rowOf 0x3000 1).map (·.apply) = some .staged ∧ inSession.begun.stagedCode ⟨0x3000, 1⟩ = 0 ∧
    (inSession.begun.sessionOf .sdo).isSome = true ∧ inSession.allServed = true ∧ (inSession.sessionOf .sdo).isSome = true := by
  decide +kernel

/-- Nothing but an empty session, whose target is 1 s. -/
def emptySession : State :=
  { up with commit := { up.commit with sessions := [⟨.sdo, 5, [], 0⟩], regs := [⟨.sdo, 5, 1, 0, 0, 1, 0, 0⟩] } }

theorem wit_commitsBecomePending :
    emptySession.coreUp = true ∧ emptySession.begun.writeCode .sdo (numWrite 0x2F00 5 1 1) = 0 ∧
    emptySession.begun.sessionOf .sdo = some ⟨.sdo, 5, [], 0⟩ ∧ (emptySession.regsOf .sdo).relay ≠ 1 ∧
    emptySession.begun.canvasCommit [] = false ∧ ([] : List HostWrite).any emptySession.begun.canvasFrame = false ∧
    emptySession.begun.judgeCommit [] (secT (emptySession.regsOf .sdo).secs + nsT (emptySession.regsOf .sdo).nanos) = 0 :=
  ⟨by decide +kernel, by decide +kernel, by decide +kernel, by decide +kernel, by decide +kernel, by decide +kernel,
    judgeCommit_of_noSlots (by decide +kernel) (by decide +kernel) (by decide +kernel)⟩

theorem wit_implicitCommit :
    up.coreUp = true ∧ up.begun.writeCode .sdo ⟨⟨0x4010, 1⟩, none, [97, 0]⟩ = 0 ∧
    (rowOf 0x4010 1).map (·.apply) = some .staged ∧ up.begun.stagedCode ⟨0x4010, 1⟩ = 0 ∧ up.begun.sessionOf .sdo = none ∧
    (⟨0x4010, 1⟩ : Obj) ≠ ⟨0x2200, 1⟩ ∧ (⟨0x4010, 1⟩ : Obj) ≠ ⟨0x2200, 7⟩ ∧
    up.begun.canvasCommit [⟨⟨0x4010, 1⟩, none, [97, 0]⟩] = false ∧
    up.begun.judgeCommit [up.begun.throughWindow ⟨⟨0x4010, 1⟩, none, [97, 0]⟩] (msT 1 + up.now) = 0 :=
  ⟨by decide +kernel, by decide +kernel, by decide +kernel, by decide +kernel, by decide +kernel, by decide +kernel, by decide +kernel,
    by decide +kernel, judgeCommit_of_noSlots (by decide +kernel) (by decide +kernel) (by decide +kernel)⟩

/-- The master of a formed canvas of two, whose client sdo marks its commits for relay. -/
def canvasUp : State :=
  let s := set [(0x2300, 8, 2), (0x2300, 9, 3)] canvas
  { s with commit := { s.commit with sessions := [⟨.sdo, 5, [], 0⟩], regs := [⟨.sdo, 5, 1, 0, 0, 1, 0, 1⟩] } }

/-- A write of the canvas's own objects. -/
def canvasWord : HostWrite := ⟨⟨0x2310, 1⟩, none, [2]⟩

theorem wit_implicitRefused :
    (up.coreUp = true ∧ up.begun.writeCode .sdo (numWrite 0x2200 1 1 1) = 0 ∧ (rowOf 0x2200 1).map (·.apply) = some .staged ∧
      up.begun.stagedCode ⟨0x2200, 1⟩ = 0 ∧ up.begun.sessionOf .sdo = none) ∧
    (up.begun.writeCode .sdo (numWrite 0x2200 7 1 1) = 0 ∧ (rowOf 0x2200 7).map (·.apply) = some .staged ∧
      up.begun.stagedCode ⟨0x2200, 7⟩ = 0) ∧
    ({ canvasUp with commit := up.commit }.begun.canvasCommit [canvasWord] = true ∧
      { canvasUp with commit := up.commit }.coreUp = true ∧
      { canvasUp with commit := up.commit }.begun.writeCode .sdo canvasWord = 0 ∧
      (rowOf 0x2310 1).map (·.apply) = some .staged ∧ { canvasUp with commit := up.commit }.begun.stagedCode canvasWord.obj = 0 ∧
      { canvasUp with commit := up.commit }.begun.sessionOf .sdo = none) := by decide +kernel

/-- A commit 5 stands pending for 1 s. -/
def onePending : State := { up with commit := { up.commit with pending := [⟨some .sdo, 5, secT 1, 0, [], 0, false⟩] } }

theorem wit_commitsComeIntoForce :
    onePending.allServed = true ∧ onePending.commit.pending = ⟨some .sdo, 5, secT 1, 0, [], 0, false⟩ :: [] ∧
    (⟨some .sdo, 5, secT 1, 0, [], 0, false⟩ : PendingCommit).relayed = false := by decide +kernel

theorem wit_commitsAreWithdrawn :
    onePending.coreUp = true ∧ 5 ≠ 0 ∧ 5 < 2 ^ 32 ∧ onePending.begun.writeCode .sdo (numWrite 0x2F00 0xC 4 5) = 0 ∧
    onePending.commit.pending = [] ++ [⟨some .sdo, 5, secT 1, 0, [], 0, false⟩] ∧ msT 1 + onePending.now ≤ secT 1 ∧
    onePending.commit.relay = none := by decide +kernel

theorem wit_commitsTurnedDown :
    up.coreUp = true ∧ up.begun.writeCode .sdo (numWrite 0x2F00 5 1 1) = 0 ∧ up.sessionOf .sdo = none ∧
    up.begun.writeCode .sdo (numWrite 0x2F00 0xC 4 7) = 0 ∧ up.commit.pending = [] := by decide +kernel

/-! ### Objects and long operations -/

theorem wit_objectWrites :
    Writable up .sdo (numWrite 0x4410 1 1 0) ∧ up.begun.writeCode .sdo (numWrite 0x1018 1 4 0) ≠ 0 ∧
    Writable up .sdo (numWrite 0x3000 7 1 3) ∧ (rowOf 0x3000 7).map (·.apply) = some .frame ∧
    ¬baseOf 0x3000 7 ∈ [0x2A00, 0x2A10, 0x2200] ∧ up.begun.relaySession .sdo (numWrite 0x3000 7 1 3) = none ∧
    up.begun.frameBarred (numWrite 0x3000 7 1 3) = false ∧ (up.begun.chan 0).running = false ∧ State.aheadCode up.begun (up.begun.putWrite (numWrite 0x3000 7 1 3)) = 0 ∧
    Writable up .sdo (numWrite 0x2A10 1 1 1) ∧ (rowOf 0x2A10 1).map (·.apply) = some .frame ∧ baseOf 0x2A10 1 ∈ [0x2A00, 0x2A10] ∧
    Writable (set [(0x3000, 1, 1)] up) .sdo (numWrite 0x3000 7 1 3) ∧
    (set [(0x3000, 1, 1)] up).begun.frameBarred (numWrite 0x3000 7 1 3) = true ∧
    actsAtOnce (baseOf 0x4410 1) 1 = false ∧ up.begun.busyWrite ⟨0x4410, 1⟩ = false ∧ (rowOf 0x4410 1).map (·.apply) = some .immediate := by
  unfold Writable
  have hc : State.checkConfig up.begun (up.begun.putWrite (numWrite 0x3000 7 1 3)) = 0 :=
    checkConfig_of_noSlots (by decide +kernel) (by decide +kernel)
  have ha : State.aheadCode up.begun (up.begun.putWrite (numWrite 0x3000 7 1 3)) = 0 := by
    rw [State.aheadCode, firstCode, if_pos hc]
    rfl
  exact ⟨by decide +kernel, by decide +kernel, by decide +kernel, by decide +kernel, by decide +kernel, by decide +kernel,
    by decide +kernel, by decide +kernel, ha, by decide +kernel, by decide +kernel, by decide +kernel, by decide +kernel,
    by decide +kernel, by decide +kernel, by decide +kernel, by decide +kernel⟩

/-- A channel that is disabled, whose last slots are still due. -/
def stopping : State := { up with chans := [(0, { ChanRt.empty with running := true, stopSlot := some 9 })] }

theorem wit_frameWrites :
    (Writable stopping .sdo (numWrite 0x3000 7 1 3) ∧ stopping.begun.relaySession .sdo (numWrite 0x3000 7 1 3) = none ∧
      stopping.begun.frameBarred (numWrite 0x3000 7 1 3) = false ∧ (stopping.begun.chan 0).running = true) ∧
    State.aheadCode stopping.begun (stopping.begun.putWrite (numWrite 0x3000 7 1 3)) = 0 ∧
    (Writable canvasUp .sdo (numWrite 0x3000 7 1 3) ∧ canvasUp.begun.frameBarred (numWrite 0x3000 7 1 3) = false ∧
      canvasUp.begun.relaySession .sdo (numWrite 0x3000 7 1 3) = some ⟨.sdo, 5, [], 0⟩) := by
  unfold Writable
  have hc : State.checkConfig stopping.begun (stopping.begun.putWrite (numWrite 0x3000 7 1 3)) = 0 :=
    checkConfig_of_noSlots (by decide +kernel) (by decide +kernel)
  refine ⟨by decide +kernel, ?_, by decide +kernel⟩
  rw [State.aheadCode, firstCode, if_pos hc]
  rfl

theorem wit_longOperationsStart :
    (Writable up .sdo (numWrite 0x2F00 0x10 1 1) ∧ up.begun.opBusy 1 = false ∧ up.begun.op 1 1 ≤ 67108864) ∧
    (Writable up .sdo (numWrite 0x2F00 0x20 1 1) ∧ up.begun.opBusy 2 = false ∧ up.begun.testBarred = false) ∧
    (Writable (set [(0x2800, 9, 4)] up) .sdo (numWrite 0x2F00 0x30 1 1) ∧ (set [(0x2800, 9, 4)] up).begun.opBusy 3 = false ∧
      (set [(0x2800, 9, 4)] up).begun.op 3 1 < 16 ∧
      (set [(0x2800, 9, 4)] up).begun.nat (0x2800 + (set [(0x2800, 9, 4)] up).begun.op 3 1) 9 = 4) ∧
    (Writable up .sdo (numWrite 0x2F00 0x60 1 1) ∧ up.begun.opBusy 6 = false) := by
  unfold Writable
  decide +kernel

/-- The master, asked to join position 1, which it hears, at slot 1,000. -/
def joining : State := set [(0x2300, 9, 3), (0x2300, 8, 2), (0x2811, 1, 6), (0x2F00, 0x41, 1), (0x2F00, 0x42, 1000)] master

/-- The active unit, asked to resync channel 0, which is not in sync. -/
def resyncing : State := set [(0x3000, 1, 1), (0x2F00, 0x51, 0)] active

theorem wit_joinAndResyncStart :
    (Writable joining .sdo (numWrite 0x2F00 0x40 1 1) ∧ joining.begun.opBusy 4 = false ∧ joining.begun.isMaster = true ∧
      joining.begun.op 4 1 ≠ 0 ∧ joining.begun.op 4 1 < joining.begun.members ∧
      joining.begun.now + t0 joining.begun.joinRate 3 ≤ t0 joining.begun.joinRate (joining.begun.joinTarget (joining.begun.op 4 2)) ∧
      joining.casc.rejoin = none) ∧
    (Writable resyncing .sdo (numWrite 0x2F00 0x50 1 1) ∧ resyncing.begun.opBusy 5 = false ∧ resyncing.begun.paired = true ∧
      resyncing.begun.op 5 1 < 64 ∧ resyncing.begun.chanOn (resyncing.begun.op 5 1) = true ∧
      ((resyncing.begun.beginOp 5 ⟨resyncing.begun.op 5 1, 0, [resyncing.begun.op 5 1], [], []⟩).onPc (resyncing.begun.op 5 1)
        fun p => { p with withdrawn := false }).pairResyncEnds [resyncing.begun.op 5 1] = false) := by
  unfold Writable
  decide +kernel

/-- Kind k running (1) or suspended (2). -/
def opAt (k st : Nat) (s : State) : State := set [(0x2F00, 0x10 * k + 4, st)] s

theorem wit_aBusyKind :
    (Instr.memoryTestStart .sdo, 2) ∈ [(Instr.firmwareInstallStart .sdo, 1), (.memoryTestStart .sdo, 2), (.eyeScanStart .sdo, 3),
      (.cascadeJoinStart .sdo, 4), (.pairResyncStart .sdo, 5), (.dictionarySaveStart .sdo, 6)] ∧
    Writable (opAt 2 1 up) .sdo (numWrite 0x2F00 (0x10 * 2) 1 1) ∧ (opAt 2 1 up).begun.opBusy 2 = true := by
  unfold Writable
  decide +kernel

theorem wit_operationsObey :
    (Writable (opAt 1 1 up) .sdo (numWrite 0x2F00 (0x10 * 1) 1 2) ∧ (opAt 1 1 up).begun.op 1 4 = 1 ∧
      ¬(up.begun.op 1 4 = 1 ∧ 1 ≤ 3) ∧ Writable up .sdo (numWrite 0x2F00 (0x10 * 1) 1 2)) ∧
    (Writable (opAt 3 2 up) .sdo (numWrite 0x2F00 (0x10 * 3) 1 3) ∧ (opAt 3 2 up).begun.op 3 4 = 2 ∧
      Writable up .sdo (numWrite 0x2F00 (0x10 * 3) 1 3) ∧ up.begun.op 3 4 ≠ 2) ∧
    (Writable (opAt 1 1 up) .sdo (numWrite 0x2F00 (0x10 * 1) 1 4) ∧ (opAt 1 1 up).begun.opBusy 1 = true) ∧
    (Writable (opAt 2 1 up) .sdo (numWrite 0x2F00 (0x10 * 2) 1 4) ∧ (opAt 2 1 up).begun.opBusy 2 = true) ∧
    (Writable (opAt 3 1 up) .sdo (numWrite 0x2F00 (0x10 * 3) 1 4) ∧ (opAt 3 1 up).begun.opBusy 3 = true) ∧
    (Writable (opAt 5 1 up) .sdo (numWrite 0x2F00 (0x10 * 5) 1 4) ∧ (opAt 5 1 up).begun.opBusy 5 = true) ∧
    (Writable up .sdo (numWrite 0x2F00 (0x10 * 6) 1 4) ∧ up.begun.opBusy 6 = false) := by
  unfold Writable
  decide +kernel

/-- A join under way whose target is slot 1,000. -/
def joinRuns : State := { opAt 4 1 up with ops := [(4, ⟨1, 1000, [], [], []⟩)] }

theorem wit_cancelJoin :
    Writable joinRuns .sdo (numWrite 0x2F00 (0x10 * 4) 1 4) ∧ joinRuns.begun.opBusy 4 = true ∧
    msT 1 + joinRuns.begun.now ≤ t0 joinRuns.begun.joinRate (joinRuns.begun.run 4).argB := by
  unfold Writable
  decide +kernel

theorem wit_operationBlocks : up.Inv ∧ 1 ≤ 6 ∧ ∀ m, m < 8 → key 0x3000 1 ≠ key 0x2F00 (0x10 * 6 + m) := by
  unfold State.Inv
  decide +kernel

theorem wit_operationsComplete :
    (opAt 1 1 up).allServed = true ∧ (opAt 1 1 up).begun.op 1 4 = 1 ∧ (opAt 2 1 up).allServed = true ∧
    (opAt 2 1 up).begun.op 2 4 = 1 ∧ (opAt 3 1 up).allServed = true ∧ (opAt 3 1 up).begun.op 3 4 = 1 ∧
    (opAt 6 1 up).allServed = true ∧ (opAt 6 1 up).begun.op 6 4 = 1 ∧ (opAt 6 1 up).can.saveWait = none ∧
    up.allServed = true ∧ up.begun.op 2 4 ≠ 1 := by decide +kernel

theorem wit_saveAndRestore :
    Writable up .sdo (numWrite 0x1010 1 4 saveWord) ∧ up.begun.opBusy 6 = false ∧ Writable up .sdo (numWrite 0x1010 1 4 0) ∧
    0 ≠ saveWord ∧ Writable up .sdo (numWrite 0x1011 1 4 loadWord) ∧ Writable up .sdo (numWrite 0x1011 1 4 0) ∧ 0 ≠ loadWord := by
  unfold Writable
  decide +kernel

/-- Atlas runs, its next frame 5, and its set in force is the pending one. -/
def atlasOn : State :=
  { set [(0x2A00, 1, 1)] up with atlas := { AtlasSt.reset with inForce := [(key 0x2A00 1, 1)], next := some 5, frame := 4 } }

theorem wit_atlasCommits :
    Writable atlasOn .sdo (numWrite 0x2A00 7 1 1) ∧ atlasOn.begun.atlasAbort atlasOn.begun.atlasPending = none ∧
    atlasOn.atlas.next = some 5 ∧ setVal atlasOn.begun.atlasPending 0x2A00 2 = atlasOn.begun.atl 0x2A00 2 ∧
    atlasOn.begun.nat 0x2000 2 ≠ 2 ∧ atlasOn.begun.nat 0x2F00 0x24 ≠ 1 ∧ atlasOn.begun.nat 0x2F00 0x24 ≠ 2 ∧
    Writable (set [(0x2A00, 5, 200)] up) .sdo (numWrite 0x2A00 7 1 1) ∧
    (set [(0x2A00, 5, 200)] up).begun.atlasAbort (set [(0x2A00, 5, 200)] up).begun.atlasPending = some 0x06040043 := by
  unfold Writable
  decide +kernel

/-- Atlas is off, with its enable pending or not. -/
def atlasOff (on : Int) : State := pow ({ · with hold := false }) (set [(0x2A00, 1, on)] up)

theorem wit_atlasStarts :
    (Writable (atlasOff 0) .sdo (numWrite 0x2A00 7 1 1) ∧ (atlasOff 0).begun.atlasAbort (atlasOff 0).begun.atlasPending = none ∧
      (atlasOff 0).atlas.next = none ∧ setVal (atlasOff 0).begun.atlasPending 0x2A00 2 = (atlasOff 0).begun.atl 0x2A00 2 ∧
      setVal (atlasOff 0).begun.atlasPending 0x2A00 1 ≠ 1) ∧
    (Writable (atlasOff 1) .sdo (numWrite 0x2A00 7 1 1) ∧ (atlasOff 1).begun.atlasAbort (atlasOff 1).begun.atlasPending = none ∧
      (atlasOff 1).atlas.next = none ∧ setVal (atlasOff 1).begun.atlasPending 0x2A00 2 = (atlasOff 1).begun.atl 0x2A00 2 ∧
      setVal (atlasOff 1).begun.atlasPending 0x2A00 1 = 1 ∧ (atlasOff 1).power.hold = false ∧ (atlasOff 1).begun.nat 0x2000 2 ≠ 2 ∧
      (atlasOff 1).begun.nat 0x2F00 0x24 ≠ 1 ∧ (atlasOff 1).begun.nat 0x2F00 0x24 ≠ 2) := by
  unfold Writable
  decide +kernel

/-- A frozen unit. -/
def frozen : State := set [(0x2C00, 1, 3)] (pow ({ · with freeze := some 5 }) up)

theorem wit_freezeExits :
    Writable frozen .sdo (numWrite 0x2C10 0xB 1 1) ∧ frozen.power.freeze.isSome = true ∧
    Writable up .sdo (numWrite 0x2C10 0xB 1 1) ∧ up.power.freeze = none := by
  unfold Writable
  decide +kernel

/-- A host check of eight bytes of a DOMAIN is asked for. -/
def checking : State := set [(0x2D01, 1, 0x620001), (0x2D01, 3, 8)] up

theorem wit_hostChecks :
    (Writable checking .sdo (numWrite 0x2D01 5 1 1) ∧ checking.hostCheck = none ∧ checking.begun.checkRange.2.2.2 ≠ 0 ∧
      isDomain checking.begun.checkRange.1 checking.begun.checkRange.2.1 = true ∧ indexExists checking.begun.checkRange.1 = true ∧
      (rowOf checking.begun.checkRange.1 checking.begun.checkRange.2.1).isSome = true ∧
      checking.begun.checkRange.2.2.1 + checking.begun.checkRange.2.2.2 ≤
        checking.begun.sizeOf checking.begun.checkRange.1 checking.begun.checkRange.2.1) ∧
    ({ up with hostCheck := some ⟨0x6200, 1, 0, 8, 0⟩ } : State).hostCheck.isSome = true ∧
    Writable { up with hostCheck := some ⟨0x6200, 1, 0, 8, 0⟩ } .sdo (numWrite 0x2D01 5 1 1) ∧
    ({ up with hostCheck := some ⟨0x6200, 1, 0, 8, 0⟩ } : State).allServed = true := by
  unfold Writable
  decide +kernel

theorem wit_acknowledgements :
    (Writable (set [(0x2E00, 4, 3)] up) .sdo (numWrite 0x2E00 4 8 2) ∧ 2 < (set [(0x2E00, 4, 3)] up).begun.acked) ∧
    (Writable up .sdo (numWrite 0x2E00 4 8 1) ∧ up.begun.acked ≤ 1 ∧ up.evt.newest < 1) ∧
    (Writable { up with evt := { up.evt with newest := 9 } } .sdo (numWrite 0x2E00 4 8 9) ∧
      ({ up with evt := { up.evt with newest := 9 } } : State).begun.acked ≤ 9 ∧
      9 ≤ ({ up with evt := { up.evt with newest := 9 } } : State).evt.newest ∧
      ({ up with evt := { up.evt with newest := 9 } } : State).Inv) := by
  unfold Writable State.Inv
  decide +kernel

/-! ### Triggers, pins, gate lists, time and power requests -/

theorem wit_triggers :
    Writable (set [(0x2908, 2, 1)] up) .sdo (numWrite 0x2908 5 1 1) ∧ (set [(0x2908, 2, 1)] up).begun.nat 0x2908 2 ≠ 0 ∧
    Writable up .sdo (numWrite 0x2908 5 1 1) ∧ up.begun.nat 0x2908 2 = 0 ∧
    secT (up.begun.nat 0x2908 3) + nsT (up.begun.nat 0x2908 4) < msT 1 + up.begun.now ∧
    Writable up .sdo (numWrite 0x2908 5 1 0) ∧ up.live = true ∧
    ({ up with audio := { up.audio with trigger := some ⟨0, 7⟩ } } : State).audio.trigger = some ⟨0, 7⟩ := by
  unfold Writable
  decide +kernel

/-- Pin 0 armed in a mode, with its objects. -/
def pin (mode : Int) (t : TioRt) : State := { set [(0x2710, 1, mode)] up with tio := [(0, t)] }

/-- A pulse every 20 µs, 100 ns wide; a frame pulse of channel 0; a capture of both edges. -/
def pulses : TioRt := ⟨[1, 0, 0, 0, 20000, 1, 100, 0, 0, 3], 0, 0, none, []⟩

theorem wit_tioPins :
    Writable up .sdo (numWrite (0x2710 + 3) 1 1 3) ∧ up.begun.tioAbort 3 3 = 0 ∧ up.tioAbort 3 3 = 0 ∧ up.tioAbort 3 4 ≠ 0 := by
  unfold Writable
  decide +kernel

theorem wit_tioPulses :
    ((pin 1 pulses).allServed = true ∧ (pin 1 pulses).begun.nat 0x2710 1 = 1 ∧ ((pin 1 pulses).begun.tioPin 0).arg 7 ≠ 0 ∧
      (pin 1 pulses).power.hold = false ∧ ((pin 1 pulses).begun.tioPin 0).until_ = none ∧
      ((pin 1 pulses).begun.tioPin 0).arg 5 ≠ 0 ∧
      ((pin 1 { pulses with until_ := some 9 }).begun.tioPin 0).until_ = some 9) ∧
    ((pin 2 pulses).begun.nat 0x2710 1 = 2 ∧ ((pin 2 pulses).begun.tioPin 0).arg 7 ≠ 0 ∧
      ((pin 2 { pulses with until_ := some 9 }).begun.tioPin 0).until_ = some 9) := by
  decide +kernel

/-- A channel that runs, with nothing in it. -/
def chan0 : ChanRt :=
  { ChanRt.empty with running := true, firstSlot := 3, nextSlot := 3 }

/-- Pin 0 pulses for channel 0, which runs. -/
def framePin : State := { pin 2 pulses with chans := [(0, chan0)] }

theorem wit_framePulse :
    framePin.allServed = true ∧ framePin.begun.nat 0x2710 1 = 2 ∧ (framePin.begun.tioPin 0).arg 7 ≠ 0 ∧
    framePin.power.hold = false ∧ (framePin.begun.tioPin 0).until_ = none ∧ (framePin.begun.tioPin 0).arg 8 = 0 ∧
    (framePin.begun.chan 0).running = true ∧
    (framePin.begun.chan 0).runs.find? (fun y => y.has ((framePin.begun.tioPin 0).pulseSlot framePin.now y)) =
      some ⟨3, none, 0, []⟩ := by
  decide +kernel

theorem wit_tioCaptures :
    ((pin 3 pulses).allServed = true ∧ (pin 3 pulses).begun.nat 0x2710 1 = 3 ∧
      ((pin 3 pulses).begun.tioPin 0).arg 10 = 3 ∧ (pin 3 pulses).audio.trigger = none ∧
      ((pin 3 pulses).begun.tioPin 0).fifo.length < 16) ∧
    16 ≤ ((pin 3 { pulses with fifo := List.replicate 16 (zeros 12) }).begun.tioPin 0).fifo.length ∧
    ((pin 3 { pulses with fifo := [zeros 12] }).coreUp = true ∧
      (pin 3 { pulses with fifo := [zeros 12] }).begun.served .sdo 0x2710 = true ∧
      ((pin 3 { pulses with fifo := [zeros 12] }).begun.tioPin 0).fifo = zeros 12 :: [] ∧ (zeros 12).length = 12) ∧
    (up.begun.served .sdo (0x2710 + 3) = true ∧ (up.begun.tioPin 3).fifo = []) := by
  decide +kernel

/-- One entry of 1 µs with every gate open in the pending list of port 0. -/
def gates : State := up.putBytes 0x6203 1 0 [0xFF, 0, 0, 0, 0x00, 0x00, 0x04, 0x00]

/-- The same list with the gate of queue 6 closed, which stream 2 uses: it is enabled, with an entry on port 0. -/
def shut : State :=
  ((set [(0x2500 + 2, 1, 1), (0x2500 + 2, 7, 6)] up).putBytes 0x6203 1 0 [0xBF, 0, 0, 0, 0x00, 0x00, 0x04, 0x00]).putBytes 0x6202 1 (32 * 9)
    (beBytes 1 1 ++ beBytes 1 2 ++ zeros 2 ++ beBytes 4 0xEF000001 ++ zeros 24)

theorem wit_gateLists :
    (Writable up .sdo (numWrite (0x4410 + 7) 4 2 0)) ∧
    (Writable gates .sdo (numWrite (0x4410 + 0) 4 2 1) ∧
      (∀ e ∈ gates.begun.gateList 0x6203 0 1, e.2 % 64 = 0 ∧ 64 ≤ e.2 ∧ e.2 ≤ 1000000000) ∧
      (∀ e ∈ gates.begun.gateList 0x6203 0 1, ∀ q ∈ gates.begun.mediaQueues 0, e.1.testBit q = true)) ∧
    (Writable (up.putBytes 0x6203 1 0 [0xFF, 0, 0, 0, 0, 0, 0, 65]) .sdo (numWrite (0x4410 + 0) 4 2 1) ∧
      ¬(∀ e ∈ (up.putBytes 0x6203 1 0 [0xFF, 0, 0, 0, 0, 0, 0, 65]).begun.gateList 0x6203 0 1,
        e.2 % 64 = 0 ∧ 64 ≤ e.2 ∧ e.2 ≤ 1000000000)) ∧
    (Writable shut .sdo (numWrite (0x4410 + 0) 4 2 1) ∧
      (∀ e ∈ shut.begun.gateList 0x6203 0 1, e.2 % 64 = 0 ∧ 64 ≤ e.2 ∧ e.2 ≤ 1000000000) ∧
      ¬(∀ e ∈ shut.begun.gateList 0x6203 0 1, ∀ q ∈ shut.begun.mediaQueues 0, e.1.testBit q = true)) ∧
    (up.live = true ∧ Tab.find? ({ up with egress := { up.egress with armed := [(7, 9, zeros 8, 9)] } } : State).egress.armed 7 =
      some (9, zeros 8, 9)) := by
  unfold Writable
  decide +kernel

theorem wit_meridianIsSet :
    Writable up .sdo ⟨⟨0x2700, 1⟩, none, zeros 12⟩ ∧ field (zeros 12) 6 4 < 1000000000 ∧ up.begun.timeState = 0 ∧
    up.begun.isRunning = false ∧ Writable up .sdo ⟨⟨0x2700, 1⟩, none, zeros 6 ++ beBytes 4 1000000000 ++ zeros 2⟩ ∧
    1000000000 ≤ field (zeros 6 ++ beBytes 4 1000000000 ++ zeros 2) 6 4 ∧
    Writable (set [(0x2700, 2, 2)] up) .sdo ⟨⟨0x2700, 1⟩, none, zeros 12⟩ ∧ (set [(0x2700, 2, 2)] up).begun.timeState ≠ 0 := by
  unfold Writable
  decide +kernel

/-- In a power state, on the way to another. -/
def moving (st to_ : Nat) : State := set [(0x2000, 2, st)] (pow ({ · with transition := some to_ }) up)

theorem wit_powerStates :
    (Writable up .sdo (numWrite 0x2000 1 1 1) ∧ up.power.transition = none ∧ up.power.freeze = none ∧ up.power.stage = 4 ∧
      up.begun.mayEnter 1 = true) ∧
    (Writable (moving 0 1) .sdo (numWrite 0x2000 1 1 1) ∧ (moving 0 1).power.transition.isSome = true) ∧
    (set [(0x2000, 2, 2)] up).nat 0x2000 2 = 2 ∧
    ((moving 0 1).allServed = true ∧ (moving 0 1).power.transition = some 1 ∧ (moving 0 1).begun.nat 0x2000 2 ≠ 2) ∧
    ((moving 0 2).allServed = true ∧ (moving 0 2).power.transition = some 2 ∧ (moving 0 2).begun.nat 0x2000 2 ≠ 2) ∧
    ((moving 2 0).allServed = true ∧ (moving 2 0).power.transition = some 0 ∧ (moving 2 0).begun.nat 0x2000 2 = 2) := by
  unfold Writable
  decide +kernel

theorem wit_domains :
    up.Inv ∧ up.power.isolated = 0 ∧ up.nat 0x2000 2 = 0 ∧ (set [(0x2000, 2, 1)] up).nat 0x2000 2 = 1 ∧
    (set [(0x2000, 2, 2)] up).nat 0x2000 2 = 2 ∧
    (pow ({ · with isolated := 2 ^ 17 }) up).power.isolated.testBit 17 = true ∧
    (pow ({ · with isolated := 2 ^ 10 }) up).power.isolated.testBit 10 = true := by
  unfold State.Inv
  decide +kernel

theorem wit_laneRetrain : Writable up .sdo (numWrite (0x2800 + 15) 0xA 1 1) ∧ Writable up .sdo (numWrite (0x2800 + 0) 0xA 1 0) := by
  unfold Writable
  decide +kernel

/-! ### CAN FD and Exfer -/

theorem wit_nmt :
    (up.begun.nmtMine 0 = true ∧ up.power.freeze = none) ∧ (frozen.begun.nmtMine 16 = true ∧ frozen.power.freeze.isSome = true) ∧
    (up.power.vin ≠ .undefinedBand ∧ 15 ≠ 0 ∧ 15 ≠ up.can.nodeId) := by decide +kernel

/-- An SDO transfer in progress. -/
def sdoRuns (x : SdoXfer) : State := { up with can := { up.can with sdo := some x } }

/-- A segmented download of four bytes; an upload of `n`; block transfers. -/
def down : SdoXfer := ⟨⟨0x3000, 5⟩, false, false, 4, [], false, 127, [], 0⟩
def upload (n : Nat) : SdoXfer := ⟨⟨0x6200, 1⟩, true, false, n, zeros n, false, 127, zeros n, 0⟩
def blockDown (data : List Byte) : SdoXfer := ⟨⟨0x6200, 1⟩, false, true, 4, data, true, 127, [], 0⟩
def blockUp : SdoXfer := ⟨⟨0x6200, 1⟩, true, true, 20, zeros 20, false, 2, zeros 20, 0⟩

theorem wit_sdoDownloads :
    up.begun.sdoUp = true ∧ up.begun.sizeCode .sdo ⟨0x3000, 5⟩ 2 = 0 ∧ (sdoRuns down).begun.sdoUp = true ∧
    (sdoRuns down).can.sdo = some down ∧ down.up = false ∧ down.block = false ∧
    (down.data ++ ([1, 2, 3, 4] : List Byte)).length ≤ down.size ∧ (down.data ++ ([1, 2, 3, 4] : List Byte)).length = down.size := by
  decide +kernel

theorem wit_sdoUploads :
    (up.begun.hostRead .sdo ⟨0x1000, 0⟩ 0 none).2.1 = 0 ∧ (up.begun.hostRead .sdo ⟨0x1000, 0⟩ 0 none).2.2.length ≤ 4 ∧
    (up.begun.hostRead .sdo ⟨0x1002, 0⟩ 0 none).2.1 ≠ 0 ∧ (sdoRuns (upload 8)).can.sdo = some (upload 8) ∧ (upload 8).up = true ∧
    (upload 8).block = false ∧ 7 < (upload 8).data.length ∧ (upload 7).up = true ∧ (upload 7).block = false ∧
    (upload 7).data.length ≤ 7 := by decide +kernel

theorem wit_sdoBlocks :
    up.begun.sizeCode .sdo ⟨0x6200, 1⟩ 4 = 0 ∧
    (({ blockDown [] with toggle := false }).up = false ∧ ({ blockDown [] with toggle := false }).block = true ∧
      ([zeros 7] : List (List Byte)).length ≤ 127) ∧
    ((blockDown (zeros 7)).size ≤ (blockDown (zeros 7)).data.length ∧ (blockDown (zeros 7)).data.length < (blockDown (zeros 7)).size + 7 ∧
      (blockDown (zeros 7)).toggle = true ∧ sdoCrc ((blockDown (zeros 7)).data.take (blockDown (zeros 7)).size) = 0 ∧
      sdoCrc ((blockDown (zeros 7)).data.take (blockDown (zeros 7)).size) ≠ 1) ∧
    (1 ≤ 127 ∧ (up.begun.hostRead .sdo ⟨0x1000, 0⟩ 0 none).2.1 = 0) ∧
    (blockUp.up = true ∧ blockUp.block = true ∧ 2 ≤ blockUp.blkSize ∧ 7 * 2 < blockUp.data.length) := by decide +kernel

/-- Four USDO clients, the first with a transfer in progress. -/
def usdoFull : State := { up with can := { up.can with usdo := [(1, some down), (2, none), (3, none), (4, none)] } }

theorem wit_usdo :
    up.can.phase ≠ 0 ∧ up.begun.usdoMay 9 = true ∧ up.begun.sizeCode (.usdo 9) ⟨0x3000, 5⟩ 2 = 0 ∧ usdoFull.begun.sdoUp = true ∧
    usdoFull.can.phase ≠ 0 ∧ usdoFull.begun.usdoMay 9 = false ∧ usdoFull.begun.usdoOf 1 = some down ∧
    usdoFull.can.usdo.length ≤ 4 ∧ usdoFull.usdoMay 4 = true := by decide +kernel

/-- PDO 3 receives, and sends, the enable of channel 0. -/
def pdo : State :=
  set [(0x1403, 1, 0x210), (0x1603, 0, 1), (0x1603, 1, 0x30000108), (0x1803, 1, 0x190), (0x1A03, 0, 1), (0x1A03, 1, 0x30000108)] up

theorem wit_pdos :
    pdo.begun.nmtOp = true ∧ pdo.begun.pdoOn (0x1400 + 3) = true ∧
    ((pdo.begun.mapped_ (0x1600 + 3)).map (·.2)).sum ≤ ([1] : List Byte).length ∧
    ([] : List Byte).length < ((pdo.begun.mapped_ (0x1600 + 3)).map (·.2)).sum ∧ pdo.begun.pdoOn (0x1800 + 3) = true ∧
    pdo.begun.mapped_ (0x1A00 + 3) ≠ [] ∧ pdo.begun.tpdoDue 3 = some 0 ∧ up.begun.nmtOp = true ∧ up.begun.tpdoDue 3 = none := by
  decide +kernel

/-- A heartbeat every 100 ms; two EMCY messages wait. -/
def beats : State :=
  { set [(0x1017, 0, 100)] up with can := { up.can with hbLast := some 4, emcy := [zeros 8, zeros 8], emcyLast := some 5 } }

theorem wit_heartbeat :
    beats.coreUp = true ∧ beats.can.nmt ≠ .initialising ∧ beats.begun.nat 0x1017 0 ≠ 0 ∧ beats.can.hbLast = some 4 ∧
    (set [(0x1017, 0, 0)] up).coreUp = true ∧ (set [(0x1017, 0, 0)] up).begun.nat 0x1017 0 = 0 ∧ beats.begun.sdoUp = true ∧
    (beats.begun.nat 0x1014 0).testBit 31 = false ∧ beats.can.emcy = zeros 8 :: [zeros 8] ∧ beats.can.emcyLast = some 5 ∧
    ({ beats.can with emcyLast := none } : CanSt).emcyLast = none := by decide +kernel

/-- The Exfer server runs on port 0, at address 10.0.0.1. -/
def served : State := set [(0x2105, 1, 2), (0x1FF1, 1, 1), (0x2101, 1, 0x0A000001), (0x2300, 5, 0)] up

/-- A session without a key, one with key slot 1, and one with a transfer. -/
def ses (key : Nat) (b : Option ExferBlock) : ExferSession :=
  ⟨3, 0, key, zeros 8, zeros 8, 7, (0, 0, []), 0, some ⟨0, [(0, zeros 32)]⟩, b⟩
def withSes (x : ExferSession) (s : State) : State := { s with exfer := { s.exfer with sessions := [x] } }

/-- A datagram of session 3. -/
def dgram (seq : Nat) : ExferHdr := ⟨0, served.nat 0x2104 1, 0x0A000001, true, false, 0, 3, seq, 0xFF, [], []⟩

theorem wit_exferSessions :
    (served.begun.exferMine (dgram 1) = true ∧ (dgram 1).good = true ∧ served.begun.exferElsewhere (dgram 1) = false ∧
      (dgram 1).keySlot = 0 ∧ served.exfer.sessions.length < 16 ∧
      16 ≤ ({ served with exfer := { served.exfer with sessions := List.replicate 16 (ses 0 none) } } : State).exfer.sessions.length) ∧
    ExferNext (withSes (ses 0 none) served).begun (dgram 8) (ses 0 none) ∧
    ((withSes (ses 0 none) served).allServed = true ∧ (withSes (ses 0 none) served).begun.exferSession 3 = some (ses 0 none)) := by
  unfold ExferNext ExferReaches
  decide +kernel

theorem wit_exferChecks :
    ((withSes (ses 0 none) served).begun.exferMine (dgram 8) = true ∧
      (withSes (ses 0 none) served).begun.exferSession (dgram 8).session = some (ses 0 none) ∧
      (withSes (ses 0 none) served).begun.tagGood (ses 0 none) { dgram 8 with auth := true } = false) ∧
    (ExferReaches (withSes (ses 0 none) served).begun (dgram 7) (ses 0 none) ∧ (dgram 7).seq = (ses 0 none).q) ∧
    (ExferReaches (withSes (ses 0 none) served).begun (dgram 9) (ses 0 none) ∧ (dgram 9).seq ≠ (ses 0 none).q ∧
      (dgram 9).seq ≠ ((ses 0 none).q + 1) % 0x100000000) := by
  unfold ExferReaches
  decide +kernel

/-- The server of a cascade's master, with its member present over the upper link. -/
def relays : State := set [(0x2300, 1, 2), (0x2300, 4, 2), (0x2300, 8, 2), (0x2300, 9, 3), (0x2811, 1, 6)] served

theorem wit_exferRelay :
    relays.begun.exferMine { dgram 1 with relay := 1 } = true ∧ relays.begun.exferElsewhere { dgram 1 with relay := 1 } = true ∧
    relays.begun.relayLink 1 = some 1 ∧ served.begun.exferElsewhere { dgram 1 with relay := 1 } = true ∧
    served.begun.relayLink 1 = none := by decide +kernel

/-- With a key in slot 1. -/
def keyed : State := served.putBytes 0x1FF2 1 0 [1]

/-- A datagram of session 3 under key slot 1, with the tag that the session gives it. -/
def signed (s : State) (x : ExferSession) (seq : Nat) : ExferHdr :=
  { dgram seq with auth := true, keySlot := 1, tag := s.sessionTag x [] }

/-- The master of a formed canvas of two regions that serves Exfer, with the same key. -/
def keyedCanvas : State :=
  (set [(0x2310, 1, 2), (0x2310, 2, 1), (0x2310, 4, 256), (0x2310, 5, 512), (0x2310, 0xC, 128), (0x2311, 2, 1), (0x2300, 8, 2),
    (0x2300, 9, 3), (0x2105, 1, 2), (0x1FF1, 1, 1), (0x2101, 1, 0x0A000001), (0x2300, 5, 0)] canvas).putBytes 0x1FF2 1 0 [1]

/-- A datagram of a keyed session passes every check. -/
theorem signed_next (x : State) (b : Option ExferBlock) (h : ((x.exferKey 1).any (· != 0)) = true ∧ x.exferUp 0 = true ∧
    x.nat 0x2104 1 = served.nat 0x2104 1 ∧ x.nat 0x2101 1 = 0x0A000001) : ExferNext (withSes (ses 1 b) x).begun
    (signed (withSes (ses 1 b) x).begun (ses 1 b) 8) (ses 1 b) := by
  obtain ⟨h1, h2, h3, h4⟩ := h
  refine ⟨⟨?_, rfl, rfl, rfl, ?_⟩, rfl⟩
  · show ((x.exferUp 0 && _ == x.nat 0x2104 1) && _ == x.nat 0x2101 1 && _) = true
    rw [h2, h3, h4]
    simp [signed, dgram]
  · simp only [State.tagGood]
    rw [if_neg (show ¬(ses 1 b).keySlot = 0 from by simp [ses])]
    show (true && _ && (_ && (x.exferKey 1).any (· != 0)) && _) = true
    rw [h1]
    simp [signed, dgram, ses]

theorem wit_exferRequests :
    (ExferNext (withSes (ses 0 none) served).begun (dgram 8) (ses 0 none) ∧ 1400 ≤ 1400 ∧ (ses 0 none).keySlot = 0 ∧
      ((withSes (ses 0 none) served).begun.serving (dgram 8) (ses 0 none) 0x30).exferSession 3 =
        some { ses 0 none with q := 8, stored := (0, 0x30, []) }) ∧
    (ses 1 none).keySlot ≠ 0 ∧
    (((withSes (ses 1 none) keyed).begun.serving (dgram 8) (ses 1 none) 0x11).hostWrite (.exfer 3)
      ⟨⟨0x3000, 7⟩, none, [3]⟩).2.isSome = true := by
  unfold ExferNext ExferReaches
  decide +kernel

theorem wit_exferSigned (b : Option ExferBlock) : (ses 1 b).keySlot ≠ 0 ∧
    ExferNext (withSes (ses 1 b) keyed).begun (signed (withSes (ses 1 b) keyed).begun (ses 1 b) 8) (ses 1 b) ∧
    ExferNext (withSes (ses 1 b) keyedCanvas).begun (signed (withSes (ses 1 b) keyedCanvas).begun (ses 1 b) 8) (ses 1 b) :=
  ⟨by simp [ses], signed_next keyed b (by decide +kernel), signed_next keyedCanvas b (by decide +kernel)⟩

/-- A commit of one canvas write for the instant 1 s. -/
def canvasRecord : List Byte := commitRecord 5 (secT 1) 0 [canvasWord]

/-- The state in which the canvas's master serves that commit. -/
def commits : State := (withSes (ses 1 none) keyedCanvas).begun.serving (dgram 8) (ses 1 none) 0x40

theorem wit_exferCommits :
    (((withSes (ses 1 none) keyed).begun.serving (dgram 8) (ses 1 none) 0x40).commitFromRecord (.exfer 3) []).2 =
      some 0x06070010 ∧ (commits.commitFromRecord (.exfer 3) canvasRecord).2 = none := by
  refine ⟨by decide +kernel, ?_⟩
  have hr : readRecord canvasRecord = some (5, secT 1, 0, [canvasWord]) := by decide +kernel
  have hf : firstCode [commits.recordCode [canvasWord], need ([canvasWord].all fun w => !commits.memberLocked w.obj.idx) 0x08000022] = 0 ∧
      commits.canvasCommit ([canvasWord].map commits.throughWindow) = true := by decide +kernel
  have hj : commits.judgeCommit ([canvasWord].map commits.throughWindow) (secT 1) = 0 :=
    judgeCommit_of_noSlots (by decide +kernel) (by decide +kernel) (by decide +kernel)
  have hc : firstCode [need (commits.isMaster && decide (commits.now + commits.relayAhead ≤ secT 1)) 0x08000022,
      need (!(commits.others.any commits.memberAway)) 0x08000022, commits.heldFrames ([canvasWord].map commits.throughWindow)] = 0 := by
    decide +kernel
  simp only [State.commitFromRecord, hr]
  rw [if_pos hf, State.relayExecute]
  have ha := firstCode_append [need (commits.isMaster && decide (commits.now + commits.relayAhead ≤ secT 1)) 0x08000022,
      need (!(commits.others.any commits.memberAway)) 0x08000022, commits.heldFrames ([canvasWord].map commits.throughWindow)]
      [commits.judgeCommit ([canvasWord].map commits.throughWindow) (secT 1)]
  rw [if_pos hc, hj] at ha
  dsimp only
  rw [hj]
  rw [if_neg (by rw [ne_eq, not_not]; exact ha)]
  split <;> rfl

/-- Transfers to and from the module. -/
def toModule : ExferBlock := ⟨5, ⟨0x6200, 1⟩, false, 0, 16, 8, 8, 0, zeros 8, 0, 0⟩
def fromModule (sent : Nat) : ExferBlock := ⟨5, ⟨0x6200, 1⟩, true, 0, 16, 0, sent, 0, zeros 16, 0, 0⟩

theorem wit_exferBlocks :
    (((withSes (ses 1 none) keyed).begun.serving (dgram 8) (ses 1 none) 0x20).blockCode (.exfer 3) ⟨0x6200, 1⟩ false 0 16 = 0 ∧
      ((withSes (ses 1 none) keyed).begun.serving (dgram 8) (ses 1 none) 0x20).blockCode (.exfer 3) ⟨0x6200, 1⟩ true 0 16 = 0 ∧
      ({ ses 1 none with q := 8, stored := (0, 0x20, []) } : ExferSession).block = none) ∧
    (ExferReaches (withSes (ses 0 (some toModule)) served).begun (dgram 0) (ses 0 (some toModule)) ∧ (dgram 0).seq = 0 ∧
      ((withSes (ses 0 (some toModule)) served).begun.putExfer (ses 0 (some toModule))).blockOf 3 5 = some toModule ∧
      toModule.fromModule = false ∧ 8 + (zeros 8).length ≤ toModule.off + toModule.total ∧ 8 = toModule.next ∧ 4 ≠ toModule.next) ∧
    (ExferNext (withSes (ses 0 (some (fromModule 16))) served).begun (dgram 8) (ses 0 (some (fromModule 16))) ∧
      ((withSes (ses 0 (some (fromModule 16))) served).begun.serving (dgram 8) (ses 0 (some (fromModule 16))) 0x22).blockOf 3 5 =
        some (fromModule 16) ∧ (fromModule 16).fromModule = true ∧ (fromModule 16).next < 16 ∧ 16 ≤ (fromModule 16).sent) ∧
    ((withSes (ses 1 (some toModule)) keyed).begun.serving (dgram 8) (ses 1 (some toModule)) 0x23).blockOf 3 5 = some toModule ∧
    ((fromModule 16).sent = (fromModule 16).off + (fromModule 16).total ∧
      crc32c (fromModule 16).held = crc32c (zeros 16) ∧ crc32c (fromModule 16).held ≠ 0) ∧
    ((withSes (ses 0 (some (fromModule 16))) served).allServed = true ∧
      (withSes (ses 0 (some (fromModule 16))) served).begun.exferSession 3 = some (ses 0 (some (fromModule 16))) ∧
      (ses 0 (some (fromModule 16))).block = some (fromModule 16) ∧ (fromModule 16).next < (fromModule 16).sent) := by
  unfold ExferNext ExferReaches
  decide +kernel

/-- A paired unit that serves Exfer, with a key in slot 1, which pair heartbeat notifies use. -/
def pairServed : State := set [(0x2200, 1, 1), (0x1FF1, 3, 1)] keyed

/-- A heartbeat record of the present instant. -/
def beat : List Byte :=
  [1, 1] ++ zeros 2 ++ beBytes 4 1 ++ beBytes 4 pairServed.now32 ++ zeros 4

theorem wit_notifies :
    (withSes (ses 0 none) served).allServed = true ∧ (withSes (ses 0 none) served).begun.exferSession 3 = some (ses 0 none) ∧
    (ses 0 none).sub = some ⟨0, [(0, zeros 32)]⟩ ∧
    (List.range 8).any pairServed.begun.exferUp = true ∧ pairServed.allServed = true ∧
    pairServed.begun.hasKey (pairServed.begun.nat 0x1FF1 3) = true ∧ pairServed.begun.paired = true ∧
    pairServed.begun.notifyFresh 9 (beat ++ beBytes 4 (crc32c beat)) = true := by decide +kernel

/-! ### PTP and PLLs -/

/-- An ordinary clock on port 0 that follows a parent, in a time state. -/
def ann : AnnounceMsg := ⟨0, 127, 77, 77, 128, 6, 0x20, 100, 128, 1, 0x20, 37⟩
def slave (st : Int) : State :=
  { set [(0x2700, 2, st), (0x2701, 2, 1)] up with
    ptp := { PtpSt.reset with foreign := [(foreignKey ann, ⟨ann, 5, some 4⟩)], parent := some ⟨ann, 5, some 4⟩ } }

theorem wit_announces :
    ((slave 2).live = true ∧ (slave 2).begun.ptpMask.testBit ann.port = true ∧ ann.domain = (slave 2).begun.nat 0x2701 3 ∧
      ann.steps < 255) ∧
    (slave 2).begun.judgedMaster 0 = some ⟨ann, 5, some 4⟩ ∧ up.begun.judgedMaster 0 = none ∧
    (⟨ann, 5, none⟩ : Foreign).before = none ∧ (slave 2).bestForeign = some ⟨ann, 5, some 4⟩ ∧
    255 ≤ ({ ann with steps := 255 } : AnnounceMsg).steps ∧ (slave 2).allServed = true ∧
    rankBefore (announceRank { ann with prio1 := 127 }) (announceRank ann) = true := by decide +kernel

theorem wit_announceOfAnother : ∃ m : AnnounceMsg, m = { ann with source := Config.clockId + 1 } ∧ (slave 2).live = true ∧
    (slave 2).begun.ptpMask.testBit m.port = true ∧ m.domain = (slave 2).begun.nat 0x2701 3 ∧ m.steps < 255 ∧
    m.source ≠ Config.clockId :=
  ⟨_, rfl, by decide +kernel, by decide +kernel, by decide +kernel, by decide +kernel, Nat.succ_ne_self _⟩

theorem wit_referenceLost :
    ((slave 2).allServed = true ∧ (slave 2).ptp.parent = some ⟨ann, 5, some 4⟩ ∧ (slave 2).begun.timeState ≠ 0 ∧
      (slave 2).begun.timeState ≠ 3 ∧ (slave 2).ptp.missed < 16) ∧ up.allServed = true ∧ up.begun.timeState = 0 := by
  decide +kernel

/-- A message of the parent. -/
def ptpMsg : PtpMsg := ⟨0, 127, 77, 9, true, 100, 0, 200⟩

theorem wit_syncs :
    (slave 2).begun.fromParent ptpMsg = true ∧ ptpMsg.twoStep = true ∧ ({ ptpMsg with twoStep := false } : PtpMsg).twoStep = false ∧
    ({ slave 2 with ptp := { (slave 2).ptp with wait := some ⟨0, 77, 9, 300, 0⟩ } } : State).ptp.wait = some ⟨0, 77, 9, 300, 0⟩ ∧
    (⟨0, 77, 9, 300, 0⟩ : SyncWait).port = ptpMsg.port ∧ (⟨0, 77, 9, 300, 0⟩ : SyncWait).source = ptpMsg.source ∧
    (⟨0, 77, 9, 300, 0⟩ : SyncWait).seq = ptpMsg.seq ∧ (⟨0, 77, 8, 300, 0⟩ : SyncWait).seq ≠ ptpMsg.seq ∧
    up.begun.fromParent ptpMsg = false := by decide +kernel

theorem wit_delays :
    (slave 2).live = true ∧ (slave 2).ptp.parent = some ⟨ann, 5, some 4⟩ ∧ (⟨ann, 5, some 4⟩ : Foreign).msg.port = 0 ∧ (slave 2).ptp.delay = none ∧
    (⟨0, 9, 50, false⟩ : DelayWait).answered = false ∧ (⟨0, 9, 50, false⟩ : DelayWait).port = ptpMsg.port ∧
    (⟨0, 9, 50, false⟩ : DelayWait).seq = ptpMsg.seq ∧ (set [(0x2701, 1, 1), (0x2701, 2, 1)] up).begun.portState 0 = 6 ∧
    ptpMsg.domain = (set [(0x2701, 1, 1), (0x2701, 2, 1)] up).begun.nat 0x2701 3 ∧
    (set [(0x2701, 1, 1), (0x2701, 2, 1)] up).begun.ptpRole ≠ 0 ∧ up.begun.portState 0 ≠ 6 := by decide +kernel

theorem wit_offsets :
    (slave 2).Inv ∧ (slave 2).timeState = 2 ∧ 65536 * ((slave 1).nat 0x4700 4) < (10 ^ 15 : Int).natAbs ∧
    (slave 1).isRunning = false ∧ (set [(0x2A00, 1, 1)] { slave 1 with atlas := atlasOn.atlas }).isRunning = true ∧
    65536 * ((set [(0x2A00, 1, 1)] { slave 1 with atlas := atlasOn.atlas }).nat 0x4700 4) < (10 ^ 15 : Int).natAbs := by
  unfold State.Inv
  decide +kernel

/-- The Video PLL in a state. -/
def pllIn (st : Int) (p : PllRt) : State := { set [(0x2702, 2, st)] up with vpll := p }

theorem wit_outerLoops :
    up.begun.pllState false = 0 ∧ (pllIn 1 ⟨up.nominalWord false, 1, none, none⟩).live = true ∧
    (pllIn 1 ⟨up.nominalWord false, 1, none, none⟩).begun.pllState false = 1 ∧
    (pllIn 1 ⟨up.nominalWord false, 1, none, none⟩).begun.nominalWord false -
      (pllIn 1 ⟨up.nominalWord false, 1, none, none⟩).begun.nominalWord false / 1000 ≤
        ((pllIn 1 ⟨up.nominalWord false, 1, none, none⟩).begun.pll false).word ∧
    ((pllIn 1 ⟨up.nominalWord false, 1, none, none⟩).begun.pll false).word ≤
      (pllIn 1 ⟨up.nominalWord false, 1, none, none⟩).begun.nominalWord false +
        (pllIn 1 ⟨up.nominalWord false, 1, none, none⟩).begun.nominalWord false / 1000 ∧
    3 ≤ (pllIn 4 ⟨9, 1, none, none⟩).begun.pllState false := by decide +kernel

theorem wit_plls :
    (pllIn 2 ⟨9, 1, none, none⟩).begun.pllState false = 2 ∧ 1000 < (1001 : Int).natAbs ∧
    (pllIn 3 ⟨9, 1, some 0, none⟩).begun.pllState false = 3 ∧ ((pllIn 3 ⟨9, 1, some 0, none⟩).begun.pll false).window = some 0 ∧
    ((pllIn 3 ⟨9, 1, some 0, none⟩).begun.until (nsT measureNs + 0)).pllErrorPpb false 4982833 ≤ 50000 ∧
    50000 < ((pllIn 3 ⟨9, 1, some 0, none⟩).begun.until (nsT measureNs + 0)).pllErrorPpb false 0 ∧
    3 ≤ (pllIn 3 ⟨9, 1, none, some 4⟩).begun.pllState false ∧ ((pllIn 3 ⟨9, 1, none, some 4⟩).begun.pll false).since = some 4 ∧
    up.begun.mayFail = true := by decide +kernel

/-! ### Audio, Atlas, memory, movers, events -/

/-- Serial audio port 7 in a mode and state, with its runtime. -/
def aport (mode st : Int) (p : AudioPort) : State :=
  { set [(0x2907, 1, mode), (0x2907, 0xB, st), (0x2907, 7, 1), (0x4907, 1, 50)] up with audio := { up.audio with ports := [(7, p)] } }

/-- It runs, the last index handled 9. -/
def aRun : AudioPort :=
  { AudioPort.fresh (some 0) 0 with running := true, phase := some 0, p := 9, repeating := some 3, lastEdge := some 40 }

theorem wit_audioStarts :
    (aport 1 1 { aRun with running := false }).live = true ∧
    (aport 1 1 { aRun with running := false }).begun.port? 7 = some { aRun with running := false } ∧
    ({ aRun with running := false } : AudioPort).start = some 0 ∧ (aport 1 2 aRun).begun.port? 7 = some aRun ∧
    aRun.running = true := by decide +kernel

theorem wit_audioFrames :
    ((aport 1 2 aRun).live = true ∧ (aport 1 2 aRun).begun.port? 7 = some aRun ∧ aRun.running = true) ∧ up.begun.port? 7 = none ∧
    ((aport 1 2 aRun).Inv ∧ (aport 1 2 aRun).port? 7 = some aRun ∧ (aport 1 2 aRun).ap 7 1 = 1 ∧ (aport 1 2 aRun).ap 7 0xB = 2 ∧
      -1 ≤ aRun.p ∧ aRun.p + 1 < 12 ∧ aRun.zeroed = false) ∧
    ((aport 2 2 aRun).Inv ∧ (aport 2 2 aRun).port? 7 = some aRun ∧ (aport 2 2 aRun).ap 7 1 = 2 ∧ (aport 2 2 aRun).ap 7 0xB = 2 ∧
      (aport 2 2 aRun).audio.muted = false ∧ (aport 2 2 aRun).outputWords 7 (aRun.p + 1) = some [0, 0] ∧
      (set [(0x2907, 9, 0x80000000)] (aport 2 2 aRun)).Inv ∧
      (set [(0x2907, 9, 0x80000000)] (aport 2 2 aRun)).outputWords 7 (aRun.p + 1) = none) := by
  unfold State.Inv
  decide +kernel

theorem wit_audioHolds :
    ((aport 1 2 aRun).begun.ap 7 1 = 1 ∧ aRun.p < 10 ∧ (9 : Int) ≤ aRun.p ∧ aRun.zeroed = false ∧
      (aport 1 2 aRun).begun.ap 7 0xB ≠ 4 ∧ -1 ≤ aRun.p ∧ (aport 1 2 aRun).Inv) ∧
    ((aport 1 2 aRun).live = true ∧ (aport 1 2 aRun).begun.port? 7 = some aRun ∧ aRun.running = true ∧
      (aport 1 2 aRun).begun.ap 7 7 = 1 ∧ aRun.lost = false ∧ aRun.lastEdge = some 40 ∧ (aport 1 2 aRun).clk.addend ≠ 0) ∧
    (aRun.repeating = some 3 ∧ (aport 1 2 aRun).begun.nat (0x4900 + 7) 1 ≠ 0 ∧ aRun.zeroed = false) ∧ up.begun.port? 7 = none := by
  unfold State.Inv
  decide +kernel

/-- A window of 100 ms with so many periods, its last edge at an instant. -/
def window (count : Nat) (last : Tick) : AudioPort := { aRun with winFirst := some 0, winLast := last, winCount := count }

/-- The state in which that window is judged: its rate is shown. -/
def judged (count last m : Nat) : State :=
  State.setObj ((aport 1 2 (window count last)).begun.until (msT 100 + (window count last).winFrom)) 0x2907 0xC m

theorem wit_rateWindows :
    ((aport 1 2 aRun).live = true ∧ (aport 1 2 aRun).begun.port? 7 = some aRun ∧ aRun.running = true ∧
      (aport 1 2 aRun).begun.ap 7 7 = 1 ∧ aRun.winFirst = none ∧ ({ aRun with winLost := true }).winLost = true ∧
      (window 9 0).winFirst = some 0 ∧ (window 9 0).winLast ≤ 0) ∧
    ((window 9600 (msT 100)).winFirst = some 0 ∧ (window 9600 (msT 100)).winLost = false ∧ 0 < (window 9600 (msT 100)).winLast ∧
      96000000 = 1000 * (perSec * (window 9600 (msT 100)).winCount) / ((window 9600 (msT 100)).winLast - 0) ∧
      nearestRate 96000000 ≠ (judged 9600 (msT 100) 96000000).ap 7 6 ∧ (judged 9600 (msT 100) 96000000).ap 7 0xB ≠ 4) ∧
    (48000000 = 1000 * (perSec * (window 4800 (msT 100)).winCount) / ((window 4800 (msT 100)).winLast - 0) ∧
      nearestRate 48000000 = (judged 4800 (msT 100) 48000000).ap 7 6 ∧ (judged 4800 (msT 100) 48000000).ap 7 0xB ≠ 4 ∧
      1000000 * ((48000000 : Int) - audioRatesMilli.getD ((judged 4800 (msT 100) 48000000).ap 7 6) 0).natAbs ≤
        500 * audioRatesMilli.getD ((judged 4800 (msT 100) 48000000).ap 7 6) 0) ∧
    (48030000 = 1000 * (perSec * (window 4803 (msT 100)).winCount) / ((window 4803 (msT 100)).winLast - 0) ∧
      nearestRate 48030000 = (judged 4803 (msT 100) 48030000).ap 7 6 ∧ (judged 4803 (msT 100) 48030000).ap 7 0xB ≠ 4 ∧
      (window 4803 (msT 100)).driftArmed = true ∧
      500 * audioRatesMilli.getD ((judged 4803 (msT 100) 48030000).ap 7 6) 0 <
        1000000 * ((48030000 : Int) - audioRatesMilli.getD ((judged 4803 (msT 100) 48030000).ap 7 6) 0).natAbs) := by
  decide +kernel

theorem wit_atlasApplies :
    (atlasOn.live = true ∧ atlasOn.atlas.next = some 5 ∧ atlasOn.atlas.snaps = [] ∧ setVal atlasOn.atlas.inForce 0x2A00 1 = 1) ∧
    (∃ s : State, s = { atlasOn with atlas := { atlasOn.atlas with snaps := [⟨1, 0, [(key 0x2A00 1, 1)]⟩] } } ∧ s.live = true ∧
      s.atlas.next = some 5 ∧ s.atlas.snaps = [⟨1, 0, [(key 0x2A00 1, 1)]⟩] ∧ 0 < applyInstant s.atlas.inForce 5 ∧
      setVal s.atlas.inForce 0x2A00 1 = 1 ∧ setVal [(key 0x2A00 1, 1)] 0x2A00 1 = 1 ∧
      setVal [(key 0x2A00 1, 1)] 0x2A00 2 = setVal s.atlas.inForce 0x2A00 2) ∧ up.atlas.next = none :=
  ⟨by decide +kernel, ⟨_, rfl, by decide +kernel⟩, by decide +kernel⟩

theorem wit_atlasLines :
    atlasOn.atlas.next = some (atlasOn.atlas.frame + 1) ∧ 0 + 1 < rasterH (atlasOn.begun.atl 0x2A00 2) ∧
    Tab.find? atlasOn.atlas.lines (lineKey atlasOn.atlas.frame 0) = none ∧ rasterH (atlasOn.begun.atl 0x2A00 2) ≤ 2160 ∧
    (Tab.find? ({ atlasOn.atlas with lines := [(lineKey 4 0, [])] } : AtlasSt).lines (lineKey atlasOn.atlas.frame 0)).isSome = true ∧ atlasOn.tileEnd 0 ≠ 1 ∧ atlasOn.live = true := by
  decide +kernel

/-- Atlas with a tile that shows line 0 of a flow. -/
def tiled : State :=
  { atlasOn with atlas := { atlasOn.atlas with
    tiles := atlasOn.atlas.tiles.set 0 { TileRt.reset with shown := .flow 1 1 1 }
    inForce := [(key 0x2A00 1, 1), (key 0x2A10 9, 16), (key 0x2A10 0xA, 16)] } }

theorem wit_atlasUnderruns :
    ∃ x : TileRt, tiled.Inv ∧ tiled.atlas.tiles[0]? = some x ∧ (∀ c n b, x.shown ≠ .recon c n (some b)) ∧ x.shown ≠ .none ∧
      x.offFrom = none ∧ tiled.atl (0x2A10 + 0) 8 ≤ 0 ∧ 0 < tiled.tileEnd 0 ∧ tiled.atl (0x2A10 + 0) 7 ≤ 5 ∧
      5 < tiled.atl (0x2A10 + 0) 7 + tiled.atl (0x2A10 + 0) 9 := by
  refine ⟨{ TileRt.reset with shown := .flow 1 1 1 }, ?_⟩
  unfold State.Inv
  refine ⟨by decide +kernel, by decide +kernel, by simp, by decide +kernel, by decide +kernel, by decide +kernel, by decide +kernel,
    by decide +kernel, by decide +kernel⟩

theorem wit_memoryErrors :
    (set [(0x2C00, 1, 2)] up).begun.dramUp = true ∧ (set [(0x2C00, 1, 2)] up).begun.nat 0x4C00 1 ≠ 0 ∧
    (frozen.power.vin ≠ .undefinedBand ∧ (set [(0x4C00, 3, 9)] frozen).power.freeze = some 5 ∧
      (set [(0x4C00, 3, 9)] frozen).begun.nat 0x4C00 3 ≠ 0) ∧
    ((set [(0x4C00, 3, 0)] frozen).begun.nat 0x4C00 3 = 0) ∧ up.live = true ∧ 0 ∉ [1, 2, 4] ∧
    (95 : Int) ≤ 95 ∧ (95 : Int) < 96 := by decide +kernel

/-- Sixteen bytes to be copied down by eight: source and destination meet, the defined way round. -/
def desc : Descriptor := ⟨8, 0, 16, 0xFFFF, true, none⟩
def moves : State := { up with movers := [(31, ⟨[desc], false, none⟩)] }

theorem wit_movers :
    moves.Inv ∧ moves.live = true ∧ (moves.begun.mover 31).ring = desc :: [] ∧ (moves.begun.mover 31).stopped = false ∧
    desc.overlaps = false ∧ ∀ a, a < desc.len → moverMay (desc.src + a) = true ∧ moverMay (desc.dst + a) = true := by
  unfold State.Inv
  decide +kernel

theorem wit_events :
    (up.coreUp = true ∧ up.evt.next = none) ∧
    ({ up.evt with queue := [⟨0x0701, 0xFF, 0, 3, 0, 0⟩] } : EvtSt).next = some (⟨0x0701, 0xFF, 0, 3, 0, 0⟩, up.evt) := by
  decide +kernel

/-! ### Power and reset -/

theorem wit_supply :
    (pow ({ · with vin := .off }) up).power.vin = .off ∧ up.power.vin = .running ∧ up.begun.mayFail = true ∧
    (up.begun.domainOn 10 = true ∧ up.begun.domainOn 17 = true ∧ up.begun.domainOn 18 = true ∧ ¬(10 ≤ 18 ∧ 18 ≤ 17)) ∧
    frozen.power.vin ≠ .undefinedBand ∧ frozen.begun.mayFail = false := by decide +kernel

/-- The pin is low, with domains held or not. -/
def low (h : Option Nat) : State := pow ({ · with resetLow := true, held := h }) up

theorem wit_resetPin :
    (up.power.resetLow = false ∧ up.power.held ≠ some 0 ∧ up.power.freeze = none ∧ frozen.power.resetLow = false ∧
      frozen.power.held ≠ some 0 ∧ frozen.power.freeze.isSome = true) ∧
    ((low none).power.vin = .running ∧ (low none).power.resetLow = true ∧ (low none).power.held = none) ∧
    (low (some 0)).power.held = some 0 := by decide

theorem wit_startSequence :
    ((pow ({ · with held := some 4 }) up).power.held = some 4 ∧ 4 ≠ 0) ∧ (pow ({ · with held := some 0 }) up).power.held = some 0 ∧
    (State.reset.power.vin = .running ∧ State.reset.power.resetLow = false ∧ State.reset.power.held = none ∧
      State.reset.power.freeze = none ∧ State.reset.power.stage = 0) ∧ State.reset.power.start ≠ 5 ∧ up.power.stage = 4 := by decide

theorem wit_holdRelease :
    ((pow ({ · with hold := true }) (slave 2)).live = true ∧ (pow ({ · with hold := true }) (slave 2)).power.hold = true ∧
      (pow ({ · with hold := true }) (slave 2)).begun.timeState = 2) ∧ up.power.hold = false ∧ up.begun.timeState ≠ 2 ∧
    up.begun.ptpRole = 0 := by decide +kernel

theorem wit_resets : up.Inv ∧ 5 ≤ 5 := by
  unfold State.Inv
  decide

/-! ### Ingress and ports -/

/-- A flow record of a kind, its size (audio: its channels), and its policer. -/
def flowBytes (kind w h pol : Nat) : List Byte :=
  beBytes 1 (2 * kind + 1) ++ beBytes 1 96 ++ zeros 2 ++ beBytes 4 0xEF000001 ++ zeros 4 ++ beBytes 2 5000 ++ zeros 18 ++
    beBytes 2 w ++ beBytes 2 h ++ zeros 4 ++ beBytes 4 pol ++ beBytes 4 pol ++ zeros 16

/-- Ethernet port 0 is up; flow 0 is enabled with a record and a runtime. -/
def rx (kind w h pol : Nat) (r : FlowRt) : State :=
  { (set [(0x2105, 1, 2)] up).putBytes 0x6200 1 0 (flowBytes kind w h pol) with flows := [(0, r)] }

/-- A packet for flow 0, and one that is for none. -/
def pkt : RxPacket := ⟨0, 200, true, true, true, 0, 1, 0xEF000001, 5000, 96, 7, 3, 0, .video [], 0⟩

theorem wit_packets :
    ((rx 0 64 64 0 .empty).live = true ∧ (rx 0 64 64 0 .empty).begun.portUp pkt.port = true ∧ pkt.shapeOk = true ∧
      pkt.frameLen ≤ 9018 ∧ pkt.ipSumOk = true ∧ pkt.udpSumOk = true ∧
      ((rx 0 64 64 0 .empty).begun.until pkt.pcs).matchFlow pkt pkt.pcs = some (0, false) ∧
      ((rx 0 64 64 0 .empty).begun.until pkt.pcs).matchFlow { pkt with pt := 97 } pkt.pcs = none) ∧
    (up.begun.portUp 3 = false ∧ { pkt with ipSumOk := false }.ipSumOk = false) ∧
    ((rx 0 64 64 1 .empty).flowHoled 0 = false ∧ (police ((rx 0 64 64 1 .empty).flowRec 0) none 200 0).1 = false) ∧
    ((rx 0 64 64 9000 .empty).flowRec 0).polRate ≠ 0 ∧ ((rx 0 64 64 9000 .empty).flowRec 0).polDepth ≠ 0 := by
  decide +kernel

/-- Flow 0 feeds a region of the canvas that the member owns: it is enabled at the master too, which does not receive it. -/
def elsewhere : State :=
  set [(0x2300, 1, 1), (0x2300, 4, 2), (0x2310, 1, 2), (0x2310, 2, 1), (0x2311, 2, 1), (0x2312, 1, 9)] (rx 0 64 64 0 .empty)

theorem wit_notReceived :
    ((rx 0 64 64 0 .empty).begun.until pkt.pcs).received 0 = true ∧ elsewhere.live = true ∧ elsewhere.begun.portUp pkt.port = true ∧
    (elsewhere.begun.until pkt.pcs).matchFlow pkt pkt.pcs = some (0, false) ∧
    (elsewhere.begun.until pkt.pcs).received 0 = false := by decide +kernel

/-- A frame of slot 5 in a state, with one line. -/
def frame5 (g : SlotGift) (stamp : Option Nat) (l : LineRt) : FlowRt :=
  { FlowRt.empty with frames := [(5, ⟨g, stamp, [], [(0, l)]⟩)] }

theorem wit_linesClose :
    (((rx 0 64 64 0 .empty).begun.recAt 0 5).on = true ∧ ((rx 0 64 64 0 .empty).begun.recAt 0 5).kind = 0 ∧
      0 < ((rx 0 64 64 0 .empty).begun.recAt 0 5).height ∧ 0 + 1 < ((rx 0 64 64 0 .empty).begun.recAt 0 5).height) ∧
    (∃ u : State, u = (rx 0 64 64 0 (frame5 .present (some 0) (.collecting []))).begun.until
        (((rx 0 64 64 0 .empty).begun.recAt 0 5).deadline 5 0) ∧
      ((u.flow 0).frame 5).gift = .present ∧ ((u.flow 0).frame 5).line 0 = .collecting []) ∧
    (∃ u : State, u = (rx 0 64 64 0 (frame5 .present (some 0) (.closed true [1]))).begun.until
        (((rx 0 64 64 0 .empty).begun.recAt 0 5).deadline 5 0) ∧
      ((u.flow 0).frame 5).gift = .present ∧ ((u.flow 0).frame 5).line 0 = .closed true [1]) ∧
    (∃ u : State, u = (rx 0 64 64 0 .empty).begun.until (((rx 0 64 64 0 .empty).begun.recAt 0 5).deadline 5 0) ∧
      ((u.flow 0).frame 5).gift = .undecided ∧ ((u.flow 0).frame 5).stamp = none) :=
  ⟨by decide +kernel, ⟨_, rfl, by decide +kernel⟩, ⟨_, rfl, by decide +kernel⟩, ⟨_, rfl, by decide +kernel⟩⟩

theorem wit_otherKindsClose :
    (((rx 2 0 0 0 .empty).begun.recAt 0 5).on = true ∧ ((rx 2 0 0 0 .empty).begun.recAt 0 5).kind = 2 ∧
      ((rx 2 0 0 0 .empty).flow 0).ancClosed.contains 5 = false ∧ Tab.find? ((rx 2 0 0 0 .empty).flow 0).anc 5 = none ∧
      (Tab.find? ((rx 2 0 0 0 { FlowRt.empty with anc := [(5, [])] }).flow 0).anc 5).isSome = true) ∧
    (((rx 1 2 0 0 .empty).begun.recAt 0 5).on = true ∧ ((rx 1 2 0 0 .empty).begun.recAt 0 5).kind = 1 ∧
      ((rx 1 2 0 0 .empty).flow 0).audioNext = none) ∧
    ((rx 0 64 64 0 { FlowRt.empty with lastA := some 9 }).begun.flow 0).lastA = some 9 ∧
    ((rx 0 64 64 0 { FlowRt.empty with lastB := some 9 }).begun.flow 0).lastB = some 9 ∧
    (up.begun.recAt 0 5).on = false ∧ (up.begun.flow 0).lastA = none := by
  decide +kernel

/-- Port 0 has an address, a table of addresses and the instant of its last refresh. -/
def arp (r : PortRt) : State := { set [(0x2105, 1, 2), (0x2101, 1, 0x0A000001)] up with ports := [(0, r)] }

theorem wit_ports :
    (arp ⟨true, [], none, []⟩).begun.nat 0x2105 1 = 2 ∧ up.begun.nat 0x2105 1 ≠ 2 ∧
    ((set [(0x2105, 1, 1)] up).Inv ∧ (set [(0x2105, 1, 1)] up).begun.nat 0x2105 1 = 1) ∧
    ((arp ⟨true, [], none, []⟩).begun.portUp 0 = true ∧ (arp ⟨true, [], none, []⟩).begun.nat 0x2101 1 = 0x0A000001 ∧
      ((arp ⟨true, [], none, []⟩).begun.ether 0).refreshed = none) ∧
    (((arp ⟨true, [], some 7, []⟩).begun.ether 0).refreshed = some 7 ∧
      ((arp ⟨true, [], some 7, []⟩).begun.hops 0).all
        (fun h => ((arp ⟨true, [], some 7, []⟩).begun.ether 0).arp.any fun a => a.1 == h) = true) := by
  unfold State.Inv
  decide +kernel

/-! ### The coding path -/

/-- One band of two closed lines; its channel runs. -/
def oneBand : State :=
  { rx 0 64 2 0 { FlowRt.empty with
      frames := [(4, ⟨.absent, none, [], []⟩), (5, ⟨.present, none, [], [(0, .closed true []), (1, .closed true [])]⟩)] } with
    chans := [(0, chan0)] }

theorem wit_bands :
    oneBand.live = true ∧ ((oneBand.begun.flow 0).frame 5).gift = .present ∧
    (∀ l ∈ bandLines (oneBand.begun.recAt 0 5).height 0, ∃ p d, ((oneBand.begun.flow 0).frame 5).line l = .closed p d) ∧
    0 ∉ (oneBand.begun.anaGet 0 5).bands ∧ 0 < cdiv (oneBand.begun.recAt 0 5).height 64 ∧ oneBand.begun.anaDue 0 5 = true ∧
    oneBand.begun.anaSettled 0 5 = true ∧ up.begun.anaDue 0 5 = false := by
  refine ⟨by decide +kernel, by decide +kernel, ?_, by decide +kernel⟩
  intro l h
  have h : l = 0 ∨ l = 1 := by
    revert h
    rw [show bandLines (oneBand.begun.recAt 0 5).height 0 = [0, 1] by decide +kernel]
    simp
  obtain rfl | rfl := h
  · exact ⟨true, [], by decide +kernel⟩
  · exact ⟨true, [], by decide +kernel⟩

/-- What an AU of 64 by 128 samples was decided with, two CTU rows. -/
def cfg0 : AuCfg :=
  ⟨1, 0, 8, 64, 128, 0, 0, 6, 4, 2, 0, 0, 0, 0, 0, 0, 8, 8, false, 0, 0, 64, 128, [0, 1], [0, 2], [0], []⟩

/-- The AU of slot 5, with its rows. -/
def au5 (rows : List RowRt) : Au :=
  { Au.blank cfg0 5 with poc := 1, qb := 30, m := 1000, rows := rows }

/-- A row at a stage. -/
def row0 (st : RowStage) : RowRt := { RowRt.empty with stage := st, q := 30, allow := 1000 }

/-- Channel 0 runs with that AU. -/
def withAu (a : Au) : State := { oneBand with chans := [(0, { chan0 with aus := [a] })] }

theorem wit_pictures :
    (oneBand.begun.chan 0).upcoming = 3 ∧ (oneBand.begun.pc 0).deferred = none ∧
    up.begun.readyHere 0 (up.begun.chan 0).upcoming = false :=
  ⟨by decide +kernel, by decide +kernel, by decide +kernel⟩

/-- Channel 0 waits to decide slot 3, whose frame is absent. -/
def ready : State :=
  { oneBand with flows := [(0, { FlowRt.empty with frames := [(3, ⟨.absent, none, [], []⟩)] })] }

/-- The same with what the unit holds of its partner. -/
def readyPc (q : PairChan) : State := { ready with pair := { ready.pair with chans := [(0, q)] } }

/-- A paired channel that has asked for a resync; one whose decision waits. -/
def pc0 : PairChan := ⟨[], [], [], false, true, none, none, 0, some 3⟩

theorem wit_decisions :
    (ready.live = true ∧ 3 = (ready.begun.chan 0).upcoming ∧ ready.begun.readyHere 0 3 = true ∧
      (ready.begun.pc 0).deferred ≠ some 3 ∧ ready.mustDefer 0 3 = false) ∧
    ((readyPc pc0).begun.readyHere 0 3 = true ∧ ((readyPc pc0).begun.pc 0).deferred = some 3) ∧
    ((set [(0x2200, 1, 1), (0x2200, 3, 1), (0x2200, 9, 2), (basic 0 0xB, 1, 2)] (readyPc { pc0 with deferred := none })).begun.readyHere 0 3 =
        true ∧
      (set [(0x2200, 1, 1), (0x2200, 3, 1), (0x2200, 9, 2), (basic 0 0xB, 1, 2)] (readyPc { pc0 with deferred := none })).mustDefer 0 3 =
        true) := by
  decide +kernel

theorem wit_rowDecision :
    ∃ a : Au, a = au5 [row0 .waiting, row0 .waiting] ∧ (withAu a).live = true ∧ ((withAu a).begun.chan 0).au? 5 = some a ∧
      a.skip = false ∧ a.replaced = false ∧ 0 < a.rows.length ∧ (a.row 0).stage = .waiting ∧ 0 < a.cfg.k ∧
      ({ withAu a with ana := [(anaKey 0 5, { AnaRt.empty with bands := [0] })] } : State).begun.rowAnalysed a 0 = true ∧
      (withAu a).begun.bandsDecided a 0 = true :=
  ⟨_, rfl, by decide +kernel⟩

/-- A canvas AU of one region, whose frame is absent; its band's presence is decided. -/
def absentAu : Au := { au5 [row0 .waiting, row0 .waiting] with cfg := { cfg0 with canvas := true } }
def absentCanvas : State :=
  { set [(0x2300, 1, 1), (0x2300, 4, 2), (0x2310, 1, 1), (0x2310, 2, 1)] (withAu absentAu) with
    flows := [(0, { FlowRt.empty with frames := [(4, ⟨.absent, none, [], []⟩), (5, ⟨.absent, none, [], []⟩)] })]
    casc := { CascSt.reset with presence := [(rowKey 5 0, true)] } }

theorem wit_absentRow :
    absentCanvas.live = true ∧ (absentCanvas.begun.chan 0).au? 5 = some absentAu ∧ absentAu.skip = false ∧ absentAu.replaced = false ∧
    0 < absentAu.rows.length ∧ (absentAu.row 0).stage = .waiting ∧ 0 < absentAu.cfg.k ∧
    absentCanvas.begun.rowAnalysed absentAu 0 = true ∧ absentCanvas.begun.bandsDecided absentAu 0 = true ∧
    absentCanvas.begun.absentRow absentAu 0 = true := by decide +kernel

theorem wit_rowCoding :
    ∃ a : Au, a = { au5 [row0 .decided, row0 .waiting] with repl := some ([], 0), bands := [(0, [])] } ∧
      ((withAu a).begun.chan 0).au? 5 = some a ∧ a.skip = false ∧ a.replaced = false ∧ a.repl.isSome = true ∧
      0 < a.rows.length ∧ (a.row 0).stage = .decided ∧ (Tab.find? a.bands 0).isSome = true ∧
      (withAu a).begun.refsFinal 0 a 0 = true ∧ (withAu a).begun.isCanvas 0 = false :=
  ⟨_, rfl, by decide +kernel⟩

theorem wit_modelUpdate :
    ∃ a : Au, a = { au5 [row0 .settled, row0 .settled] with settled := true } ∧
      ((withAu a).begun.chan 0).au? 5 = some a ∧ a.settled = true ∧ a.modelled = false ∧ a.replaced = false ∧
      ((withAu a).begun.chan 0).mine a = true ∧ Tab.find? ((withAu a).begun.chan 0).alphas 5 = none ∧
      (withAu a).begun.isCanvas 0 = false ∧
      (∀ b ∈ ((withAu a).begun.chan 0).aus, ((withAu a).begun.chan 0).mine b = true → b.slot < 5 → b.modelled = true) ∧ canvas.begun.isCanvas 0 = true :=
  ⟨_, rfl, by decide +kernel⟩

theorem wit_allowances :
    1 ≤ 2 ∧ 100 + 0 + 2 * 50 ≤ 300 ∧ [0, 2].head? = some 0 ∧ [0, 2].getLast? = some 2 ∧ [0, 2].Pairwise (· ≤ ·) ∧
    2 * 10 + ([0, 2].length - 1) * rowOverhead ≤ 100 := by decide

theorem wit_composition :
    ∃ (a : Au) (s : State), a = au5 [row0 .waiting, row0 .waiting] ∧ s = { withAu a with flows :=
        [(0, { FlowRt.empty with frames := [(5, ⟨.present, none, [], [(0, .closed true []), (1, .closed true [])]⟩)] })] } ∧
      s.live = true ∧ (s.begun.chan 0).au? 5 = some a ∧ 0 < a.cfg.rows ∧ Tab.find? a.bands 0 = none ∧
      (s.begun.atSlot a.cfg.rate 5).composable 0 a 0 = true :=
  ⟨_, _, rfl, rfl, by decide +kernel⟩

theorem wit_replacement :
    (∃ a : Au, a = au5 [] ∧ (withAu a).live = true ∧ ((withAu a).begun.chan 0).au? 5 = some a ∧ a.repl = none ∧ a.replaced = false ∧
      a.complete = none ∧ (withAu a).begun.isCanvas 0 = false ∧
      (((withAu a).begun.chan 0).earlier a).all (fun b => b.complete.isSome) = true) ∧
    (∃ a : Au, a = { au5 [] with repl := some ([1], 0) } ∧ ((withAu a).begun.chan 0).au? 5 = some a ∧ a.repl = some ([1], 0) ∧
      a.replaced = false ∧ a.complete = none ∧ (((withAu a).begun.chan 0).earlier a).all (fun b => b.complete.isSome) = true) ∧
    ((canvas.begun.isCanvas 0 = true ∧ canvas.begun.isMaster = true) ∧ canvasMember.begun.isCanvas 0 = true ∧
      canvasMember.begun.isMaster = false ∧ canvasMember.live = true ∧ canvas.live = true) ∧
    (∃ a : Au, a = { au5 [] with repl := some ([], 0), settled := true } ∧ ((withAu a).begun.chan 0).au? 5 = some a ∧
      a.cfg.canvas = false ∧ (withAu a).begun.assemblyReady ((withAu a).begun.atSlot a.cfg.rate 5) 0 a = true) ∧
    (∃ a : Au, a = { au5 [] with complete := some 9 } ∧ ((withAu a).begun.chan 0).au? 5 = some a ∧
      a.complete.isSome = true ∧ a.packetised = false) :=
  ⟨⟨_, rfl, by decide +kernel⟩, ⟨_, rfl, by decide +kernel⟩, by decide +kernel, ⟨_, rfl, by decide +kernel⟩, ⟨_, rfl, by decide +kernel⟩⟩

/-! ### Orchard and egress -/

/-- Producer 3 holds records. -/
def producer (q : Producer) : State := { up with orch := { up.orch with prods := [(3, q)] } }

theorem wit_orchard :
    (firstTask [(7, ⟨3, 0, 5, 0, 100, 1, .ready, none, 0, false, none⟩)] =
      some (7, ⟨3, 0, 5, 0, 100, 1, .ready, none, 0, false, none⟩)) ∧
    (Tab.find? (producer ⟨[], [⟨0, none, []⟩]⟩).orch.prods 3 = some ⟨[], [⟨0, none, []⟩]⟩) ∧
    (Tab.find? (producer ⟨[⟨0, none, []⟩, ⟨0, none, []⟩], [⟨0, none, []⟩]⟩).orch.prods 3 =
      some ⟨[⟨0, none, []⟩, ⟨0, none, []⟩], ⟨0, none, []⟩ :: []⟩ ∧
      2 ≤ (⟨[⟨0, none, []⟩, ⟨0, none, []⟩], ⟨0, none, []⟩ :: []⟩ : Producer).slots.length) ∧
    (Tab.find? (producer ⟨[], []⟩).orch.prods 3 = some ⟨[], []⟩) ∧ (∀ p ∈ (producer ⟨[], []⟩).orch.prods, p.2.slots = []) ∧
    ((producer ⟨[⟨0, some 4, []⟩], []⟩).orch.prods = [(3, ⟨⟨0, some 4, []⟩ :: [], []⟩)] ∧
      0 ≤ (producer ⟨[⟨0, some 4, []⟩], []⟩).begun.fabric ∧
      Tab.sortedFrom 0 (producer ⟨[⟨0, some 4, []⟩], []⟩).orch.tasks = true) ∧ up.live = true := by
  decide +kernel

/-- Two delayed creations: the task is then in the table. -/
theorem wit_delayedCreation :
    ((((up.begun.createTask 3 0 5 0).count 0x2B00 7).raise ⟨0x0702, 0, 5, 3, 0, 0⟩).taskOf 3 0 5 0).isSome = true := by
  decide +kernel

/-- A packet of stream 2 stands in the wheel of port 0, for an address in the unit's own network or outside it. -/
def destTo (ip : Nat) : Dest := ⟨9, false, 2, 0, ip, 0, 0, 0, 0, 0⟩
def item (ip : Nat) (bad : Bool) : WheelItem := ⟨destTo ip, 0, ⟨0, 0, 64⟩, 0, 5, 0, 1000, true, bad, zeros 12⟩
def sends (x : WheelItem) (upn : Int) : State :=
  { set [(0x2105, 1, upn)] (withAu { au5 [] with complete := some 9 }) with egress := ⟨[], [x], [], [], [], []⟩ }

/-- What the port's next frame is, and the state at its start, the packet taken from the wheel. -/
def pacedNext (x : WheelItem) (upn : Int) : Prop :=
  (sends x upn).live = true ∧ firstCandidate ((sends x upn).begun.candidates 0) = some ⟨1000, 0, 1000, 0, 0, .paced x⟩
def pacedState (x : WheelItem) (upn : Int) : State :=
  let u := (sends x upn).begun.until 1000
  { u with egress := { u.egress with wheel := u.egress.wheel.erase x } }

/-- The AU of a packet may leave, and so may the packet. -/
def mayGo (v : State) (x : WheelItem) : Prop :=
  (v.chan x.chan).au? x.slot = some { au5 [] with complete := some 9 } ∧ v.auMay { au5 [] with complete := some 9 } 1000 = true ∧
  x.bad = false ∧ v.holed false x.dest.d = false ∧ v.selected x.dest = true

theorem wit_departures :
    (pacedNext (item 0xEF000001 false) 2 ∧ mayGo (pacedState (item 0xEF000001 false) 2) (item 0xEF000001 false) ∧
      (pacedState (item 0xEF000001 false) 2).portUp 0 = true ∧
      (pacedState (item 0xEF000001 false) 2).destMac (destTo 0xEF000001) = some 0x01005E000001) ∧
    (pacedNext (item 0x0A000001 false) 2 ∧ mayGo (pacedState (item 0x0A000001 false) 2) (item 0x0A000001 false) ∧
      (pacedState (item 0x0A000001 false) 2).portUp 0 = true ∧
      (pacedState (item 0x0A000001 false) 2).destMac (destTo 0x0A000001) = none) ∧
    (pacedNext (item 0xEF000001 false) 1 ∧ mayGo (pacedState (item 0xEF000001 false) 1) (item 0xEF000001 false) ∧
      (pacedState (item 0xEF000001 false) 1).portUp 0 = false) ∧
    (pacedNext (item 0xEF000001 true) 2 ∧ (item 0xEF000001 true).bad = true) ∧ up.begun.candidates 0 = [] := by
  unfold pacedNext mayGo
  decide +kernel

/-- Audio stream 2 of port 0 sends its packets of serial audio. -/
def timed : State :=
  { (set [(0x2105, 1, 2), (0x2502, 1, 1), (0x2502, 2, 2)] up).putBytes 0x6202 1 (32 * 9)
      (beBytes 1 1 ++ beBytes 1 2 ++ zeros 2 ++ beBytes 4 0xEF000001 ++ zeros 24) with
    egress := ⟨[(2, ⟨[⟨2, 0, 0, none, true⟩], [], [], none, none⟩)], [], [], [], [], []⟩ }

/-- Another frame waits in queue 7 of port 0, an ARP answer of 28 bytes. -/
def queued (upn : Int) : State := { set [(0x2105, 1, upn)] up with queues := [⟨0, 7, 1000, 106, .arp 0 9 9⟩] }

/-- Raster stream 2 of port 0 sends the packets of Atlas frame 0, whose first line is composed. -/
def raster : State :=
  { set [(0x2A00, 1, 1), (0x2502, 2, 3)] timed with
    egress := ⟨[(2, ⟨[⟨3, 0, 0, none, true⟩], [], [], none, none⟩)], [], [], [], [], []⟩
    atlas := { AtlasSt.reset with inForce := [(key 0x2A00 1, 1)], next := some 5, frame := 4, lines := [(0, [])] } }

/-- The state at the start of the first packet of a timed stream, its number taken. -/
def timedState (s : State) (t : Tick) : State :=
  let u := s.begun.until t
  { u with egress := { u.egress with timed := Tab.put u.egress.timed (timedKey (destTo 0xEF000001)) 1 } }

theorem wit_timedDepartures :
    (timed.live = true ∧
      firstCandidate (timed.begun.candidates 0) = some ⟨2186630485333, 6, 2186630485333, 0, 0, .timed ⟨destTo 0xEF000001, 0, 0, 0, 2186630485333⟩⟩ ∧
      (timedState timed 2186630485333).holed false 9 = false ∧ (timedState timed 2186630485333).selected (destTo 0xEF000001) = true ∧
      (timedState timed 2186630485333).portUp 0 = true ∧
      (timedState timed 2186630485333).destMac (destTo 0xEF000001) = some 0x01005E000001 ∧
      ((timedState timed 2186630485333).atInstant 0).str 2 2 = 2 ∧ (timedState timed 2186630485333).timedMay 2 (usT 0) 2186630485333 = true) ∧
    (raster.live = true ∧
      firstCandidate (raster.begun.candidates 0) = some ⟨174762666666, 6, 174762666666, 0, 0, .timed ⟨destTo 0xEF000001, 0, 0, 0, 174762666666⟩⟩ ∧
      (timedState raster 174762666666).holed false 9 = false ∧ (timedState raster 174762666666).selected (destTo 0xEF000001) = true ∧
      (timedState raster 174762666666).portUp 0 = true ∧
      (timedState raster 174762666666).destMac (destTo 0xEF000001) = some 0x01005E000001 ∧
      ((timedState raster 174762666666).atInstant 0).str 2 2 = 3 ∧ (timedState raster 174762666666).timedMay 3 174762666666 174762666666 = true ∧
      ((timedState raster 174762666666).rasterPacket ((timedState raster 174762666666).atInstant 0) 2 0).2 = false) := by
  decide +kernel

theorem wit_queuedDepartures :
    ((queued 2).live = true ∧
      firstCandidate ((queued 2).begun.candidates 0) = some ⟨1000, 7, 1000, 0x10000, 0, .frame ⟨0, 7, 1000, 106, .arp 0 9 9⟩⟩ ∧
      ((queued 2).begun.until 1000).portUp 0 = true) ∧
    (firstCandidate ((queued 1).begun.candidates 0) = some ⟨1000, 7, 1000, 0x10000, 0, .frame ⟨0, 7, 1000, 106, .arp 0 9 9⟩⟩ ∧
      ((queued 1).begun.until 1000).portUp 0 = false) ∧
    ((set [(0x4410, 5, 2)] up).putBytes 0x6204 1 0
      [0xBF, 0, 0, 0, 0x00, 0x00, 0x04, 0x00, 0xFF, 0, 0, 0, 0x00, 0x00, 0x04, 0x00]).gateStart 0 6 100 8 5 = some 67108864 := by
  decide +kernel

/-! ### The hitless pair -/

/-- The active and the standby unit with channel 0 running, in sync, and what they hold of it. -/
def actives (q : PairChan) : State :=
  { set [(basic 0 0xB, 1, 1)] active with chans := [(0, chan0)], pair := { up.pair with chans := [(0, q)] } }
def standbys (st : Int) (q : PairChan) (a : List Au) : State :=
  { set [(basic 0 0xB, 1, 1), (0x2200, 9, st)] standby with
    chans := [(0, { chan0 with aus := a })], pair := { up.pair with chans := [(0, q)] } }

/-- A record of a type, for channel 0 and slot 5. -/
def record (t : Nat) : List Byte := mirrorRec t 0 0 5 (zeros 24)

theorem wit_records :
    (up.begun.takeMessage 2 0 (record 1)).paired = false ∧ (active.begun.takeMessage 2 0 (record 1)).paired = true ∧
    (∀ t, t < 8 → recOk t (record (t + 1)) = false) ∧ (∀ t, t < 8 → recOk t (record t) = true) ∧
    ((actives pc0).chan ((actives pc0).recChan (record 3)).1).running = true ∧ (actives pc0).isActive = true ∧
    (actives pc0).isStandby = false ∧ (standbys 3 pc0 []).isStandby = true := by
  decide +kernel

/-- What a record of a type meets: the message taken from its link and counted. -/
def met (s : State) (t : Nat) : State := ((s.begun.takeMessage 2 0 (record t)).trailer (record t)).count 0x4200 2

theorem wit_standbyRecords :
    ((actives pc0).live = true ∧ ((actives pc0).begun.takeMessage 2 0 (record 4)).paired = true ∧
      ((met (actives pc0) 4).chan 0).running = true ∧ (met (actives pc0) 4).isStandby = false ∧ (met (actives pc0) 5).isActive = true) ∧
    (∃ a : Au, a = au5 [] ∧ (standbys 3 pc0 [a]).live = true ∧ ((standbys 3 pc0 [a]).begun.takeMessage 2 0 (record 4)).paired = true ∧
      ((met (standbys 3 pc0 [a]) 4).chan 0).running = true ∧ (met (standbys 3 pc0 [a]) 4).isStandby = true ∧
      ((met (standbys 3 pc0 [a]) 4).chan 0).au? 5 = some a ∧ (met (standbys 3 pc0 [a]) 4).recChan (record 4) = (0, 5) ∧
      (met (standbys 3 pc0 [a]) 4).now ≤ a.gateAt) ∧
    (∃ (a : Au) (s : State), a = au5 [] ∧ s = { standbys 3 pc0 [a] with clk := { up.clk with merid := subTick * (a.gateAt + 1) } } ∧
      ((met s 4).chan 0).au? 5 = some a ∧ (met s 4).isStandby = true ∧ (met s 4).recChan (record 4) = (0, 5) ∧
      a.gateAt < (met s 4).now) ∧
    ((met (standbys 3 pc0 []) 6).isStandby = true ∧ (met (standbys 3 pc0 []) 7).isStandby = true) :=
  ⟨by decide +kernel, ⟨_, rfl, by decide +kernel⟩, ⟨_, _, rfl, rfl, by decide +kernel⟩, by decide +kernel⟩

/-- An AU under the standby's gate. -/
def gatedAu : Au := { au5 [] with gated := true, complete := some 9 }

/-- The records of slot 5 that a unit holds. -/
def holds (x y : Option (List Byte)) : PairChan := { pc0 with recs := [(5, ⟨none, x, none, y, none, 0⟩)] }

theorem wit_gateReleases :
    (standbys 3 (holds none none) [gatedAu]).live = true ∧
    ((standbys 3 (holds none none) [gatedAu]).begun.chan 0).au? 5 = some gatedAu ∧
    (standbys 3 (holds none none) [gatedAu]).begun.paired = true ∧ gatedAu.gated = true ∧ gatedAu.gate = none ∧
    gatedAu.complete.isSome = true ∧
    (∃ u : State, u = (standbys 3 (holds none none) [gatedAu]).begun.until gatedAu.gateAt ∧ u.chanSync 0 = true ∧
      (u.pc 0).syncFrom ≤ 5 ∧ ((u.pc 0).rec_ 5).hisAu = none ∧ u.pairState ≠ 5) ∧
    (∃ u : State, u = (standbys 5 (holds none none) [gatedAu]).begun.until gatedAu.gateAt ∧ u.chanSync 0 = true ∧
      ((u.pc 0).rec_ 5).hisAu = none ∧ u.pairState = 5) ∧
    (∃ u : State, u = (standbys 3 (holds (some (record 4)) (some (record 4))) [gatedAu]).begun.until gatedAu.gateAt ∧
      ((u.pc 0).rec_ 5).ownAu = some (record 4) ∧ ((u.pc 0).rec_ 5).hisAu = some (record 4) ∧
      auCause (record 4) (record 4) = none ∧ auCause (record 4) (mirrorRec 4 0 0 5 (beBytes 24 1)) ≠ none) ∧
    (∃ u : State, u = (standbys 3 { holds none none with syncFrom := 6 } [gatedAu]).begun.until gatedAu.gateAt ∧
      5 < (u.pc 0).syncFrom) :=
  ⟨by decide +kernel, by decide +kernel, by decide +kernel, rfl, rfl, rfl, ⟨_, rfl, by decide +kernel⟩,
    ⟨_, rfl, by decide +kernel⟩, ⟨_, rfl, by decide +kernel⟩, ⟨_, rfl, by decide +kernel⟩⟩

/-- The pair's own state changed. -/
def pairing (f : PairSt → PairSt) (s : State) : State := { s with pair := f s.pair }

/-- A resync of AU 5 stands when it comes to its gate. -/
theorem wit_resyncAtTheGate :
    ∃ v : State, v = (standbys 3 { holds none none with resyncAt := some 5 } [gatedAu]).begun.until gatedAu.gateAt ∧
      (v.pc 0).resyncAt = some 5 ∧ (v.resyncFails 0).chanSync 0 = true ∧
      (set [(basic 0 0xB, 1, 2)] (standbys 3 (holds none none) [gatedAu])).begun.chanSync 0 = false :=
  ⟨_, rfl, by decide +kernel⟩

/-- A paired master and a paired member of a cascade. -/
def follower : State := set [(0x2200, 1, 1), (0x2200, 3, 1)] member

theorem wit_followers :
    (follower.live = true ∧ follower.begun.paired = true ∧ follower.follower = true ∧ follower.begun.pairState ≠ 5) ∧
    (pairing ({ · with listen := some 9 }) follower).pair.listen = some 9 ∧
    (State.onPair ((pairing ({ · with listen := some 9 }) follower).begun.until 9) fun p => { p with listen := none }).follower = true ∧
    (standby.follower = false ∧ standby.live = true ∧ standby.begun.paired = true ∧ standby.pair.listen = none ∧
      standby.begun.pairState ≠ 5) ∧
    ((set [(0x2200, 8, 0x0A000002)] active).heartbeatPort = none ∧
      (set [(0x2200, 8, 0x0A000002), (0x2105, 1, 2)] active).heartbeatPort = some 0) := by decide +kernel

theorem wit_roles :
    (active.live = true ∧ active.begun.paired = true ∧ active.pair.listen = none ∧ active.begun.pairState ≠ 5 ∧
      (active.mirror active.heartbeatRec).nat 0x2200 8 = 0 ∧
      ((set [(0x2200, 8, 1)] active).mirror active.heartbeatRec).nat 0x2200 8 ≠ 0) ∧
    ((pairing ({ · with listen := some 9 }) standby).pair.listen = some 9 ∧
      (set [(0x2200, 2, 1)] standby).nat 0x2200 2 = 1 ∧ (set [(0x2200, 2, 0)] standby).nat 0x2200 2 ≠ 1) ∧
    (standby.isStandby = true ∧ active.isStandby = false ∧ standby.begun.pairState ≠ 4) ∧
    ((pairing ({ · with lastNet := some (usT 140) }) active).pair.lastNet = some (usT 140) ∧
      ((pairing ({ · with lastNet := some (usT 140) }) active).begun.until (usT 150 +
        max (pairing ({ · with lastNet := some (usT 140) }) active).pair.since 0)).now ≤ usT 150 + usT 140) ∧
    (pairing ({ · with promoting := some 7 }) active).pair.promoting = some 7 ∧
    (up.begun.paired = false ∧ up.pair.listen = none ∧ up.pair.promoting = none) := by
  decide +kernel

/-! ### The cascade -/

/-- A cascade message from a position for slot 5. -/
def cmsg (t from_ : Nat) (body : List Byte) : List Byte := cascMsg t 0 from_ 5 body

/-- The cascade's own state changed. -/
def casc (f : CascSt → CascSt) (s : State) : State := { s with casc := f s.casc }

theorem wit_cascadeMembers :
    (master.live = true ∧ master.begun.inCascade = true ∧ master.isMaster = true ∧ member.isMaster = false ∧
      member.begun.inCascade = true) ∧
    ((master.begun.takeCasc 0x10 (cmsg 0x10 1 (zeros 8))).2 = true ∧ msgFrom (cmsg 0x10 1 (zeros 8)) = 1 ∧ master.pos = 0 ∧
      1 < master.members ∧ master.nat 0x2300 8 ≠ 1 ∧ (master.begun.takeCasc 0x10 (cmsg 0x10 1 (zeros 8))).1.Inv) ∧
    ((member.begun.takeCasc 0x10 (cmsg 0x10 0 (zeros 8))).2 = true ∧ member.pos ≠ 0 ∧ msgFrom (cmsg 0x10 0 (zeros 8)) = 0 ∧
      0 < member.members) ∧
    ((casc ({ · with heard := [(1, 9)] }) master).begun.heardAt 1 = 9 ∧ master.begun.heardAt 1 = 0 ∧ master.begun.isMaster = true ∧
      1 < master.begun.members ∧ master.casc.lost.testBit 1 = false) ∧
    (member.begun.isMaster = false ∧ master.begun.members ≤ 2 ∧ master.commit.relay = none ∧ member.commit.relay = none) ∧
    (member.casc.masterLost = false ∧ (casc ({ · with heard := [(0, 9)] }) member).begun.heardAt 0 = 9 ∧
      (casc ({ · with masterLost := true }) member).casc.masterLost = true) ∧
    ((member.begun.takeCasc 0x1A (cmsg 0x1A 0 (zeros 8))).2 = true ∧ field (cmsg 0x1A 0 (zeros 8)) 9 1 ≠ 3) := by
  unfold State.Inv
  decide +kernel

/-- A canvas of two regions side by side, of which the member owns the second; channel 0 runs and has AU 5 open. -/
def regions (s : State) : State :=
  { set [(0x2310, 1, 2), (0x2310, 2, 1), (0x2311, 1, 0), (0x2311, 2, 1)] s with
    chans := [(0, { chan0 with aus := [{ au5 [] with cfg := { cfg0 with canvas := true } }] })] }

theorem wit_canvasRescue :
    ∃ a : Au, a = { au5 [] with cfg := { cfg0 with canvas := true } } ∧ (regions canvas).live = true ∧
      (regions canvas).begun.isCanvas 0 = true ∧ (regions canvas).begun.isMaster = true ∧
      ((regions canvas).begun.chan 0).au? 5 = some a ∧ a.complete = none ∧ a.replaced = false ∧
      (((regions canvas).begun.chan 0).earlier a).all (fun b => b.complete.isSome) = true :=
  ⟨_, rfl, by decide +kernel⟩

theorem wit_canvasRows :
    (canvas.begun.takeCasc 0x11 (cmsg 0x11 1 (zeros 60))).2 = true ∧ canvas.isMaster = true ∧
    ((regions canvas).begun.isMaster = true ∧ (regions canvas).begun.canvasOn = true ∧
      ((regions canvas).begun.chan (regions canvas).begun.canvasChan).inSlot 3 = true ∧
      ((regions canvas).begun.chan (regions canvas).begun.canvasChan).upcoming = 3 ∧
      Tab.find? (regions canvas).casc.closed 3 = none ∧
      (regions canvas).begun.absentReports
        (basisSlot (((regions canvas).begun.forSlot (regions canvas).begun.canvasChan 3).ch (regions canvas).begun.canvasChan 1 1) 3) ≠ 0) ∧
    (((regions canvasMember).begun.takeCasc 0x12 (cmsg 0x12 0 (zeros 60))).2 = true ∧
      (regions canvasMember).isMaster = false ∧ (regions canvasMember).canvasOn = true ∧
      (regions canvasMember).msgSlot (cmsg 0x12 0 (zeros 60)) = 5 ∧
      ((regions canvasMember).chan 0).inSlot 5 = true ∧ ((regions canvasMember).chan 0).upcoming ≤ 5 ∧
      (0 : Nat).testBit (regions canvasMember).pos = false ∧ (2 : Nat).testBit (regions canvasMember).pos = true) ∧
    (((regions canvas).begun.takeCasc 0x13 (cmsg 0x13 1 (zeros 4 ++ beBytes 1 1 ++ zeros 20))).2 = true ∧
      (regions canvas).ownerOf 1 = 1 ∧ 1 < (regions canvas).gratRegions ∧
      field (cmsg 0x13 1 (zeros 4 ++ beBytes 1 1 ++ zeros 20)) 12 1 = 1) ∧
    (((regions canvasMember).begun.takeCasc 0x14 (cmsg 0x14 0 (zeros 4 ++ beBytes 1 1 ++ zeros 20))).2 = true ∧
      (regions canvasMember).ownerOf 1 = (regions canvasMember).pos) ∧
    (canvas.begun.takeCasc 0x15 (cmsg 0x15 1 (zeros 60))).2 = true ∧
    ((regions canvas).region 5 1).completed = false ∧ 3 ≠ ((regions canvas).region 5 1).rows.length := by
  decide +kernel

/-- A band segment with a check value that fits, and one that does not. -/
def segment : List Byte := cmsg 0x16 1 (zeros 4 ++ beBytes 1 1 ++ zeros 11 ++ beBytes 4 (foldedCrc 4 0 1 0 5 (zeros 8)) ++ zeros 8)
def wrongSegment : List Byte :=
  cmsg 0x16 1 (zeros 4 ++ beBytes 1 1 ++ zeros 11 ++ beBytes 4 (foldedCrc 4 0 1 0 5 (zeros 8) + 1) ++ zeros 8)

/-- The master of that canvas holds the picture of slot 5 in buffer 0. -/
def buffered (f : CascSt → CascSt) : State :=
  let r := { chan0 with bufs := [{ PoolBuf.empty with slot := 5 }], marks := [newEntry 1 5 false (some 0) 0] }
  { casc f (regions canvas) with chans := [(0, { r with aus := ((regions canvas).chan 0).aus })] }

theorem wit_bandsExchanged :
    ((regions canvas).begun.takeCasc 0x16 segment).2 = true ∧ ((regions canvas).begun.takeCasc 0x16 wrongSegment).2 = true ∧
    (regions canvas).canvasOn = true ∧ (regions canvas).msgSlot segment = 5 ∧ field segment 12 1 = 1 ∧
    field segment 14 2 = 0 ∧ (regions canvas).hasSegment ⟨5, 1, 0⟩ = false ∧
    (regions canvas).casc.failed.contains ⟨5, 1, 0⟩ = false ∧
    field segment 24 4 = foldedCrc 4 0 1 0 5 (slice segment 28 (segment.length - 32)) ∧
    field wrongSegment 24 4 ≠ foldedCrc 4 0 1 0 5 (slice wrongSegment 28 (wrongSegment.length - 32)) ∧
    (regions canvas).casc.retried.contains ⟨5, 1, 0⟩ = false ∧
    (casc ({ · with lost := 2 }) (regions canvas)).casc.lost.testBit ((regions canvas).ownerOf 1) = true ∧
    (casc ({ · with failed := [⟨5, 1, 0⟩] }) (regions canvas)).casc.failed.contains ⟨5, 1, 0⟩ = true ∧
    ((buffered ({ · with retried := [⟨5, 1, 0⟩] })).casc.retried.contains ⟨5, 1, 0⟩ = true ∧
      ((buffered ({ · with retried := [⟨5, 1, 0⟩] })).chan 0).bufOf 5 = some 0) := by
  decide +kernel

theorem wit_bandsClose :
    ((buffered ({ · with exported := [⟨5, 0, 0⟩] })).begun.takeCasc 0x17 (cmsg 0x17 1 (zeros 24))).2 = true ∧
    (buffered ({ · with exported := [⟨5, 0, 0⟩] })).ownerOf 0 = (buffered ({ · with exported := [⟨5, 0, 0⟩] })).pos ∧
    (buffered ({ · with exported := [⟨5, 0, 0⟩] })).casc.exported.contains ⟨5, 0, 0⟩ = true ∧
    (∃ a : Au, a = { au5 [] with cfg := { cfg0 with canvas := true } } ∧ ((regions canvas).begun.chan 0).au? 5 = some a ∧
      a.replaced = false ∧ a.complete = none ∧ 0 < a.cfg.rows ∧ Tab.find? (regions canvas).casc.presence (rowKey 5 0) = none ∧
      (regions canvas).begun.isMaster = true ∧ (regions canvas).begun.canvasOn = true) :=
  ⟨by decide +kernel, by decide +kernel, by decide +kernel, ⟨_, rfl, by decide +kernel⟩⟩

/-- A relayed commit without writes, ident 7, for the instant 2 s; and one with a write of a read-only object. -/
def relayed : List Byte := cmsg 0x18 0 (beBytes 4 7 ++ beBytes 6 2 ++ zeros 14)
def refusedRelay : List Byte :=
  cmsg 0x18 0 (beBytes 4 7 ++ beBytes 6 2 ++ zeros 8 ++ beBytes 2 1 ++ zeros 4 ++ beBytes 2 0x1000 ++ zeros 10)

/-- The master waits for the votes of some positions on commit 7. -/
def voting (w : List Nat) : State := { master with commit := { master.commit with relay := some ⟨.sdo, 7, w⟩ } }

/-- A vote of position 1, that accepts (0) or rejects (1). -/
def vote (b : Nat) : List Byte := cmsg 0x19 1 (beBytes 4 7 ++ beBytes 1 b ++ zeros 7)

theorem wit_relays :
    ((member.begun.takeCasc 0x18 relayed).2 = true ∧ member.isMaster = false ∧ msgFrom relayed = 0 ∧
      readRecord (slice relayed 8 (relayed.length - 12)) = some (7, secT 2, 0, []) ∧
      firstCode [member.begun.recordCode [], member.begun.judgeCommit [] (secT 2)] = 0) ∧
    (member.begun.takeCasc 0x18 refusedRelay).2 = true ∧
    readRecord (slice refusedRelay 8 (refusedRelay.length - 12)) = some (7, secT 2, 0, [⟨⟨0x1000, 0⟩, none, []⟩]) ∧
    firstCode [member.begun.recordCode [⟨⟨0x1000, 0⟩, none, []⟩],
      member.begun.judgeCommit [⟨⟨0x1000, 0⟩, none, []⟩] (secT 2)] ≠ 0 := by
  refine ⟨⟨by decide +kernel, by decide +kernel, by decide +kernel, by decide +kernel, ?_⟩, by decide +kernel, by decide +kernel, ?_⟩
  · have hr : member.begun.recordCode [] = 0 := by decide +kernel
    have hj : member.begun.judgeCommit [] (secT 2) = 0 :=
      judgeCommit_of_noSlots (by decide +kernel) (by decide +kernel) (by decide +kernel)
    rw [hr, hj]
    rfl
  · have hr : member.begun.recordCode [⟨⟨0x1000, 0⟩, none, []⟩] ≠ 0 := by decide +kernel
    rw [firstCode, if_neg hr]
    exact hr

theorem wit_votes :
    ((voting [1]).live = true ∧ ((voting [1]).begun.takeCasc 0x19 (vote 1)).2 = true ∧ (voting [1]).commit.relay = some ⟨.sdo, 7, [1]⟩ ∧
      field (vote 1) 8 4 = 7 ∧ [1].contains (msgFrom (vote 1)) = true ∧ field (vote 1) 12 1 % 2 = 1) ∧
    (((voting [1]).begun.takeCasc 0x19 (vote 0)).2 = true ∧ field (vote 0) 12 1 % 2 = 0 ∧
      [1, 2].filter (· != msgFrom (vote 0)) ≠ [] ∧ [1].filter (· != msgFrom (vote 0)) = []) ∧
    master.commit.relay = none := by
  decide +kernel

/-! ### Device links, pre-analysis, Orchard's counters, domains -/

/-- Link 0 has lanes 0 and 1 and stands in a state. -/
def linkAt (st : Int) (f : LinkRt → LinkRt) : State :=
  { set [(0x2810, 1, st)] up with links := [(0, f ⟨[0, 1], 0, 0, false, false, [], []⟩)] }

/-- What the two lanes show: logical lanes in order, a partner of the expected kind, a state, a run. -/
def lanesShow (state run : Nat) : List TrainingLane :=
  [⟨0, false, 0, partnerKind 0, 2, state, 0, run⟩, ⟨1, false, 1, partnerKind 0, 2, state, 0, run⟩]

theorem wit_linksComeUp :
    ((linkAt 1 id).live = true ∧ (linkAt 1 id).begun.lk 0 1 = 1 ∧ (∀ l ∈ ((linkAt 1 id).begun.link 0).lanes, l ∈ [0, 1])) ∧
    ((linkAt 2 id).begun.lk 0 1 = 2 ∧ ((linkAt 2 id).begun.link 0).adapted = false ∧ (linkAt 2 id).begun.lk 0 1 ≠ 1 ∧
      ((linkAt 2 ({ · with adapted := true })).begun.link 0).adapted = true) ∧
    (allSets ((linkAt 2 id).begun.link 0).lanes (lanesShow 2 8) = some (lanesShow 2 8) ∧ (∀ t ∈ lanesShow 2 8, 8 ≤ t.run)) ∧
    ((linkAt 3 id).begun.lk 0 1 = 3 ∧ (∀ t ∈ lanesShow 3 16, t.inverted = false ∧ 16 ≤ t.run) ∧
      trainingOk 0 (lanesShow 3 16).length (lanesShow 3 16) = true) ∧
    ((linkAt 5 id).begun.lk 0 1 = 5 ∧ (∀ t ∈ lanesShow 5 8, t.state = 5 ∧ 8 ≤ t.run)) ∧ (linkAt 6 id).begun.lk 0 1 = 6 ∧
    ((linkAt 4 id).begun.lk 0 1 = 4 ∧ (stateLimit 4).isSome = true ∧ stateLimit ((linkAt 6 id).begun.lk 0 1) = none) := by
  decide +kernel

/-- A link frame: class and flags, rank and index, four bytes of payload, its CRC. -/
def frameOf (b0 b1 : Nat) : LinkFrameIn :=
  let h := beBytes 1 b0 ++ beBytes 1 b1 ++ beBytes 2 3 ++ zeros 4
  ⟨0, false, true, h ++ beBytes 2 (crc16 h)⟩

theorem wit_linksCarry :
    ((linkAt 6 id).begun.linkUp 0 = true ∧ (linkAt 5 id).begun.linkUp 0 = false ∧
      (∀ o ∈ ([9, 10] : List Int), 8 < o) ∧ (∀ o ∈ ([-9, -10] : List Int), o < -8) ∧
      ([9, 10] : List Int).length = ((linkAt 6 id).begun.link 0).lanes.length) ∧
    ((frameOf 0xD 0).bytes.length = 4 + 6 ∧ field (frameOf 0xD 0).bytes 2 2 % 4096 + 1 = 4 ∧
      crc16 ((frameOf 0xD 0).bytes.take 8) = field (frameOf 0xD 0).bytes 8 2 ∧
      (field (frameOf 0xD 0).bytes 0 1).testBit 2 = true ∧ (field (frameOf 0xD 0).bytes 0 1).testBit 3 = true ∧
      Tab.find? ((linkAt 6 id).begun.link 0).open_ 0 = none) ∧
    ((field (frameOf 9 8).bytes 0 1).testBit 2 = false ∧ (field (frameOf 9 8).bytes 0 1).testBit 3 = true ∧
      (field (frameOf 1 8).bytes 0 1).testBit 3 = false ∧ field (frameOf 9 8).bytes 1 1 / 8 = 1 ∧
      Tab.find? ((linkAt 6 ({ · with open_ := [(0, (1, some []))] })).begun.link 0).open_ 0 = some (1, some [])) ∧
    ((set [(0x2702, 4, 4)] up).begun.nat 0x2702 4).testBit 2 = true ∧ (up.begun.nat 0x2702 4).testBit 2 = false ∧
    (linkAt 6 id).Inv := by
  unfold State.Inv
  decide +kernel

/-- A link frame that completes a message, with the messages that wait on the cascade links. -/
theorem wit_passOn :
    ((linkAt 6 id).begun.linkUp (frameOf 0xD 0).link = true ∧ (State.linkFrame (linkAt 6 id).begun (frameOf 0xD 0)).inCascade = false) ∧
    (2 ≤ ({ frameOf 0xD 0 with link := 2 } : LinkFrameIn).link) ∧
    ((State.linkFrame (linkAt 6 id).begun (frameOf 0xD 0)).link 0).inbox.all (fun m => m.1 != 1 || field m.2 0 1 != 0x1B) = true ∧
    ((State.linkFrame (linkAt 6 id).begun (frameOf 0xD 0)).link 1).inbox.all (fun m => m.1 != 1 || field m.2 0 1 != 0x1B) = true := by
  decide +kernel

theorem wit_others :
    ([(1, 2), (1, 2), (0, 0)] : List (Int × Int)) ≠ [] ∧ modeVec [(1, 2), (1, 2), (0, 0)] = (1, 2) ∧
    (up.Inv ∧ Tab.find? up.orch.counters 3 = none) ∧ (up.power.isolated = 0 ∧ up.nat 0x2000 2 = 0) ∧
    ((set [(0x2000, 2, 1)] up).nat 0x2000 2 = 1 ∧ (pow ({ · with isolated := 0x400 }) up).power.isolated.testBit 10 = true) := by
  unfold State.Inv
  decide +kernel

/-! ### Worked examples of the spec -/

/-- R365: both check values over the nine ASCII bytes "123456789". -/
theorem test_checkValues :
    crc32c [0x31, 0x32, 0x33, 0x34, 0x35, 0x36, 0x37, 0x38, 0x39] = 0xE3069283 ∧
    crc16 [0x31, 0x32, 0x33, 0x34, 0x35, 0x36, 0x37, 0x38, 0x39] = 0x29B1 := by decide +kernel

/-- The fold block of the example beside Table 18-2. -/
theorem test_foldBlock :
    foldBlock 1 0 0xFF 0 123456780 = [0x01, 0x00, 0xFF, 0x00, 0x00, 0x00, 0x00, 0x00, 0x07, 0x5B, 0xCD, 0x0C] := by decide +kernel

/-- What Survey feeds of Cap 400,000 (the example of R371). -/
theorem test_surveyFeed :
    (rowOf 0x3006 2).map (fun r => (set [(0x3006, 2, 400000)] up).surveyFeed 0x3006 2 r) =
      some [0x30, 0x06, 0x02, 0x00, 0x00, 0x00, 0x04, 0x80, 0x1A, 0x06, 0x00] := by decide +kernel

/-- The example of R111 and of Table 5-2: K, M, the guard rows and the CPB of the 8K60 channel. -/
theorem test_rateControl :
    auMax 400000 9 = 6666666 ∧ auCeiling 400000 9 512 34 1 = 6657386 ∧ guardRow 60 (guardI 0 7 1) = 17328 ∧
    guardRow 60 (guardP 0 7 1) = 18588 ∧ cpbSize 400000 9 = 6666656 := by decide

/-- The row decision of the row-guard example: row 28 becomes a guard row. -/
theorem test_rowGuard :
    predict 0 286322 0 1210000 42 = 41300 ∧
    rowChoice false 6657386 4985210 (612430 + 497662 + 431508) 6 18588 30 42 0 286322 (0, 1210000) [] =
      ⟨true, 30, 18588⟩ := by decide +kernel

/-- The arrival windows of R106 at the 1/1.001 rates. -/
theorem test_arrivalWindows : [0, 3, 5, 8, 11].map tau = [3753, 3003, 1876, 1501, 750] := by decide

/-- Two rates of the candidate example of R72. -/
theorem test_vectorBits : vectorBits (4, 0) = 6 ∧ vectorBits (148, -16) = 24 := by decide

/-- The buffer sizes of R86, R346 and of the ingress buffers for 7680 × 4320. -/
theorem test_buffers :
    poolBytes 7680 4320 1 = 136314880 ∧ analysisBytes 7680 4320 2 * 4 = 59768832 ∧ frameBytes 7680 4320 = 90177536 := by decide

/-- The red of the example of R150 under preset 1. -/
theorem test_colour :
    (List.range 3).map (fun r => matrixRow ((set [(0x300A, 1, 1)] up).matrix 0) r 250 409 960) = [250, 418, 764] := by decide +kernel

/-- The example of R248: at 59.94 and 50 Hz on a 100 Gb/s port ranks 130 apart meet and ranks 129 apart do not. -/
theorem test_spans : spansMeet 8 7 130 0 128 = true ∧ spansMeet 8 7 129 0 128 = false := by decide

/-- The largest AU of the example of R239, in bytes of datagrams. -/
theorem test_datagrams : (set [(0x3000, 7, 9), (0x3006, 2, 400000)] up).vs 0 = 852768 := by decide +kernel

/-- The example of R403: what sub-index 00 reads, and what an offset that no object has is answered with. -/
theorem test_subZero :
    up.hostRead .sdo ⟨0x2500, 0⟩ 0 none = (up, 0, [0x1E]) ∧ up.hostRead .sdo ⟨0x3948, 0⟩ 0 none = (up, 0, [0x3C]) ∧
    up.hostRead .sdo ⟨0x2F00, 0⟩ 0 none = (up, 0, [0x67]) ∧ (up.hostRead .sdo ⟨0x394D, 1⟩ 0 none).2.1 = 0x06020000 := by
  decide +kernel

/-- Records of the collector example, all of cycle 0 but E3's second. -/
def collected : State :=
  let p (l : List CollRec) : Producer := ⟨l, []⟩
  { up with
    clk := { up.clk with cycles := 3 }
    orch := { up.orch with
      counters := [(77, 2)]
      prods := [(0, p [⟨0, none, []⟩]), (1, p [⟨0, none, []⟩]), (2, p [⟨0, none, []⟩]), (3, p [⟨0, none, []⟩, ⟨1, none, []⟩]),
        (9, p [⟨0, none, [77]⟩]), (10, p [⟨0, none, [77]⟩]), (20, p [⟨0, none, []⟩])] } }

/-- Seven records take two cycles; the record written in cycle 1 waits for the next round; counter 77 reaches zero. -/
theorem test_collector :
    ∃ t, Machine.exec .collectorRound collected = .next t ∧ t.orch.free = 3 ∧ Tab.find? t.orch.counters 77 = none ∧
      Tab.find? t.orch.prods 3 = some ⟨[⟨1, none, []⟩], []⟩ := ⟨_, rfl, by decide +kernel⟩

/-- The frames of the example of R389: what the client sends, and the module's answers on 0x590. -/
def said (r : SdoDown) (s : State) : List Out := match Machine.exec (.sdoDownload r) s with
  | .next t => t.out
  | _ => []

theorem test_sdoFrames :
    said (.expedited ⟨0x2F00, 1⟩ [0x51, 0x00, 0x00, 0x00]) up =
      [.can 0x590 [0x60, 0x00, 0x2F, 0x01, 0x00, 0x00, 0x00, 0x00]] ∧
    said (.initiate ⟨0x2F00, 2⟩ 8) up = [.can 0x590 [0x60, 0x00, 0x2F, 0x02, 0x00, 0x00, 0x00, 0x00]] ∧
    said (.segment true true [0x00]) (sdoRuns { down with obj := ⟨0x2F00, 2⟩, size := 8, data := zeros 7, toggle := true }) =
      [.can 0x590 [0x30, 0x00, 0x00, 0x00, 0x00, 0x00, 0x00, 0x00]] := by decide +kernel

/-! ### Steps -/

/-- On an empty queue one nominal cycle of 8 ns passes; a command that waits is taken first in, first out. -/
theorem test_idle : ∃ t, Machine.step State.reset = .next t ∧ t.clk.merid = 8 * 0x1000000000000 ∧ t.pending = [] :=
  ⟨_, rfl, by decide +kernel⟩

theorem test_firstIn :
    ∃ t, Machine.step { up with pending := [.freezeHoldExpiry, .scrubPass] } = .next t ∧ t.pending = [.scrubPass] :=
  ⟨_, rfl, by decide +kernel⟩

/-- A host write runs from a started unit: the trigger's mode object takes its value. -/
theorem test_write :
    ∃ t, Machine.exec (.objectWrite .sdo (numWrite 0x4B01 3 2 7)) up = .next t ∧ t.nat 0x4B01 3 = 7 :=
  ⟨_, rfl, by decide +kernel⟩

/-- In the band that the spec leaves undefined, a command faults. -/
theorem test_fault :
    Machine.exec .scrubPass (pow ({ · with vin := .undefinedBand }) up) = .fault .undefinedBehaviour := rfl

/-! ### Well-formed operands: what each check refuses -/

theorem test_wf_instances :
    chanOk 64 = false ∧ flowOk 4096 = false ∧ portOk 8 = false ∧ audioOk 8 = false ∧ tioOk 4 = false ∧ laneOk 16 = false ∧
    linkOk 3 = false ∧ kindOk 0 = false ∧ kindOk 7 = false ∧ nodeOk 128 = false ∧ positionOk 8 = false ∧ fits 8 256 = false := by
  decide

theorem test_wf_clients :
    (⟨0x10000, 0⟩ : Obj).wf = false ∧ (⟨0, 0x100⟩ : Obj).wf = false ∧ (Client.usdo 128).wf = false ∧
    (Client.exfer 0x10000).wf = false ∧ (Client.rpdo 4).wf = false ∧
    (⟨⟨0x6200, 1⟩, some 0x100000000, []⟩ : HostWrite).wf = false := by decide

/-- An Exfer header that is well formed. -/
def hdr0 : ExferHdr := ⟨0, 0, 0, true, false, 0, 0, 0, 0, [], []⟩

theorem test_wf_operands :
    { hdr0 with port := 8 }.wf = false ∧ { hdr0 with auth := true }.wf = false ∧ { pkt with pt := 128 }.wf = false ∧
    (⟨8, 0, 0, 0, false, 0, 0, 0⟩ : PtpMsg).wf = false ∧ (⟨0, 256, 0, 0, false, 0, 0, 0⟩ : PtpMsg).wf = false ∧
    (⟨16, false, 0, 0, 0, 0, 0, 0⟩ : TrainingLane).wf = false ∧ (SdoBlock.endDown 0x10000).wf = false ∧
    (SdoDown.expedited ⟨0, 0⟩ (zeros 5)).wf = false ∧ (SdoUp.initiate ⟨0x10000, 0⟩).wf = false ∧
    (UsdoReq.segment false false (zeros 65)).wf = false := by decide +kernel

theorem test_wf_commands :
    (Instr.lineClose 4096 0 0).wf = false ∧ (Instr.rowCoding 64 0 0).wf = false ∧ (Instr.tioEdge 4).wf = false ∧
    (Instr.meridianWrite .sdo (zeros 13)).wf = false ∧ (Instr.memberLost 8).wf = false ∧
    (Instr.descriptorComplete 32 none).wf = false ∧ (Instr.domainPowerFail 24).wf = false ∧
    (Instr.rpdoReceive 4 []).wf = false ∧ (Instr.lanePllLockLoss 4).wf = false ∧ (Instr.watchdogReset 0x100000000).wf = false ∧
    (Instr.scrubPass).wf = true := by decide +kernel

/-- No row of the table has bits, so no word spells a command. -/
theorem test_noWords : decodeTableWord 32 0 = none ∧ Machine.State.withFetchWord up 32 0 = up := by decide +kernel

/-- R368: equal check values raise nothing; unequal ones raise one event with the value expected and the value found. -/
theorem test_checkValue :
    (State.reset.checkValue 1 0 5 7 7).evt.queue = [] ∧
    (State.reset.checkValue 1 0 5 1 2).evt.queue = [⟨0x0706, 0, 5, 1, 1, 2⟩] ∧
    (State.reset.checkValue 1 0 5 1 2).nat 0x2D00 3 = 1 := by
  decide +kernel

end Sys2Proof.Tests
end

/-! The global vector of a frame (R62): the least of its field vectors in R60's order, which is lexicographic. -/

namespace Sys2Proof.Machine

/-- The place of a costed vector in R60's order: its cost, |x| + |y|, y, x. -/
noncomputable def rank (a : ℕ × ℤ × ℤ) : ℕ ×ₗ ℕ ×ₗ ℤ ×ₗ ℤ :=
  toLex (a.1, toLex (a.2.1.natAbs + a.2.2.natAbs, toLex (a.2.2, a.2.1)))

/-- One key of a lexicographic comparison, with what decides where it ties. -/
theorem lexStep_iff {α β : Type} [LinearOrder α] [LT β] {x y : α} {u w : β} {r : Bool} (h : r = true ↔ u < w) :
    (if x ≠ y then decide (x < y) else r) = true ↔ toLex (x, u) < toLex (y, w) := by
  refine Iff.trans ?_ Prod.Lex.toLex_lt_toLex.symm
  refine iteInduction (motive := fun b => b = true ↔ x < y ∨ x = y ∧ u < w) (fun hne => ?_) fun heq => ?_
  · exact decide_eq_true_iff.trans ⟨.inl, fun k => k.elim id fun k => absurd k.1 hne⟩
  · exact h.trans ⟨fun k => .inr ⟨not_not.mp heq, k⟩, fun k => k.elim (fun k => absurd k.ne heq) And.right⟩

theorem vecBefore_iff (a b : ℕ × ℤ × ℤ) : vecBefore a b = true ↔ rank a < rank b :=
  lexStep_iff (lexStep_iff (lexStep_iff decide_eq_true_iff))

/-- The search for the best vector is the library's search for a least element. -/
theorem some_bestVec (cost : ℤ × ℤ → ℕ) (v : ℤ × ℤ) (vs : List (ℤ × ℤ)) :
    ((v :: vs).map fun v => (cost v, v)).argmin rank = some (bestVec cost (v :: vs)) := by
  rw [List.argmin, List.foldl_map]
  exact List.foldl_hom some fun b w => ((apply_ite some _ _ _).trans (if_congr (vecBefore_iff _ b) rfl rfl)).symm

/-- The best vector is one of the list, and its rank is the least. -/
theorem bestVec_least (cost : ℤ × ℤ → ℕ) {vs : List (ℤ × ℤ)} (hvs : vs ≠ []) : (bestVec cost vs).2 ∈ vs ∧
    ∀ v ∈ vs, rank (cost (bestVec cost vs).2, (bestVec cost vs).2) ≤ rank (cost v, v) := by
  obtain ⟨w, ws, rfl⟩ := List.exists_cons_of_ne_nil hvs
  have hbest := some_bestVec cost w ws
  obtain ⟨m, hm, hcost⟩ := List.mem_map.mp (List.argmin_mem hbest)
  rw [← hcost] at hbest ⊢
  exact ⟨hm, fun v hv => List.le_of_mem_argmin (List.mem_map_of_mem (f := fun v => (cost v, v)) hv) hbest⟩

/-- Settles O47: the mode is the best vector when the cost of one counts the blocks without it, so it is the most frequent, and
comes first of those as frequent. -/
theorem theGlobalVectorIsTheMostFrequent : Obligations.TheGlobalVectorIsTheMostFrequent := by
  refine ⟨fun th ts a p => rfl, fun vs hvs => ?_⟩
  obtain ⟨hmem, hleast⟩ := bestVec_least (fun v => vs.length - vs.count v) hvs
  refine ⟨hmem, fun v hv => ⟨?_, fun htie hne => ?_⟩⟩
  · exact (Nat.sub_le_sub_iff_left List.count_le_length).mp (Prod.Lex.monotone_fst _ _ (hleast v hv))
  · have hlt := (hleast v hv).lt_of_ne fun e => hne (congrArg (fun r : ℕ × ℕ × ℤ × ℤ => (r.2.2.2, r.2.2.1)) e).symm
    rcases Prod.Lex.toLex_lt_toLex.mp hlt with hcount | ⟨-, htied⟩
    · exact absurd (congrArg (vs.length - ·) htie) hcount.ne'
    · exact (Prod.Lex.toLex_lt_toLex.mp htied).imp_right (And.imp_right Prod.Lex.toLex_lt_toLex.mp)

end Sys2Proof.Machine

/-! The hard cap of the rate control (R110, R115-R118): a row decision takes no more than M leaves behind the guard reserve, and a
row is coded within what its decision allots. -/

-- The compiled text stands close below 64 MiB, where writing it passes check.sh's memory limit: the proofs here are terms that
-- lean on definitional equality, which keeps them small.

namespace Sys2Proof.Machine

/-- The search for a QP stays between its start and its top. -/
theorem leastQp_bounds (top : Nat) (ok : Nat → Bool) (fuel : Nat) {q : Nat} (h : q ≤ top) :
    q ≤ leastQp top ok fuel q ∧ leastQp top ok fuel q ≤ top := by
  induction fuel generalizing q with
  | zero => exact ⟨h, le_rfl⟩
  | succ fuel ih =>
    exact iteInduction (motive := fun a => q ≤ a ∧ a ≤ top) (fun _h => ⟨h, le_rfl⟩) fun hlt =>
      iteInduction (motive := fun a => q ≤ a ∧ a ≤ top) (fun _h => ⟨le_rfl, h⟩) fun _h =>
        (ih (Nat.lt_of_not_le hlt)).imp_left Nat.le_of_succ_le

/-- Bits of the first n CTUs. -/
noncomputable def bitsTo (f : Nat → Nat) : Nat → Nat := Nat.rec 0 fun n t => t + f n

/-- The bits of some CTUs from n on are added up as the model does it. -/
theorem bitsTo_add (f : Nat → Nat) (n k : Nat) :
    bitsTo f (n + k) = bitsTo f n + (List.range k).foldl (fun t j => t + f (n + j)) 0 := by
  induction k with
  | zero => rfl
  | succ k ih =>
    exact (congrArg (fun t => t + f (n + k)) ih).trans ((Nat.add_assoc ..).trans
      (congrArg _ ((congrArg (List.foldl (fun t j => t + f (n + j)) 0) List.range_succ).trans (List.foldl_concat ..)).symm))

/-- The first k CTUs of a row, coded normally, leave room for a guard CTU at every place after them and for the overhead. -/
def CtusFit (bits : Nat → Nat) (nc b over_ allow k : Nat) : Prop := k ≤ nc ∧ bitsTo bits k + (nc - k) * b + over_ ≤ allow

/-- Normal coding goes on only while the CTUs coded so far fit. -/
theorem codeCtus_fit {bits : Nat → Nat} {nc b over_ allow : Nat} (bins : Nat → Nat) (share fuel : Nat) {x : Nat}
    (binsUsed : Nat) (h : CtusFit bits nc b over_ allow x) :
    CtusFit bits nc b over_ allow (codeCtus bits bins share nc b over_ allow fuel x (bitsTo bits x) binsUsed).1 := by
  induction fuel generalizing x binsUsed with
  | zero => exact h
  | succ fuel ih =>
    exact iteInduction (motive := fun a : Nat × Nat => CtusFit bits nc b over_ allow a.1) (fun _h => h) fun hnc =>
      iteInduction (motive := fun a : Nat × Nat => CtusFit bits nc b over_ allow a.1) (fun _h => h) fun hfits =>
      iteInduction (motive := fun a : Nat × Nat => CtusFit bits nc b over_ allow a.1) (fun _h => h) fun _h =>
      -- The CTU at x fits: the search goes on behind it with its bits.
      ih (x := x + 1) _ ⟨Nat.lt_of_not_le hnc,
        (congrArg (fun n => bitsTo bits x + bits x + n * b + over_) (Nat.sub_right_comm nc x 1)).trans_le
          (Nat.le_of_not_lt hfits)⟩

/-- Bits of CTU x of a row whose first `coded` CTUs are coded normally and whose others are guard CTUs of bound b. -/
noncomputable def rowCtuBits (bits guardB : Nat → Nat) (b coded x : Nat) : Nat := if x < coded then bits x else min b (guardB x)

/-- The CTUs of a row take no more than those coded normally and the bound of each guard CTU. -/
theorem bitsTo_rowCtuBits_le (bits guardB : Nat → Nat) (b : Nat) {coded n : Nat} (h : coded ≤ n) :
    bitsTo (rowCtuBits bits guardB b coded) n ≤ bitsTo bits coded + (n - coded) * b := by
  induction h with
  | refl =>
    -- Before place `coded` the row's bits are those of normal coding.
    have hcoded (k : Nat) (h : k ≤ coded) : bitsTo (rowCtuBits bits guardB b coded) k = bitsTo bits k := by
      induction k with
      | zero => rfl
      | succ k ih => exact congrArg₂ HAdd.hAdd (ih (Nat.le_of_succ_le h)) (if_pos h)
    exact (hcoded coded le_rfl).trans_le (Nat.le_add_right ..)
  | @step n h ih =>
    exact (Nat.add_le_add ih ((if_neg (Nat.not_lt.mpr h)).trans_le (Nat.min_le_left ..))).trans_eq ((Nat.add_assoc ..).trans
      (congrArg _ ((Nat.succ_mul ..).symm.trans (congrArg (fun n => n * b) (Nat.succ_sub h).symm))))

/-- Bytes of a row's substream i, with its flush (R117). -/
noncomputable def substreamBytes (cost : Nat → Nat) (flush : Nat) (colAt : List Nat) (i : Nat) : Nat :=
  cdiv ((List.range (colAt.getD (i + 1) 0 - colAt.getD i 0)).foldl (fun t j => t + cost (colAt.getD i 0 + j)) 0 + min 33 flush) 8

/-- The first k substreams, each beginning at the column where the one before ends, take no more than their columns' CTUs and the
overhead of each (R109, R117). -/
theorem sum_substreams_le (cost : Nat → Nat) (flush : Nat) {colAt : List Nat} (h : colAt.Pairwise (· ≤ ·)) {k : Nat}
    (hk : k < colAt.length) : (((List.range k).map (substreamBytes cost flush colAt)).map fun x => 8 * x + 8).sum ≤
      bitsTo cost (colAt.getD k 0) + k * rowOverhead := by
  refine (congrArg List.sum List.map_map).trans_le ?_
  induction k with
  | zero => exact Nat.zero_le _
  | succ k ih =>
    have hlt := Nat.lt_of_succ_lt hk
    have hrun : colAt.getD k 0 ≤ colAt.getD (k + 1) 0 :=
      (List.getD_eq_getElem _ _ hlt).trans_le ((List.pairwise_iff_getElem.mp h k (k + 1) hlt hk k.lt_succ_self).trans_eq
        (List.getD_eq_getElem _ _ hk).symm)
    -- One substream: rounding to bytes adds at most 7 bits, the flush 33, and the join 8.
    have hone (n : Nat) : 8 * cdiv (n + min 33 flush) 8 + 8 ≤ n + rowOverhead :=
      Nat.add_le_add_right ((Nat.mul_div_le _ 8).trans
        (Nat.add_le_add_right (Nat.add_le_add_left (Nat.min_le_left 33 flush) n) 7)) 8
    exact (List.sum_range_succ _ k).trans_le ((Nat.add_le_add (ih hlt) (hone _)).trans_eq
      ((Nat.add_add_add_comm ..).trans (congrArg₂ HAdd.hAdd ((bitsTo_add cost _ _).symm.trans
        (congrArg (bitsTo cost) (Nat.add_sub_cancel' hrun))) (Nat.succ_mul ..).symm)))

/-- Settles O50: what a row decision allots, and the total of a coded row against it. -/
theorem rowsStayWithinTheirAllowance : Obligations.RowsStayWithinTheirAllowance :=
  ⟨fun prev m settled charged left g qb qhi _ _ _ _ hleft h =>
    -- What lies above the guard rows that are left can go to the first of them: settled + charged + left * g + a, reordered.
    have hroom {a : Nat} (ha : a ≤ m - settled - charged - left * g) : settled + charged + (g + a) + (left - 1) * g ≤ m :=
      ((Nat.add_right_comm ..).trans ((Nat.add_assoc ..).symm.trans (congrArg (fun n => n + a) ((Nat.add_assoc ..).trans
        (congrArg _ ((Nat.succ_mul ..).symm.trans (congrArg (fun n => n * g) (Nat.sub_add_cancel hleft)))))))).trans_le
          (Nat.add_le_of_le_sub' h (ha.trans_eq ((congrArg (fun n => n - left * g) (Nat.sub_sub ..)).trans (Nat.sub_sub ..))))
    let P (ch : RowChoice) := settled + charged + ch.allow + (left - 1) * g ≤ m ∧ g ≤ ch.allow ∧
      (qb ≤ qhi → qb ≤ ch.q ∧ ch.q ≤ qhi) ∧ (prev = true → ch = ⟨true, qb, g⟩)
    -- A choice allots g and a part of what is spare; the guard row is the one with no such part.
    have hP (guard q a) (ha : a ≤ m - settled - charged - left * g) (hq : qb ≤ qhi → qb ≤ q ∧ q ≤ qhi)
        (hg : prev = true → RowChoice.mk guard q (g + a) = ⟨true, qb, g⟩) : P ⟨guard, q, g + a⟩ :=
      ⟨hroom ha, Nat.le_add_right .., hq, hg⟩
    have hguard : P ⟨true, qb, g⟩ := hP true qb 0 (Nat.zero_le _) (fun h => ⟨le_rfl, h⟩) fun _h => rfl
    iteInduction (motive := P) (fun _h => hguard) fun hprev => iteInduction (motive := P) (fun _h => hguard) fun _h =>
      hP _ _ _ (Nat.min_le_left ..) (leastQp_bounds qhi _ 64) hprev.elim,
  fun bits bins guardB share nc b allow flush guard colAt hhead hlast hsorted h =>
    -- A guard row codes no CTU normally; another row starts with none and stops before it would pass its allowance.
    have hstart : CtusFit bits nc b ((colAt.length - 1) * rowOverhead) allow 0 :=
      ⟨nc.zero_le, (congrArg (fun n => n + _) (Nat.zero_add _)).trans_le h⟩
    have hfit : CtusFit bits nc b ((colAt.length - 1) * rowOverhead) allow
        (codedLengths bits bins guardB share nc b allow flush guard colAt).1 :=
      iteInduction (fun _h => hstart) fun _h => codeCtus_fit bins share nc 0 hstart
    -- The substreams together end at the last column boundary, which is the end of the row.
    have hcolumns : colAt.getD (colAt.length - 1) 0 = nc :=
      congrArg (fun a => a.getD 0) (List.getLast?_eq_getElem?.symm.trans hlast)
    have hk : colAt.length - 1 < colAt.length := Nat.pred_lt_self (List.length_pos_of_mem (List.mem_of_mem_head? hhead))
    ⟨(sum_substreams_le (rowCtuBits bits guardB b (codedLengths bits bins guardB share nc b allow flush guard colAt).1) flush
        hsorted hk).trans ((Nat.add_le_add_right ((congrArg (bitsTo _) hcolumns).trans_le (bitsTo_rowCtuBits_le bits guardB b hfit.1))
          _).trans hfit.2), hfit.1, fun h => if_pos h⟩⟩

end Sys2Proof.Machine
